-- ==== Sys2Proof/Word.lean ====
section
/-! DEFINITION. The word types of the DM-424 (00_scope, Conventions: a word is 32 bits, a halfword 16, a byte 8; addresses are byte addresses on a 24-bit space). -/

namespace Sys2Proof

/-- A byte. -/
abbrev Byte := BitVec 8

/-- A halfword: a sequence number, an event id, a factor set. -/
abbrev Half := BitVec 16

/-- A word: a bus datum, a cycle number, a mould serial. -/
abbrev Word := BitVec 32

/-- A 24-bit byte address (R1). -/
abbrev Addr := BitVec 24

/-- The four byte-lane enables of an access, lane `n` at bit `n` (R1). -/
abbrev Lanes := BitVec 4

end Sys2Proof
end

