-- ==== Sys2Proof/Syntax.lean ====
section
/-! DEFINITION. The commands of the DM-424: one constructor of `Instr` for each row of spec/opcode_table.json, with the row's operands. -/

namespace Sys2Proof

/-- What a bus-side access asks for: a full-word read, or a write with its lanes and data (R1). -/
inductive BusOp where
  /-- A read; it always returns a full word. -/
  | read
  /-- A write of `data` on the enabled `lanes`. -/
  | write (lanes : Lanes) (data : Word)
  deriving DecidableEq, Repr

/-- The four sources that place requests on the internal queue (R14). -/
inductive Source where
  /-- The Report Writer, for record words. -/
  | reportWriter
  /-- The status block update, for status words and the mirror sequence. -/
  | statusUpdate
  /-- The Command Unit, for completion words. -/
  | commandUnit
  /-- LOAD LOCATION TABLE, for reads of the table source. -/
  | tableLoad
  deriving DecidableEq, Repr

/-- The two batch counters of the Notice Unit (R144). -/
inductive BatchKind where
  | event
  | cycle
  deriving DecidableEq, Repr

/-- What a sample-window write's place among the other happenings of its moment decides. -/
structure WriteMoment where
  /-- The post-frame freeze that a completed frame asks for is not yet made when the next access is received (R122,
  R130). -/
  freezeLater   : Bool
  /-- A header that completes at the instant of a truncation takes its tag after the cycle's end and before the next one's
  start (R50). -/
  betweenCycles : Bool
  deriving DecidableEq, Repr

/-- Which edge events of a sample instant a LINE_SAMPLE takes, and in which order. -/
structure EdgeOrder where
  /-- The command goes on with an instant that has been sampled: no time passes and no line is sampled. -/
  more  : Bool
  /-- The lines whose edge events are taken, in this order; an edge event of another line stays due. -/
  lines : List (Fin 5)
  deriving DecidableEq, Repr

/-- The commands, in the order of the table. A row with no operand of its own acts on what the state holds for it
(the access in progress, the head of the command queue, the frame under analysis). -/
inductive Instr where
  /-- Power-on, or RST_N low (R11). -/
  | coldReset
  /-- RST_N high with a good supply (R161). -/
  | resetRelease
  /-- An image read attempt ends; the link answered the status poll with `status` and the read with `bytes` (R159, R161). -/
  | imageRead (status : Byte) (bytes : List Byte)
  /-- The 10 ms wait after a failed first attempt expires (R161). -/
  | imageRetry
  /-- The Image Loader applies its result and the path enters RUNNING (R12). -/
  | runningEntry
  /-- An access is received at the bus-side port (R1, R4). -/
  | busAccess (addr : Addr) (op : BusOp)
  /-- The granted bus-side access that is not snooped completes at the memory side (R2). -/
  | busAccessComplete
  /-- The granted snooped sample-window write completes (R8). -/
  | sampleWrite (moment : WriteMoment)
  /-- The granted snooped command-window write completes (R149). -/
  | commandWindowWrite
  /-- The granted snooped write of status word 62 completes (R146). -/
  | noticeControlWord
  /-- The granted snooped write of status word 63 completes (R138). -/
  | consumerIndex
  /-- The memory-side access of the oldest internal entry completes (R14). `first` is the source, if any, whose
  waiting request is placed before the Arbiter decides (R17). -/
  | internalAccessComplete (first : Option Source)
  /-- A waiting request of a source is placed (R15). -/
  | waitingRequestPlaced (source : Source)
  /-- The 10 µs sample of the five press lines: the pin levels (`true` is high), and the edge events of this one instant
  that are taken now, with their order; other happenings of the instant can come before the rest (R35, R36, R41, R48). -/
  | lineSample (pins : Vector Bool 5) (order : EdgeOrder)
  /-- The 10 µs sample of the TACHO pin (R39). -/
  | tachoSample (pin : Bool)
  /-- The running count has saturated: the Tacho Cell stalls (R40). -/
  | tachoStall
  /-- A DELAY step's ticks have passed (R45). -/
  | delayEnd
  /-- An EDGE step's ticks have passed without its edge (R46). -/
  | edgeTimeout
  /-- The head frame of the Analysis Queue is taken (R30). -/
  | frameTaken
  /-- The next sample set of the frame under analysis is processed (R58). -/
  | sampleSet
  /-- The below-run of a channel has reached HDT (R65). -/
  | hitEnd (channel : Fin 4)
  /-- The hit of a channel has reached D_max (R66). -/
  | longHit (channel : Fin 4)
  /-- The hold-off run of a channel has reached HDT (R67). -/
  | holdoffEnd (channel : Fin 4)
  /-- The lockout count of a channel has reached 0 (R68). -/
  | lockoutEnd (channel : Fin 4)
  /-- The position has reached the collecting event's window end (R86). -/
  | windowPassed
  /-- The next event that is due to complete completes (R95). -/
  | eventComplete
  /-- The Capture Unit takes the trigger of the completing event, with the first of its wanted frames, or the next wanted frame
  of the run in progress (R125, R127). -/
  | captureTrigger
  /-- A freeze that had to wait for an access is made or given up (R122). -/
  | freeze
  /-- The Report Writer takes the oldest handed record (R139). -/
  | recordTaken
  /-- A status block update begins (R142). -/
  | statusBlockUpdate
  /-- A cycle-end evaluation that is due begins (R104). -/
  | cycleEndEvaluation
  /-- A batch counter has reached 0 (R144). -/
  | batchCounter (kind : BatchKind)
  /-- The pulse timer's ticks have passed (R148). -/
  | stopPulseExpiry
  /-- The command at the head of the command queue is NOP and executes (R154). -/
  | nop
  | setDetector
  | setEvent
  | setWeights
  | setZonePolicy
  | loadGateProgram
  | setLine
  | setTachoBand
  | setLocationEntry
  | loadLocationTable
  | mouldChange
  | maskZone
  | unmaskZone
  | resetZone
  | releaseCapture
  | stopRelease
  | setNotice
  | setStop
  | zoneReport
  | saveConfiguration
  /-- The page being written polls ready (R156). -/
  | nvmPageReady
  /-- The page being written is not ready 20 ms after its write instruction (R159). -/
  | nvmPageTimeout
  /-- The readback ends; the link answered the poll with `status` and the read with `bytes` (R156). -/
  | nvmReadback (status : Byte) (bytes : List Byte)
  | reload
  deriving DecidableEq, Repr

end Sys2Proof
end

