-- ==== Sys2Proof/WellFormed.lean ====
section
/-! DEFINITION. Which commands are well formed: an image read carries the 1,024 bytes of the image (R159), and a LINE_SAMPLE names no line twice among the edge events that it takes (R36). -/

namespace Sys2Proof

/-- The number of bytes in the configuration image (00_scope, Terms: Image). -/
def imageLength : Nat := 1024

/-- A well-formed command. Every other operand is well formed by its type. -/
def Instr.wellFormed : Instr → Bool
  | .imageRead _ bytes => bytes.length == imageLength
  | .nvmReadback _ bytes => bytes.length == imageLength
  | .lineSample _ order => decide order.lines.Nodup
  | _ => true

end Sys2Proof
end

