-- ==== Sys2Proof/Machine/State.lean ====
section
/-! DEFINITION. The state of the DM-424, block by block in the manual's own shape, and the state right after reset. Plain data throughout. A field that is the model's own, not the spec's, says so. -/

namespace Sys2Proof.Machine

/-! ## Memory Path (chapter 1) -/

/-- The three path states (section 1.5). -/
inductive PathState where
  | starting
  | running
  | reloading
  deriving DecidableEq, Repr

/-- The window table: five bases and the report ring slot count (R3). -/
structure WindowTable where
  bs : Nat := 0x10000
  be : Nat := 0x18000
  bc : Nat := 0x20000
  bt : Nat := 0x20200
  br : Nat := 0x21000
  r  : Nat := 64
  deriving DecidableEq, Repr

/-- Where a bus-side access fell, as found at its receipt and kept until it completes (R4, R8, R9). -/
inductive Place where
  /-- The sample window: logical slot, physical slot and word index. -/
  | sample (slot : Fin 32) (phys : Fin 48) (word : Fin 128)
  /-- The command window: command slot and word. -/
  | command (slot : Fin 8) (word : Fin 16)
  /-- Status block word 62. -/
  | noticeWord
  /-- Status block word 63. -/
  | consumerWord
  /-- Any other place; its writes have no owner in the part. -/
  | other
  deriving DecidableEq, Repr

/-- The bus-side access in progress. `memAddr` is the address it presents to the memory side; `snooped` says that a
copy of the write is handed to its owner when it completes. -/
structure BusAccess where
  op      : BusOp
  memAddr : Nat
  place   : Place
  snooped : Bool
  deriving DecidableEq, Repr

/-- The two claimants of the memory-side port (section 1.7). -/
inductive Claimant where
  | busSide
  | internal
  deriving DecidableEq, Repr

/-- What the last bus-side access was answered with (the output of the bus-side port). -/
inductive Reply where
  /-- No access has been answered yet. -/
  | none
  /-- Read data. -/
  | data (w : Word)
  /-- A write acknowledged. -/
  | ack
  /-- A write that was in progress at a cold reset, not acknowledged (R11, log 11). -/
  | lost
  deriving DecidableEq, Repr

/-- The Path Unit and the Memory-Side Arbiter. -/
structure PathUnit where
  state     : PathState := .starting
  windows   : Option WindowTable := none
  bus       : Option BusAccess := none
  /-- The claimant that has the memory-side port; absent while the port is free. -/
  port      : Option Claimant := none
  lastGrant : Claimant := .busSide
  copy62    : Word := 0
  copy63    : Word := 0
  reply     : Reply := .none
  deriving DecidableEq, Repr

/-- What a request on the internal queue does (R14). -/
inductive ReqAct where
  /-- A write with all four lanes. -/
  | write (data : Word)
  /-- The write of a slot's completion word; the slot becomes DONE when it has been performed (R152). -/
  | completion (slot : Fin 8) (data : Word)
  /-- A read for LOAD LOCATION TABLE (R155). -/
  | tableRead
  deriving DecidableEq, Repr

/-- A request on the internal queue. -/
structure Request where
  addr : Nat
  act  : ReqAct
  deriving DecidableEq, Repr

/-! ## Press lines and the gate program (chapter 3) -/

inductive Polarity where
  | normal
  | inverted
  deriving DecidableEq, Repr

inductive EdgeMode where
  | rising
  | falling
  | both
  deriving DecidableEq, Repr

/-- The measuring edge of the tacho (R38). -/
inductive MeasEdge where
  | rising
  | falling
  deriving DecidableEq, Repr

/-- The settings of one Line Conditioner (section 3.1). -/
structure LineSettings where
  polarity : Polarity := .normal
  filter   : Nat := 3
  mode     : EdgeMode := .rising
  deriving DecidableEq, Repr

/-- A Line Conditioner; `level` is `true` for ACTIVE. -/
structure LineCond where
  settings : LineSettings := {}
  level    : Bool := false
  agree    : Nat := 0
  deriving DecidableEq, Repr

/-- The settings of the tacho input (R38). -/
structure TachoSettings where
  polarity : Polarity := .normal
  filter   : Nat := 3
  edge     : MeasEdge := .rising
  deriving DecidableEq, Repr

/-- The Tacho Cell (section 3.2). `stallHeld` is the model's own: the reading of the sample at which the running count
saturated, held until the stall has been taken (R40 takes the stall before the filter is applied). -/
structure TachoCell where
  settings  : TachoSettings := {}
  level     : Bool := false
  agree     : Nat := 0
  count     : Nat := 0
  reference : Bool := false
  stalled   : Bool := false
  last      : Nat := 0
  pmin      : Nat := 15000
  pmax      : Nat := 25000
  stallHeld : Option Bool := none
  deriving DecidableEq, Repr

/-- The four gates; `true` is open. -/
structure Gates where
  a     : Bool := false
  b     : Bool := false
  c     : Bool := false
  blank : Bool := false
  deriving DecidableEq, Repr

/-- The gate classes (R28); *blanked* is the absence of a class. -/
inductive Cls where
  | a
  | b
  | c
  | u
  deriving DecidableEq, Repr

/-- One value for each gate class. -/
structure PerClass (α : Type) where
  a : α
  b : α
  c : α
  u : α
  deriving DecidableEq, Repr

inductive WaitKind where
  | delay
  | edge
  deriving DecidableEq, Repr

/-- One step of a gate program (section 3.3). `line` is kept as the step word gives it, also for DELAY. -/
structure GateStep where
  wait  : WaitKind
  k     : Nat
  line  : Nat
  gates : Gates
  isEnd : Bool
  deriving DecidableEq, Repr

/-- The summary of the running cycle (section 3.5), without the cause and duration that its end fixes. -/
structure RunSummary where
  cycle        : Word
  vibOff       : Bool := false
  listenOpened : Bool := false
  minPeriod    : Option Nat := none
  maxPeriod    : Option Nat := none
  deriving DecidableEq, Repr

inductive Cause where
  | endStep
  | timeout
  | truncated
  | mould
  | reload
  deriving DecidableEq, Repr

/-- The cycle summary handed over with a cycle end (section 3.5). -/
structure CycleSummary where
  run      : RunSummary
  cause    : Cause
  duration : Nat
  deriving DecidableEq, Repr

/-- What the Gate Sequencer holds while IN_CYCLE. Times are counts of 10 µs sample instants. -/
structure CycleRun where
  step       : Nat
  stepStart  : Nat
  cycleStart : Nat
  summary    : RunSummary
  deriving DecidableEq, Repr

inductive SeqState where
  | stopped
  | idle
  | inCycle (run : CycleRun)
  deriving DecidableEq, Repr

/-- The Gate Sequencer. Two fields are the model's own: `truncated`, the cycle that the last CYC edge truncated and the time
at which it did, so that a header of that very instant can take its tag between the two cycles (R50; log 41); and `due`,
the lines whose edge event of the present sample instant has not been taken yet, so that a header or a measurement of
that instant can fall between two edge events (R41, R44, R48; log 7). -/
structure Sequencer where
  state     : SeqState := .stopped
  gates     : Gates := {}
  cycle     : Word := 0
  active    : Option (List GateStep) := none
  staged    : Option (List GateStep) := none
  truncated : Option (Word × Nat) := none
  due       : List (Fin 5) := []
  deriving DecidableEq, Repr

/-! ## Sample frames (chapter 2) -/

/-- The frame tag: cycle number and gate state at the header (R28). -/
structure FrameTag where
  cycle : Word
  gates : Gates
  deriving DecidableEq, Repr

/-- The content tag of a physical slot (section 2.4). -/
inductive ContentTag where
  | empty
  | assembling
  | complete (s : Half)
  | disturbed
  deriving DecidableEq, Repr

/-- The assembly in progress (section 2.2). Buffer word `i` of the manual stands at index `i - 1`. -/
structure Assembly where
  slot     : Fin 32
  phys     : Fin 48
  seq      : Half
  valid    : BitVec 4
  overload : Bool
  buf      : Vector Word 126
  written  : Vector Bool 126
  torn     : Bool
  tag      : FrameTag
  deriving DecidableEq, Repr

/-- A queued frame: the copy made at its completion (R26). -/
structure QFrame where
  seq      : Half
  valid    : BitVec 4
  overload : Bool
  tag      : FrameTag
  missing  : Nat
  data     : Vector Word 126
  deriving DecidableEq, Repr

/-- A cycle account (R33, with the three counts of R89). -/
structure Account where
  cycle      : Word
  analysed   : PerClass Nat := ⟨0, 0, 0, 0⟩
  lostListen : Nat := 0
  strays     : Nat := 0
  events     : PerClass Nat := ⟨0, 0, 0, 0⟩
  late       : Nat := 0
  orphans    : Nat := 0
  deriving DecidableEq, Repr

/-- The Frame Assembler, with the stream position, the totals and the open accounts (oldest first). -/
structure Assembler where
  assembly     : Option Assembly := none
  lastAccepted : Option Half := none
  pendingLost  : Nat := 0
  tags         : Vector ContentTag 48 := Vector.replicate 48 .empty
  position     : Nat := 0
  analysed     : Word := 0
  lost         : Word := 0
  accounts     : List Account := []
  deriving DecidableEq, Repr

/-- An entry of the Analysis Queue; a marker carries its cycle's summary (R53). -/
inductive AQEntry where
  | frame (f : QFrame)
  | marker (summary : CycleSummary)
  deriving DecidableEq, Repr

/-- A transition of a channel that falls due within a sample set and has a row of its own. -/
inductive Due where
  | hitEnd
  | longHit
  | holdoffEnd
  | lockoutEnd
  deriving DecidableEq, Repr

/-- How far the frame under analysis has come (R29, R30, R58). The model's own: it names the points between the
indivisible steps of one frame. -/
inductive Phase where
  /-- The completions of the gap step's check are being carried through. -/
  | gap
  /-- The frame is skipped; the completions of R88 are being carried through. -/
  | skip
  /-- `n` sample sets have been processed whole. -/
  | sets (n : Nat)
  /-- In sample set `n`, a transition of channel `c` falls due before the set goes on. -/
  | due (n : Nat) (c : Fin 4) (what : Due)
  /-- The position of sample set `n` was handed over and the collecting event's window has passed. -/
  | window (n : Nat)
  /-- The completions of the check at the end of the frame are being carried through. -/
  | check
  deriving DecidableEq, Repr

/-- The frame under analysis. -/
structure FrameWork where
  frame : QFrame
  phase : Phase
  deriving DecidableEq, Repr

/-- The Analysis Queue and the frame under analysis (section 2.6). -/
structure AnalysisQueue where
  entries : List AQEntry := []
  work    : Option FrameWork := none
  deriving DecidableEq, Repr

/-! ## Hit detection (chapter 4) -/

/-- The seven detector settings (section 4.1). -/
structure DetSettings where
  kEnv    : Nat := 2
  kUp     : Nat := 6
  f       : Nat := 48
  code    : Nat := 1
  hdt     : Nat := 64
  lockout : Nat := 32
  dMax    : Nat := 2048
  deriving DecidableEq, Repr

/-- The hit record of an ACTIVE channel (section 4.2). -/
structure HitRecord where
  arrival      : Nat
  seq          : Half
  cls          : Cls
  cycle        : Word
  peak         : Nat
  counts       : Nat
  energy       : Nat
  lastAbove    : Nat
  energyAtLast : Nat
  belowRun     : Nat
  clipped      : Bool
  deriving DecidableEq, Repr

/-- A channel's state; `latched` is the latched threshold, absent in IDLE and LOCKOUT. -/
inductive ChanState where
  | idle
  | active (latched : Nat) (hit : HitRecord)
  | holdoff (latched : Nat) (run : Nat)
  | lockout (count : Nat)
  deriving DecidableEq, Repr

/-- One Hit Detector. `quiet` and `minEnv` carry R75 through a frame: the channel was IDLE at the first sample set and
has started no hit, and the least envelope so far. -/
structure Channel where
  state    : ChanState := .idle
  env      : Nat := 0
  prev     : Nat := 0
  frameTh  : Nat := 128
  floors   : PerClass Nat := ⟨0, 0, 0, 0⟩
  quiet    : Bool := false
  minEnv   : Nat := 0
  deriving DecidableEq, Repr

/-- The four Hit Detectors and their settings. -/
structure Detectors where
  settings : DetSettings := {}
  pending  : Option DetSettings := none
  chans    : Vector Channel 4 := Vector.replicate 4 {}
  deriving DecidableEq, Repr

/-! ## Events and location (chapter 5) -/

/-- The event settings (section 5.2). -/
structure EventSettings where
  w        : Nat := 400
  wCap     : Nat := 0
  suspect  : Bool := true
  pre      : Nat := 2
  post     : Nat := 2
  gA       : Nat := 4
  gB       : Nat := 3
  gC       : Nat := 2
  slope    : Nat := 2
  octFloor : Nat := 8
  deriving DecidableEq, Repr

/-- The features of a finished hit (R69); the octave is computed from the peak. -/
structure Features where
  arrival : Nat
  stop    : Nat
  dur     : Nat
  peak    : Nat
  counts  : Nat
  energy  : Nat
  long    : Bool
  clipped : Bool
  gap     : Bool
  deriving DecidableEq, Repr

inductive MemberState where
  | running
  | closed (f : Features)
  | abandoned
  deriving DecidableEq, Repr

structure Member where
  ch      : Fin 4
  arrival : Nat
  state   : MemberState
  deriving DecidableEq, Repr

/-- What a completion check in progress has decided for an open event (R87, R88). -/
inductive Fate where
  | stays
  | completes
  | abandons
  deriving DecidableEq, Repr

/-- An open event (section 5.1). `fate` is the model's own: it carries a completion check across its completions. -/
structure OpenEvent where
  id         : Half
  t1         : Nat
  windowEnd  : Nat
  collecting : Bool
  cls        : Cls
  cycle      : Word
  trigSeq    : Half
  members    : List Member
  secondary  : Nat
  fate       : Fate
  deriving DecidableEq, Repr

/-- A channel's assignment (section 5.1). -/
inductive Assign where
  | none
  | member (id : Half)
  | secondary (id : Half)
  | orphan
  deriving DecidableEq, Repr

/-- A capture trigger (R96). -/
structure Trigger where
  id    : Half
  zone  : Nat
  cycle : Word
  seq   : Half
  pre   : Nat
  post  : Nat
  deriving DecidableEq, Repr

/-- Where a completion in progress stands between the indivisible steps of R95. -/
inductive CompStage where
  /-- Its trigger waits for the Capture Unit (item 3). -/
  | trigger (t : Trigger)
  /-- Its EVENT record has been handed over (item 4). -/
  | record
  deriving DecidableEq, Repr

/-- The completion in progress, with what items 1 and 2 of R95 have fixed. -/
structure Completion where
  event     : OpenEvent
  abandoned : Bool
  late      : Bool
  located   : Bool
  zone      : Nat
  weight    : Nat
  masked    : Bool
  capture   : Option (Fin 4)
  stage     : CompStage
  deriving DecidableEq, Repr

/-- A profile: the data set of one mould type (00_scope, Terms; section 10.2). -/
structure Profile where
  type      : Nat
  zoneCount : Nat
  q         : Nat
  table     : Vector Byte 196
  mask      : BitVec 24
  deriving DecidableEq, Repr

/-- The Event Builder. -/
structure EventBuilder where
  openEvents : List OpenEvent := []
  assign     : Vector Assign 4 := Vector.replicate 4 .none
  nextId     : Half := 0
  settings   : EventSettings := {}
  pending    : Option EventSettings := none
  profile    : Option Profile := none
  completion : Option Completion := none
  deriving DecidableEq, Repr

/-! ## Zone evidence (chapter 6) -/

inductive ZoneState where
  | clear
  | watch
  | suspect
  | cracked
  | masked
  deriving DecidableEq, Repr

/-- A zone record (R98). -/
structure ZoneRecord where
  state      : ZoneState := .clear
  score      : Nat := 0
  streak     : Nat := 0
  hitsCycle  : Nat := 0
  totalHits  : Nat := 0
  maskedHits : Nat := 0
  lastHit    : Option Word := none
  peakOctave : Option Nat := none
  deriving DecidableEq, Repr

/-- The zone policy (section 6.1). -/
structure Policy where
  tWatch     : Nat := 40
  tSuspect   : Nat := 120
  tCrack     : Nat := 300
  h          : Nat := 10
  n          : Nat := 3
  d          : Nat := 4
  b          : Nat := 8
  blindLimit : Nat := 8
  offBlind   : Bool := true
  deriving DecidableEq, Repr

/-- The evaluation in progress (R104), with the account it has received and the policy in force when it began to run. -/
structure EvalWork where
  account : Account
  summary : CycleSummary
  policy  : Policy
  blind   : Bool
  stale   : Bool
  changed : Nat
  deriving DecidableEq, Repr

/-- The Zone Table. An absent zone has no record. -/
structure ZoneTable where
  records    : Vector (Option ZoneRecord) 24 := Vector.replicate 24 none
  policy     : Policy := {}
  mouldType  : Nat := 0
  serial     : Word := 0
  firstCycle : Word := 1
  started    : Bool := false
  /-- The cycle ends whose evaluations have fallen due at once and not begun, oldest first (R31, R53). -/
  due        : List CycleSummary := []
  eval       : Option EvalWork := none
  deriving DecidableEq, Repr

/-! ## Evidence capture (chapter 7) -/

inductive CapState where
  | free
  | opened
  | held
  deriving DecidableEq, Repr

/-- An entry of the capture table (section 7.2). The first zone and first tag cycle of a FREE entry are 0 at reset, a value
that R123 does not give. (DESIGN CHOICE, log 10) -/
structure Capture where
  state     : CapState := .free
  triggers  : List Half := []
  extra     : Nat := 0
  zone      : Nat := 0
  cycle     : Word := 0
  frames    : List (Half × Fin 48) := []
  missed    : Nat := 0
  remaining : Nat := 0
  truncated : Bool := false
  deriving DecidableEq, Repr

/-- A trigger's run between two of its wanted frames: those still to be taken, oldest first (R127). `waits` holds the logical
and the physical slot where the freeze of the head of `wanted` waits for an access to that physical slot (R122). -/
structure CaptureRun where
  cap    : Fin 4
  wanted : List Half
  post   : Nat
  waits  : Option (Fin 32 × Fin 48)
  deriving DecidableEq, Repr

/-- A post-frame whose freeze has not been made yet (R122, R130). -/
structure PostFreeze where
  slot : Fin 32
  phys : Fin 48
  seq  : Half
  deriving DecidableEq, Repr

/-- The Capture Unit, with the Slot Map and the spare list. -/
structure CaptureUnit where
  map    : Vector (Fin 48) 32 := ⟨⟨(List.finRange 32).map (Fin.castLE (by decide))⟩, by simp⟩
  spare  : List (Fin 48) := (List.finRange 16).map (Fin.natAdd 32)
  table  : Vector Capture 4 := Vector.replicate 4 {}
  latest : Option Half := none
  run    : Option CaptureRun := none
  post   : Option PostFreeze := none
  deriving DecidableEq, Repr

/-! ## Report ring, status block, notices and stop (chapter 8) -/

inductive RecKind where
  | event
  | cycle
  | zoneChange
  | capture
  | mould
  | zoneDetail
  deriving DecidableEq, Repr

/-- The work of a record's source that follows the record and waits with it (R15, R139). -/
inductive Cont where
  /-- Nothing waits. -/
  | nothing
  /-- Item 5 of R95, and the end of the completion. -/
  | eventDone
  /-- R109 after the ZONE_CHANGE record of zone `z`, whose state rose or dropped, and the zones that follow. -/
  | evalZone (z : Nat) (rose : Bool)
  /-- R110 after the CYCLE record. -/
  | evalDone
  /-- The completion of a zone command (R113 to R115). -/
  | zoneCommand
  /-- The next ZONE_DETAIL record, from zone `z` on (R116). -/
  | zoneReport (z : Nat)
  /-- R118 after the MOULD record, and R134. -/
  | mouldPut
  deriving DecidableEq, Repr

/-- A record as its source hands it over: the body is the words from word 2 on. -/
structure Record where
  kind  : RecKind
  body  : List Word
  flags : Nat
  cont  : Cont
  deriving DecidableEq, Repr

/-- The record being placed: the address of its next word and the words still to place (R139). -/
structure Placing where
  kind  : RecKind
  addr  : Nat
  words : List Word
  cont  : Cont
  deriving DecidableEq, Repr

/-- The Report Writer. `handed` holds the records handed over and not yet taken, oldest first; `pendingC` a consumer
index that arrived while a record was being placed (R138). -/
structure ReportWriter where
  p        : Nat := 0
  c        : Nat := 0
  seq      : Half := 0
  gap      : Nat := 0
  handed   : List Record := []
  placing  : Option Placing := none
  pendingC : Option Nat := none
  deriving DecidableEq, Repr

/-- The status block update: the marked words (rising, no repeats), the words of an update in progress still to be
placed (word 0 follows them), and the mirror sequence (R141, R142). -/
structure StatusUpdate where
  marks  : List Nat := []
  update : Option (List Nat) := none
  mirror : Word := 0
  deriving DecidableEq, Repr

inductive ClearMode where
  | clearOnOne
  | replace
  deriving DecidableEq, Repr

inductive StopMode where
  | latch
  | pulse
  deriving DecidableEq, Repr

/-- A batch count and its counter; a counter of 0 has its raise due (R144). -/
structure Batch where
  count   : Nat := 1
  counter : Nat := 1
  deriving DecidableEq, Repr

/-- The Notice Unit. Factor sets are 16-bit fields, factor `n` at bit `n`; `pulse` is the start of a running pulse timer. -/
structure NoticeUnit where
  pending    : Half := 0
  enables    : Half := 0xFFFF
  levels     : Vector Nat 16 := ⟨#[0, 1, 1, 1, 0, 1, 1, 1, 1, 1, 1, 1, 1, 1, 1, 1], rfl⟩
  batchEvent : Batch := {}
  batchCycle : Batch := {}
  mask       : Nat := 0
  clearMode  : ClearMode := .clearOnOne
  sources    : Half := 0x0008
  latch      : Bool := false
  mode       : StopMode := .latch
  k          : Nat := 0
  pulse      : Option Nat := none
  deriving DecidableEq, Repr

/-! ## Command slots (chapter 9) -/

inductive SlotState where
  | free
  | pending
  | executing
  | done
  deriving DecidableEq, Repr

/-- A command slot (section 9.1). -/
structure Slot where
  state     : SlotState := .free
  shadow    : Vector Word 16 := Vector.replicate 16 0
  disturbed : Bool := false
  deriving DecidableEq, Repr

/-- The completion codes (R152). -/
inductive Code where
  | done
  | doneClamped
  | accepted
  | refusedUnknown
  | refusedLength
  | refusedValue
  | refusedOrder
  | refusedBusy
  | refusedNoProfile
  | nvmFault
  | discarded
  deriving DecidableEq, Repr

/-- Where a MOULD CHANGE stands (R117). -/
inductive MouldStage where
  /-- The evaluation of the cycle it ended runs (R112). -/
  | evaluation
  /-- The open events complete or are abandoned (R88). -/
  | events
  /-- The MOULD record has been handed over (R118). -/
  | record
  /-- The record has been dealt with, and a post-frame of the OPEN capture waits for an access to its slot (R122, R134). -/
  | capture
  deriving DecidableEq, Repr

/-- What the EXECUTING command is doing. -/
inductive Job where
  /-- Its completion word waits for room, or waits to be performed (R152). -/
  | completing
  /-- It has handed a record over and waits with it (R153). -/
  | records
  /-- LOAD LOCATION TABLE: the entries received so far (R155). -/
  | loading (got : List Byte)
  /-- SAVE CONFIGURATION: page `page` of `image` is being written; its write instruction ends at time `since` (R156,
  R159). -/
  | saving (image : List Byte) (page : Nat) (since : Nat)
  /-- SAVE CONFIGURATION: the image is being read back (R156). -/
  | verifying (image : List Byte)
  /-- MOULD CHANGE to `profile` with mould serial `serial` (R117). -/
  | mould (profile : Profile) (serial : Word) (stage : MouldStage)
  /-- RELOAD: it has begun, and waits for room for its completion words (R15, R153, R157). -/
  | reloading
  deriving DecidableEq, Repr

/-- The EXECUTING slot and its command's work. -/
structure Executing where
  slot : Fin 8
  job  : Job
  deriving DecidableEq, Repr

/-- The Command Unit. `waits` holds completion words that wait for room on the internal queue and `loadWaits` the
table reads that do (R15). -/
structure CommandUnit where
  slots     : Vector Slot 8 := Vector.replicate 8 {}
  queue     : List (Fin 8) := []
  exec      : Option Executing := none
  waits     : List (Fin 8 × Code) := []
  loadWaits : List Nat := []
  deriving DecidableEq, Repr

/-! ## Configuration image and start-up (chapter 10) -/

/-- The image status of status word 1 (R161). -/
structure ImageStatus where
  defaults : Bool := false
  retried  : Bool := false
  clamped  : Bool := false
  deriving DecidableEq, Repr

/-- The values that an image, or the built-in defaults, give to every block (section 10.2). -/
structure ImageConfig where
  windows     : WindowTable
  det         : DetSettings
  event       : EventSettings
  policy      : Policy
  pmin        : Nat
  pmax        : Nat
  lines       : Vector LineSettings 5
  tacho       : TachoSettings
  program     : List GateStep
  enables     : Half
  levels      : Vector Nat 16
  batchEvent  : Nat
  batchCycle  : Nat
  clearMode   : ClearMode
  sources     : Half
  stopMode    : StopMode
  stopK       : Nat
  initialType : Nat
  profiles    : List Profile
  deriving DecidableEq, Repr

/-- What the Image Loader is doing. -/
inductive LoaderPhase where
  /-- RST_N is low. -/
  | held
  /-- An attempt of the image read runs; `second` after a failed first one. -/
  | reading (second : Bool)
  /-- The 10 ms wait, begun at time `since`. -/
  | retryWait (since : Nat)
  /-- The result is ready to be applied at the entry to RUNNING. -/
  | ready (cfg : ImageConfig) (status : ImageStatus)
  /-- Nothing: the part is RUNNING. -/
  | idle
  deriving DecidableEq, Repr

/-- The Image Loader. `stored` is the list of stored profiles; `sent` the instructions of the operation last begun on the
NVM link, each as its bytes in sending order (R159). -/
structure Loader where
  phase  : LoaderPhase := .held
  status : ImageStatus := {}
  stored : List Profile := []
  sent   : List (List Byte) := []
  deriving DecidableEq, Repr

/-! ## The whole part -/

/-- The state of the part with the shared SRAM behind it.
`mem` lists the SRAM bytes that differ from what an unlisted byte reads as (`Memory.unlisted`), by strictly rising address.
`pending` is the queue of commands waiting, first in, first out.
`clock` and `free` are the model's own: the count of 10 µs sample instants, and the counter of free values drawn. -/
structure State where
  pending : List Instr := []
  mem     : List Host.Cell := []
  path    : PathUnit := {}
  iq      : List Request := []
  loader  : Loader := {}
  asm     : Assembler := {}
  aq      : AnalysisQueue := {}
  lines   : Vector LineCond 5 := Vector.replicate 5 {}
  tacho   : TachoCell := {}
  gate    : Sequencer := {}
  det     : Detectors := {}
  ev      : EventBuilder := {}
  zone    : ZoneTable := {}
  cap     : CaptureUnit := {}
  report  : ReportWriter := {}
  status  : StatusUpdate := {}
  notice  : NoticeUnit := {}
  cmd     : CommandUnit := {}
  clock   : Nat := 0
  free    : Nat := 0
  deriving DecidableEq, Repr

/-- The part right after a cold reset (R11, R19, R43, R57, R80, R136, R158, section 3.1, R143 to R147): every field at the
value the spec gives it, or at the value the assumption log names, with RST_N low and an empty command queue. (log 10) -/
def State.reset : State := {}

/-- The reasons a step could stop with a fault: none. The spec gives the part no event that stops it, and every address of
the 24-bit space exists; the type is empty, so no step can answer a fault. -/
inductive Fault where
  deriving DecidableEq, Repr

/-- The reasons a step could be refused. -/
inductive Refusal where
  /-- Raised by `exec` alone, for a row that has no meaning in the model. No row is without one, so nothing raises it (safe). -/
  | notModelled (mnemonic : String)
  deriving DecidableEq, Repr

end Sys2Proof.Machine
end

