-- ==== Sys2Proof/Machine/Bits.lean ====
section
/-! DEFINITION. Bit fields, byte order and small helpers used by every layout of chapter 11 (R163). -/

namespace Sys2Proof.Machine

/-- Bits `lo + width - 1` to `lo` of a word, as a number. -/
def bits (w : Word) (lo width : Nat) : Nat := w.toNat >>> lo % 2 ^ width

/-- One bit of a word. -/
def bit (w : Word) (i : Nat) : Bool := w.getLsbD i

/-- A field value placed at bit `lo` with `width` bits. -/
def fieldAt (v lo width : Nat) : Word := BitVec.ofNat 32 (v % 2 ^ width * 2 ^ lo)

/-- A word made of fields `(value, low bit, width)`; every bit outside them is 0 (R163). -/
def packWord (fields : List (Nat × Nat × Nat)) : Word :=
  fields.foldr (fun f acc => fieldAt f.1 f.2.1 f.2.2 ||| acc) 0

/-- Byte `n` of a word: lane `n` holds bits 8n + 7 to 8n (R163). -/
def byteOf (w : Word) (n : Nat) : Byte := BitVec.ofNat 8 (w.toNat >>> (8 * n))

/-- The word whose lanes 0 to 3 are the four bytes (R163). -/
def wordOf (b0 b1 b2 b3 : Byte) : Word := b3 ++ b2 ++ b1 ++ b0

/-- The merge of R10: each enabled lane takes the new byte, each disabled lane keeps the old one. -/
def mergeLanes (old new : Word) (lanes : Lanes) : Word :=
  let pick (n : Nat) : Byte := if lanes.getLsbD n then byteOf new n else byteOf old n
  wordOf (pick 0) (pick 1) (pick 2) (pick 3)

/-- All four lanes enabled: a full-word write (R8). -/
def fullWord (lanes : Lanes) : Bool := lanes == 0xF

/-- FFFFFFFFH. -/
def allOnes : Word := 0xFFFFFFFF

/-- 1 for `true`, 0 for `false`. -/
def flag (b : Bool) : Nat := if b then 1 else 0

/-- An increment that saturates at `top`. -/
def satInc (v top : Nat) : Nat := min top (v + 1)

/-- Element `i` of a vector, or `d` outside it. -/
def vget {α : Type} {n : Nat} (v : Vector α n) (i : Nat) (d : α) : α := v[i]?.getD d

/-- A vector with element `i` changed by `f`; unchanged for an index outside it. -/
def vmod {α : Type} {n : Nat} (v : Vector α n) (i : Nat) (f : α → α) : Vector α n :=
  if h : i < n then v.set i (f v[i]) else v

/-- The value of one class. -/
def PerClass.get {α : Type} (p : PerClass α) : Cls → α
  | .a => p.a
  | .b => p.b
  | .c => p.c
  | .u => p.u

/-- The value of one class changed by `f`. -/
def PerClass.mod {α : Type} (p : PerClass α) (k : Cls) (f : α → α) : PerClass α :=
  match k with
  | .a => { p with a := f p.a }
  | .b => { p with b := f p.b }
  | .c => { p with c := f p.c }
  | .u => { p with u := f p.u }

/-- The gate bits, LISTEN_A lowest (section 11.1). -/
def Gates.toNat (g : Gates) : Nat := flag g.a + 2 * flag g.b + 4 * flag g.c + 8 * flag g.blank

/-- The gates of a 4-bit field. -/
def Gates.ofNat (v : Nat) : Gates :=
  { a := v.testBit 0, b := v.testBit 1, c := v.testBit 2, blank := v.testBit 3 }

/-- Any of the three listen gates is open. -/
def Gates.listen (g : Gates) : Bool := g.a || g.b || g.c

/-- The class of a gate state (R28); `none` is *blanked*. -/
def Gates.cls? (g : Gates) : Option Cls :=
  if g.blank then none else if g.a then some .a else if g.b then some .b else if g.c then some .c else some .u

/-- The class code (section 11.1). -/
def Cls.code : Cls → Nat
  | .a => 0
  | .b => 1
  | .c => 2
  | .u => 3

/-- A listen class (R28). -/
def Cls.listen : Cls → Bool
  | .u => false
  | _ => true

/-- The cycle end cause code (section 11.1). -/
def Cause.code : Cause → Nat
  | .endStep => 0
  | .timeout => 1
  | .truncated => 2
  | .mould => 3
  | .reload => 4

/-- The zone state code (section 11.1). -/
def ZoneState.code : ZoneState → Nat
  | .clear => 0
  | .watch => 1
  | .suspect => 2
  | .cracked => 3
  | .masked => 4

/-- The code of an absent zone (section 11.1). -/
def absentZoneCode : Nat := 7

/-- The capture state code (section 11.1). -/
def CapState.code : CapState → Nat
  | .free => 0
  | .opened => 1
  | .held => 2

/-- The slot state code (section 11.1). -/
def SlotState.code : SlotState → Nat
  | .free => 0
  | .pending => 1
  | .executing => 2
  | .done => 3

/-- The completion code byte (section 11.3). -/
def Code.byte : Code → Nat
  | .done => 0x01
  | .doneClamped => 0x02
  | .accepted => 0x03
  | .refusedUnknown => 0x10
  | .refusedLength => 0x11
  | .refusedValue => 0x12
  | .refusedOrder => 0x13
  | .refusedBusy => 0x14
  | .refusedNoProfile => 0x15
  | .nvmFault => 0x20
  | .discarded => 0x21

/-- The record kind code (section 11.5). -/
def RecKind.code : RecKind → Nat
  | .event => 1
  | .cycle => 2
  | .zoneChange => 3
  | .capture => 4
  | .mould => 5
  | .zoneDetail => 6

/-- The cycle number after `n`: it wraps from FFFFFFFFH to 1 (R44). -/
def nextCycle (n : Word) : Word := if n = 0xFFFFFFFF then 1 else n + 1

/-- The 48-bit stream position saturates (R32). -/
def positionTop : Nat := 2 ^ 48 - 1

/-- The stream position advanced by `n` (R32). -/
def advancePosition (p n : Nat) : Nat := min positionTop (p + n)

end Sys2Proof.Machine
end

