-- ==== Sys2Proof/Machine/Detect.lean ====
section
/-! DEFINITION. The Hit Detectors' arithmetic on one channel: rectifying, the envelope, thresholds, the state machine, interruptions and noise floors (R55 to R79). -/

namespace Sys2Proof.Machine

/-! ## Samples and the envelope -/

/-- The sample of channel `c` in sample set `j` of a frame; 0 for a channel outside the valid mask (R18, R58). -/
def QFrame.sample (f : QFrame) (j : Nat) (c : Fin 4) : BitVec 16 :=
  if f.valid.getLsbD c then (vget f.data (2 * j + c / 2) 0 >>> (16 * (c.val % 2))).setWidth 16 else 0

/-- The rectified value of a sample (R60). -/
def rectify (x : BitVec 16) : Nat := min 32767 x.toInt.natAbs

/-- A clipped sample: 32767 or −32768 (R60). -/
def clippedSample (x : BitVec 16) : Bool := x == 0x7FFF#16 || x == 0x8000#16

/-- The updated envelope, the division rounding toward minus infinity (R61). -/
def envelopeStep (e a k : Nat) : Nat := ((e : Int) + ((a : Int) - (e : Int)) / (2 ^ k : Int)).toNat

/-- One term of the running energy (R63). -/
def energyTerm (a : Nat) : Nat := (a / 64) ^ 2

/-! ## Thresholds -/

/-- The ladder value of a code: the least threshold (R56, R62). -/
def ladder (code : Nat) : Nat := 128 * (code + 1)

/-- The frame threshold of a floor (R62). -/
def frameThreshold (d : DetSettings) (n : Nat) : Nat := min 32767 (max (ladder d.code) (n * d.f / 16))

/-- A channel's latched threshold raised to a new ladder value (R56). -/
def Channel.raiseLatched (code : Nat) (ch : Channel) : Channel :=
  match ch.state with
  | .active t h => { ch with state := .active (max t (ladder code)) h }
  | .holdoff t r => { ch with state := .holdoff (max t (ladder code)) r }
  | _ => ch

/-! ## The state machine (R63 to R68) -/

/-- The top of the running energy (R64). -/
def energyTop : Nat := 0xFFFFFFFF

/-- The hit record at the arrival (R63). -/
def HitRecord.start (p : Nat) (seq : Half) (cls : Cls) (cycle : Word) (a : Nat) (clip : Bool) : HitRecord :=
  { arrival := p, seq := seq, cls := cls, cycle := cycle, peak := a, counts := 1, energy := energyTerm a, lastAbove := p,
    energyAtLast := energyTerm a, belowRun := 0, clipped := clip }

/-- The hit record updated at position `p` with rectified value `a`, updated envelope `e` and previous rectified value
`prev`, under latched threshold `t` (R64). -/
def HitRecord.update (h : HitRecord) (t p a e prev : Nat) (clip : Bool) : HitRecord :=
  let energy := min energyTop (h.energy + energyTerm a)
  let h1 := { h with
    peak := max h.peak a
    counts := if t ≤ a && prev < t then satInc h.counts 255 else h.counts
    energy := energy
    clipped := h.clipped || clip }
  if t ≤ e then { h1 with lastAbove := p, energyAtLast := energy, belowRun := 0 }
  else { h1 with belowRun := h.belowRun + 1 }

/-- What one step of a channel asks for. -/
inductive ChanOut where
  /-- Nothing. -/
  | quiet
  /-- A hit start is handed over (R63). -/
  | started
  /-- A transition falls due before the sample set goes on (R65 to R68). -/
  | due (what : Due)
  deriving DecidableEq, Repr

/-- The state step at position `p`, once the envelope is updated to `e` (section 4.4). The hit start takes its frame
sequence, class and tag cycle from the frame. -/
def ChanState.step (d : DetSettings) (st : ChanState) (frameTh p a e prev : Nat) (clip : Bool) (seq : Half) (cls : Cls)
    (cycle : Word) : ChanState × ChanOut :=
  match st with
  | .idle =>
    if frameTh ≤ e && e ≤ a then (.active frameTh (.start p seq cls cycle a clip), .started) else (.idle, .quiet)
  | .active t h =>
    let h1 := h.update t p a e prev clip
    (.active t h1,
      if d.hdt ≤ h1.belowRun then .due .hitEnd
      else if h1.arrival + d.dMax - 1 ≤ p then .due .longHit
      else .quiet)
  | .holdoff t r =>
    let r1 := if e < t then r + 1 else 0
    (.holdoff t r1, if d.hdt ≤ r1 then .due .holdoffEnd else .quiet)
  | .lockout n => (.lockout (n - 1), if n - 1 = 0 then .due .lockoutEnd else .quiet)

/-- One channel's work at a sample set: rectify, update the envelope, step the state machine (R58, R60, R61). -/
def Channel.step (d : DetSettings) (ch : Channel) (p : Nat) (x : BitVec 16) (seq : Half) (cls : Cls) (cycle : Word) :
    Channel × ChanOut :=
  let a := rectify x
  let e := envelopeStep ch.env a d.kEnv
  let r := ch.state.step d ch.frameTh p a e ch.prev (clippedSample x) seq cls cycle
  ({ ch with
      state := r.1
      env := e
      prev := a
      quiet := ch.quiet && r.2 != .started
      minEnv := min ch.minEnv e }, r.2)

/-- The state after a hit or a hold-off has ended: LOCKOUT with count L, or IDLE if L is 0 (R65, R67). -/
def afterHit (d : DetSettings) : ChanState := if 0 < d.lockout then .lockout d.lockout else .idle

/-! ## Features (R69) -/

/-- The features of a hit that ends at last-above: by R65, or with GAP by R70. -/
def HitRecord.closedAtLast (h : HitRecord) (gap : Bool) : Features :=
  { arrival := h.arrival, stop := h.lastAbove, dur := h.lastAbove - h.arrival + 1, peak := h.peak, counts := h.counts,
    energy := h.energyAtLast, long := false, clipped := h.clipped, gap := gap }

/-- The features of a hit that closes as LONG at position `p` (R66). -/
def HitRecord.closedLong (h : HitRecord) (p : Nat) : Features :=
  { arrival := h.arrival, stop := p, dur := p - h.arrival + 1, peak := h.peak, counts := h.counts, energy := h.energy,
    long := true, clipped := h.clipped, gap := false }

/-! ## Frames and floors (R58, R75, R76) -/

/-- A channel at the start of an analysed frame of class `k`. Whether it is IDLE for R75 is fixed here, at the frame's
start (R72). (DESIGN CHOICE for a MOULD CHANGE before the first sample set, log 42) -/
def Channel.beginFrame (d : DetSettings) (k : Cls) (ch : Channel) : Channel :=
  { ch with
    frameTh := frameThreshold d (ch.floors.get k)
    quiet := ch.state == .idle
    minEnv := 32767 }

/-- The new floor for a least envelope `m` (R76). -/
def floorStep (kUp n m : Nat) : Nat := if n < m then n + (m - n) / 2 ^ kUp else n - (n - m) / 4

/-- A channel at the end of an analysed frame of class `k`: an eligible one makes its floor update (R75). -/
def Channel.endFrame (d : DetSettings) (k : Cls) (ch : Channel) : Channel :=
  if ch.quiet then { ch with floors := ch.floors.mod k fun n => floorStep d.kUp n ch.minEnv } else ch

/-- A channel put in IDLE (R70 to R72). Envelope, previous value and floors are kept. -/
def Channel.toIdle (ch : Channel) : Channel := { ch with state := .idle }

/-- A channel at the entry to RELOADING: only the floors are kept (R57). -/
def Channel.reload (ch : Channel) : Channel := { floors := ch.floors }

end Sys2Proof.Machine
end

