-- ==== Sys2Proof/Config.lean ====
section
/-! DEFINITION. What the spec leaves open for one implementation: opaque constants, of which nothing can be evaluated or proved. -/

namespace Sys2Proof

/-- The version shown in status word 2 (R141 gives the word and no value). (log 12) -/
opaque Config.version : BitVec 16

/-- Whether a bus-side write that had the memory-side port when a cold reset fell is performed; R11 states the outcome
only for an access not yet granted. Applied to the state's free-value counter. (log 11) -/
opaque Config.coldWriteLands : Nat → Bool

/-- The data returned by a bus-side read that had the memory-side port when a cold reset fell (R11 states none). (log 11) -/
opaque Config.coldReadData : Nat → Word

/-- The octave taken for an event none of whose members is CLOSED, in a completion that reads one (R94 states no peak for
it). Applied to the state's free-value counter and brought into 7 to 14 where it is used. (log 13) -/
opaque Config.absentPeakOctave : Nat → Nat

/-- How far an operation on the NVM link has come, as a place among the levels that its instructions drive (the model has
no clock of 1 MHz). Applied to the state's clock and free-value counter. (log 30) -/
opaque Config.linkMoment : Nat → Nat → Nat

end Sys2Proof
end

