-- ==== Sys2Proof/Machine/Ops.lean ====
section
/-! DEFINITION. The shared SRAM, the internal queue, the Memory-Side Arbiter and the clock: the operations every block uses. -/

namespace Sys2Proof.Machine

/-! ## The shared SRAM -/

/-- The SRAM: `(address, byte)` pairs by strictly rising address, without an entry equal to `Memory.unlisted`. -/
abbrev Memory := List Host.Cell

/-- What a byte that nothing has written reads as. DESIGN CHOICE: the spec gives the SRAM no contents at power-on. (log 8) -/
def Memory.unlisted : Byte := 0

/-- The byte at an address. -/
def Memory.read : Memory → Nat → Byte
  | [], _ => Memory.unlisted
  | (k, b) :: rest, a => if a = k then b else Memory.read rest a

/-- A byte put in front of a memory whose addresses lie above it, unless it is what an unlisted byte reads as. -/
def Memory.cons (a : Nat) (b : Byte) (m : Memory) : Memory :=
  if b = Memory.unlisted then m else (a, b) :: m

/-- The memory with the byte at an address replaced, in canonical form. -/
def Memory.write : Memory → Nat → Byte → Memory
  | [], a, b => Memory.cons a b []
  | (k, c) :: rest, a, b =>
    if a < k then Memory.cons a b ((k, c) :: rest)
    else if a = k then Memory.cons a b rest
    else (k, c) :: Memory.write rest a b

/-- Every address is at least `lo`, addresses rise strictly, and no entry is what an unlisted byte reads as. -/
def Memory.wfFrom : Nat → Memory → Bool
  | _, [] => true
  | lo, (k, b) :: rest => decide (lo ≤ k) && b != Memory.unlisted && Memory.wfFrom (k + 1) rest

/-- The canonical form of a memory. -/
def Memory.wf (m : Memory) : Bool := Memory.wfFrom 0 m

/-- The first address of the word that holds byte address `a`: bits 1 and 0 are ignored (R1). -/
def wordBase (a : Nat) : Nat := a - a % 4

/-- The word at an address (R1, R163). -/
def Memory.readWord (m : Memory) (a : Nat) : Word :=
  wordOf (m.read (wordBase a)) (m.read (wordBase a + 1)) (m.read (wordBase a + 2)) (m.read (wordBase a + 3))

/-- Byte lane `n` of a word written if the lane is enabled. -/
def Memory.writeLane (m : Memory) (a : Nat) (lanes : Lanes) (w : Word) (n : Nat) : Memory :=
  if lanes.getLsbD n then m.write (wordBase a + n) (byteOf w n) else m

/-- The enabled lanes of a word written (R1). -/
def Memory.writeWord (m : Memory) (a : Nat) (lanes : Lanes) (w : Word) : Memory :=
  (((m.writeLane a lanes w 0).writeLane a lanes w 1).writeLane a lanes w 2).writeLane a lanes w 3

/-- The size of the address space: 24 bits (R1). -/
def addressSpace : Nat := 2 ^ 24

/-! ## The internal queue (R14, R15) -/

/-- The internal queue holds up to 64 requests (R14). -/
def queueCapacity : Nat := 64

/-- The queue has room for a request. -/
def State.hasRoom (s : State) : Bool := s.iq.length < queueCapacity

/-- A request placed at the tail of the internal queue. Callers place one only where there is room. -/
def State.place (s : State) (r : Request) : State := { s with iq := s.iq ++ [r] }

/-! ## The Memory-Side Arbiter (R16, R17) -/

/-- The claimant to grant for a queue count, given whether a bus-side access waits and the last grant (the table of R16). -/
def arbiterChoice (count : Nat) (busWaits : Bool) (last : Claimant) : Option Claimant :=
  if count = 0 then (if busWaits then some .busSide else none)
  else if !busWaits then some .internal
  else if count < 48 then some .busSide
  else if count < queueCapacity then
    (match last with
      | .busSide => some .internal
      | .internal => some .busSide)
  else some .internal

/-- The Arbiter's decision: with the port free, the chosen claimant gets it, and the grant is recorded (R16). (DESIGN
CHOICE for the moment of the decision, log 31) -/
def State.arbitrate (s : State) : State :=
  match s.path.port with
  | some _ => s
  | none =>
    match arbiterChoice s.iq.length s.path.bus.isSome s.path.lastGrant with
    | none => s
    | some c => { s with path := { s.path with port := some c, lastGrant := c } }

/-! ## The clock -/

/-- 10 µs sample instants in a tick of 100 µs (section 3.3, R35). -/
def samplesPerTick : Nat := 10

/-- 10 µs sample instants in `2^k` ticks. -/
def tickSpan (k : Nat) : Nat := samplesPerTick * 2 ^ k

/-- The clock brought up to the sample instant before time `t`, if it is behind it: the row that says that `t` has come
has the time pass. (DESIGN CHOICE, log 5) -/
def State.reach (s : State) (t : Nat) : State := { s with clock := max s.clock (t - 1) }

/-- Time `t` can come: no edge event of the present sample instant is still due, or `t` is no later than that instant.
(DESIGN CHOICE, log 7) -/
def State.canReach (s : State) (t : Nat) : Bool := s.gate.due.isEmpty || t ≤ s.clock

end Sys2Proof.Machine
end

