-- ==== Sys2Proof/Machine/Flags.lean ====
section
/-! DEFINITION. The Notice Unit: factors, the current cause, NOTICE_N, the batch counters and the stop latch (R143 to R148). -/

namespace Sys2Proof.Machine

/-! ## Factor numbers (section 8.3) -/

def fEventBatch : Nat := 0
def fZoneWatch : Nat := 1
def fZoneSuspect : Nat := 2
def fZoneCracked : Nat := 3
def fCycleBatch : Nat := 4
def fBlindCycle : Nat := 5
def fCycleFault : Nat := 6
def fRingFull : Nat := 7
def fCaptureDone : Nat := 8
def fCaptureRefused : Nat := 9
def fCommandDone : Nat := 10
def fFrameFault : Nat := 11
def fVibBand : Nat := 12
def fImage : Nat := 13
def fStopAsserted : Nat := 14
def fSoft : Nat := 15

/-- The set that holds one factor. -/
def factorBit (n : Nat) : Half := 1#16 <<< n

/-! ## Raising (R143, R147) -/

/-- The stop latch set at time `now`: if it is clear it becomes set, a PULSE timer starts, and STOP_ASSERTED is
raised; a latch already set changes nothing (R147, R148). -/
def NoticeUnit.setLatch (n : NoticeUnit) (now : Nat) : NoticeUnit :=
  if n.latch then n
  else
    { n with
      latch := true
      pulse := (match n.mode with
        | .pulse => some now
        | .latch => none)
      pending := n.pending ||| factorBit fStopAsserted }

/-- A raise of factor `f` at time `now`: its pending flag is set, whatever its enable and level; a change from not
pending to pending of a source factor sets the stop latch (R143, R147). -/
def NoticeUnit.raise (n : NoticeUnit) (f now : Nat) : NoticeUnit :=
  if n.pending.getLsbD f then n
  else
    let n1 := { n with pending := n.pending ||| factorBit f }
    if n.sources.getLsbD f then n1.setLatch now else n1

/-- A raise on the whole state. -/
def State.raise (s : State) (f : Nat) : State := { s with notice := s.notice.raise f s.clock }

/-! ## The current cause and NOTICE_N (R145) -/

/-- Factor `f` can be the current cause. -/
def NoticeUnit.candidate (n : NoticeUnit) (f : Nat) : Bool :=
  n.pending.getLsbD f && n.enables.getLsbD f && decide (0 < vget n.levels f 0)

/-- The better of a cause so far and factor `f`: the higher level, then the lower number. -/
def NoticeUnit.better (n : NoticeUnit) (best : Option Nat) (f : Nat) : Option Nat :=
  if n.candidate f then
    match best with
    | none => some f
    | some g => if vget n.levels g 0 < vget n.levels f 0 then some f else some g
  else best

/-- The current cause (R145). -/
def NoticeUnit.cause (n : NoticeUnit) : Option Nat := (List.range 16).foldl n.better none

/-- NOTICE_N is active (low): a current cause exists and its level is above the mask level (R145). -/
def NoticeUnit.noticeActive (n : NoticeUnit) : Bool :=
  match n.cause with
  | none => false
  | some f => n.mask < vget n.levels f 0

/-- The level of the NOTICE_N pin (active low). -/
def State.noticeN (s : State) : Bool := !s.notice.noticeActive

/-- The level of the STOP_REQ pin: active exactly while the stop latch is set (R147). -/
def State.stopReq (s : State) : Bool := s.notice.latch

/-! ## Batch counters (R144) -/

/-- The factor of a batch counter. -/
def batchFactor : BatchKind → Nat
  | .event => fEventBatch
  | .cycle => fCycleBatch

/-- A batch counter. -/
def NoticeUnit.batch (n : NoticeUnit) : BatchKind → Batch
  | .event => n.batchEvent
  | .cycle => n.batchCycle

/-- A batch counter replaced. -/
def NoticeUnit.setBatch (n : NoticeUnit) (k : BatchKind) (b : Batch) : NoticeUnit :=
  match k with
  | .event => { n with batchEvent := b }
  | .cycle => { n with batchCycle := b }

/-- A counter that has reached 0 raises its factor and is loaded with the batch count (R144). (DEDUCED for the moment, log
29) -/
def State.fireBatch (s : State) (k : BatchKind) : State :=
  if (s.notice.batch k).counter = 0 then
    let b := s.notice.batch k
    ({ s with notice := s.notice.setBatch k { b with counter := b.count } }).raise (batchFactor k)
  else s

/-- One service: the counter decrements (R144). A raise still due from an earlier service is made first. -/
def State.serveBatch (s : State) (k : BatchKind) : State :=
  let s1 := s.fireBatch k
  let b := s1.notice.batch k
  { s1 with notice := s1.notice.setBatch k { b with counter := b.counter - 1 } }

/-- A batch count set and its counter loaded with it (R144). A raise still due is made first. -/
def State.loadBatch (s : State) (k : BatchKind) (count : Nat) : State :=
  let s1 := s.fireBatch k
  { s1 with notice := s1.notice.setBatch k ⟨count, count⟩ }

/-! ## The notice control word (R146) -/

/-- The effect of the merged value of status word 62 at time `now`. -/
def NoticeUnit.control (n : NoticeUnit) (w : Word) (now : Nat) : NoticeUnit :=
  let field : Half := w.setWidth 16
  let n1 := { n with mask := bits w 16 3 }
  match n.clearMode with
  | .clearOnOne => { n1 with pending := n.pending &&& ~~~field }
  | .replace =>
    let n2 := { n1 with pending := field }
    if field &&& ~~~n.pending &&& n.sources = 0 then n2 else n2.setLatch now

/-! ## The stop output (R148) -/

/-- The stop latch cleared and any pulse timer stopped. -/
def NoticeUnit.releaseStop (n : NoticeUnit) : NoticeUnit := { n with latch := false, pulse := none }

/-- A source set, mode and exponent put in force at time `now` (SET STOP; also the entry to RUNNING). -/
def NoticeUnit.setStop (n : NoticeUnit) (sources : Half) (mode : StopMode) (k now : Nat) : NoticeUnit :=
  { n with
    sources := sources
    mode := mode
    k := k
    pulse := (match mode with
      | .latch => none
      | .pulse => if n.latch then some now else none) }

end Sys2Proof.Machine
end

