-- ==== Sys2Proof/Machine/Status.lean ====
section
/-! DEFINITION. The status block: the value of every part-owned word, the marks, and the status block update (R141, R142, R163; layout of section 11.4). Also `State.settled`, which ends every meaning. -/

namespace Sys2Proof.Machine

/-- The window table in force; the default table stands in where none is. (DESIGN CHOICE, log 35) -/
def State.windows (s : State) : WindowTable := s.path.windows.getD {}

/-- The step index shown in status word 6. -/
def SeqState.step : SeqState → Nat
  | .inCycle r => r.step
  | _ => 0

/-- The cycle state code of status word 6. -/
def SeqState.code : SeqState → Nat
  | .stopped => 0
  | .idle => 1
  | .inCycle _ => 2

/-- The path state code of status word 1. -/
def PathState.code : PathState → Nat
  | .starting => 0
  | .running => 1
  | .reloading => 2

/-- The state code of zone `z`, or 7 for an absent zone (section 11.1). -/
def ZoneTable.code (t : ZoneTable) (z : Nat) : Nat :=
  match vget t.records z none with
  | none => absentZoneCode
  | some r => r.state.code

/-- The zone count in force; 0 before a profile is in force. (DESIGN CHOICE, log 35) -/
def State.zoneCount (s : State) : Nat := (s.ev.profile.map (·.zoneCount)).getD 0

/-- Zones 8i to 8i + 7, four bits each (status words 12 to 14). -/
def State.zoneWord (s : State) (i : Nat) : Word :=
  packWord ((List.range 8).map fun j => (s.zone.code (8 * i + j), 4 * j, 4))

/-- Status word 15: state and frame count of the four captures. -/
def State.captureWord (s : State) : Word :=
  packWord ((List.range 4).flatMap fun c =>
    let e := vget s.cap.table c {}
    [(e.state.code, 8 * c, 2), (e.frames.length, 8 * c + 4, 4)])

/-- Status word 16: state of the eight command slots. -/
def State.slotWord (s : State) : Word :=
  packWord ((List.range 8).map fun i => ((vget s.cmd.slots i {}).state.code, 4 * i, 2))

/-- The value of a part-owned status word as its owner holds it (section 11.4); words 30 to 61 are 0. Bits 19 to 16 of word 3
are 0 while there is no current cause. (DESIGN CHOICE, log 44) -/
def State.statusWord (s : State) (w : Nat) : Word :=
  let n := s.notice
  let d := s.det.settings
  let e := s.ev.settings
  let z := s.zone.policy
  match w with
  | 0 => s.status.mirror
  | 1 => packWord [(s.path.state.code, 0, 2), (flag s.loader.status.defaults, 8, 1),
      (flag s.loader.status.retried, 9, 1), (flag s.loader.status.clamped, 10, 1)]
  | 2 => packWord [(Config.version.toNat, 0, 16)]
  | 3 => packWord [(n.pending.toNat, 0, 16), (n.cause.getD 0, 16, 4), (flag n.cause.isNone, 20, 1),
      (n.mask, 24, 3), (match n.clearMode with | .clearOnOne => 0 | .replace => 1, 28, 1)]
  | 4 => packWord [(flag n.latch, 0, 1), (match n.mode with | .latch => 0 | .pulse => 1, 1, 1), (n.k, 4, 4),
      (n.sources.toNat, 16, 16)]
  | 5 => s.gate.cycle
  | 6 => packWord [(s.gate.state.code, 0, 2), (s.gate.state.step, 8, 4), (s.gate.gates.toNat, 16, 4)]
  | 7 => packWord [(s.zone.mouldType, 0, 8), (s.zoneCount, 8, 5)]
  | 8 => s.zone.serial
  | 9 => packWord [(s.tacho.last, 0, 16), (flag s.tacho.stalled, 16, 1)]
  | 10 => packWord [(s.report.p, 0, 9)]
  | 11 => packWord [(s.report.seq.toNat, 0, 16), (s.report.gap, 16, 16)]
  | 12 => s.zoneWord 0
  | 13 => s.zoneWord 1
  | 14 => s.zoneWord 2
  | 15 => s.captureWord
  | 16 => s.slotWord
  | 17 => BitVec.ofNat 32 s.asm.position
  | 18 => s.asm.analysed
  | 19 => s.asm.lost
  | 20 => packWord [(d.kEnv, 0, 3), (d.kUp, 4, 4), (d.f, 8, 8), (d.code, 16, 5)]
  | 21 => packWord [(d.hdt, 0, 10), (d.lockout, 16, 10)]
  | 22 => packWord [(d.dMax, 0, 12)]
  | 23 => packWord [(e.w, 0, 12), (e.wCap, 16, 6), (flag e.suspect, 24, 1)]
  | 24 => packWord [(e.pre, 0, 3), (e.post, 4, 3), (flag z.offBlind, 8, 1)]
  | 25 => packWord [(e.gA, 0, 4), (e.gB, 4, 4), (e.gC, 8, 4), (e.slope, 16, 3), (e.octFloor, 24, 4)]
  | 26 => packWord [(z.tWatch, 0, 10), (z.tSuspect, 16, 10)]
  | 27 => packWord [(z.tCrack, 0, 10), (z.h, 16, 10)]
  | 28 => packWord [(z.n, 0, 8), (z.d, 8, 6), (z.b, 16, 6), (z.blindLimit, 24, 8)]
  | 29 => packWord [(s.tacho.pmin, 0, 16), (s.tacho.pmax, 16, 16)]
  | _ => 0

/-! ## Marks (R141) -/

/-- The counter words (R141). -/
def counterWords : List Nat := [17, 18, 19]

/-- A word whose owner's change marks it: neither word 0, nor the version, nor a counter word, nor an unused word. -/
def marksOnChange (w : Nat) : Bool := (w == 1 || (3 ≤ w && w ≤ 16) || (20 ≤ w && w ≤ 29))

/-- The part-owned words that can be marked, 1 to 61. -/
def markable : List Nat := (List.range 62).drop 1

/-- The words that satisfy `p` marked as well. -/
def State.markWhere (s : State) (p : Nat → Bool) : State :=
  { s with status := { s.status with marks := markable.filter fun w => s.status.marks.contains w || p w } }

/-- Every word whose value differs from its value in `before` is marked. In STARTING no window table is in force and
nothing is marked (R11). -/
def State.noteChanges (s before : State) : State :=
  match s.path.state with
  | .starting => s
  | _ => s.markWhere fun w => marksOnChange w && (s.statusWord w != before.statusWord w)

/-! ## The update (R142) -/

/-- The words of an update placed one after the other as room allows, each with its value as it stands; word 0 comes
last, with the mirror sequence incremented, and ends the update. -/
def State.placeStatus : List Nat → State → State
  | [], s => { s with status := { s.status with update := none } }
  | w :: ws, s =>
    if s.hasRoom then
      let s1 := if w = 0 then { s with status := { s.status with mirror := s.status.mirror + 1 } } else s
      State.placeStatus ws (s1.place ⟨s.windows.bt + 4 * w, .write (s1.statusWord w)⟩)
    else { s with status := { s.status with update := some (w :: ws) } }

/-- An update begins: it takes the marked words, adding the counter words, and clears their marks (R142). -/
def State.beginUpdate (s : State) : State :=
  let words := (s.markWhere fun w => counterWords.contains w).status.marks
  State.placeStatus (words ++ [0]) { s with status := { s.status with marks := [] } }

/-- The waiting words of an update in progress placed as room allows. -/
def State.pumpStatus (s : State) : State :=
  match s.status.update with
  | none => s
  | some ws => State.placeStatus ws s

/-! ## The end of every meaning -/

/-- The next state of a step that brought `before` to `after`: the changed status words are marked (R141), and the Arbiter
decides if the port is free (R16). (DESIGN CHOICE, log 24 and 31) -/
def State.settle (before after : State) : State := (after.noteChanges before).arbitrate

/-- The outcome of a step that brought `before` to `after`. -/
def State.settled (before after : State) : Host.Outcome State Fault Refusal := .next (before.settle after)

end Sys2Proof.Machine
end

