-- ==== Sys2Proof/Machine/Report.lean ====
section
/-! DEFINITION. The Report Writer: handing over, taking, placing and suppressing records (R138 to R140; layout of section 11.5). -/

namespace Sys2Proof.Machine

/-- A record handed over to the Report Writer; records are taken in the order in which they were handed (R139). -/
def State.handOver (s : State) (r : Record) : State :=
  { s with report := { s.report with handed := s.report.handed ++ [r] } }

/-- The words of a report ring slot (R139). -/
def recordWords : Nat := 32

/-- The ring is full (R138). -/
def State.ringFull (s : State) : Bool := (s.report.p + 1) % s.windows.r == s.report.c

/-- The 32 words of a record: the header completed with length, record sequence, gap count and mould type in force, the
body, and 0 beyond the length (R139, section 11.5). -/
def State.recordImage (s : State) (r : Record) : List Word :=
  let h0 := packWord [(r.kind.code, 0, 8), (r.body.length + 2, 8, 8), (s.report.seq.toNat, 16, 16)]
  let h1 := packWord [(s.report.gap, 0, 16), (s.zone.mouldType, 16, 8), (r.flags, 24, 8)]
  (h0 :: h1 :: r.body ++ List.replicate recordWords 0).take recordWords

/-- Words placed at consecutive addresses as room allows; answers the words and the address left over. -/
def State.placeWords : List Word → Nat → State → State × List Word × Nat
  | [], a, s => (s, [], a)
  | w :: ws, a, s =>
    if s.hasRoom then State.placeWords ws (a + 4) (s.place ⟨a, .write w⟩) else (s, w :: ws, a)

/-- The 32nd request has been placed: P, the record sequence and the gap count advance, and a consumer index that arrived
meanwhile takes effect (R138, R139). -/
def State.endRecord (s : State) : State :=
  let r := s.report
  { s with report := { r with
      p := (r.p + 1) % s.windows.r
      seq := r.seq + 1
      gap := 0
      c := r.pendingC.getD r.c
      pendingC := none
      placing := none } }

/-- The words of the record being placed go on as room allows. The second component is the work that waited with the
record, once its 32nd request has been placed. -/
def State.pumpRecord (s : State) : State × Option Cont :=
  match s.report.placing with
  | none => (s, none)
  | some pl =>
    match State.placeWords pl.words pl.addr s with
    | (s1, [], _) => (s1.endRecord, some pl.cont)
    | (s1, w :: ws, a) =>
      ({ s1 with report := { s1.report with placing := some { pl with addr := a, words := w :: ws } } }, none)

/-- A record taken while the ring is full is suppressed: the gap count increments, and the start of a run of suppressed
records raises RING_FULL (R140). -/
def State.suppress (s : State) : State :=
  let s1 := { s with report := { s.report with gap := satInc s.report.gap 65535 } }
  if s.report.gap = 0 then s1.raise fRingFull else s1

/-- The oldest handed record `r` is taken, `rest` being the records behind it (R139, R140). -/
def State.takeRecord (s : State) (r : Record) (rest : List Record) : State × Option Cont :=
  let s1 := { s with report := { s.report with handed := rest } }
  if s1.ringFull then (s1.suppress, some r.cont)
  else
    let addr := s1.windows.br + 128 * s1.report.p
    ({ s1 with report := { s1.report with placing := some ⟨r.kind, addr, s1.recordImage r, r.cont⟩ } }).pumpRecord

/-- A consumer index taken from the merged value of status word 63: at once, or when the record being placed has been
placed; a value of R or above is ignored (R138). -/
def State.takeConsumer (s : State) (w : Word) : State :=
  if w.toNat < s.windows.r then
    match s.report.placing with
    | none => { s with report := { s.report with c := w.toNat } }
    | some _ => { s with report := { s.report with pendingC := some w.toNat } }
  else s

/-- A record of this kind is handed over and not yet placed. -/
def State.recordOutstanding (s : State) (k : RecKind) : Bool :=
  s.report.handed.any (fun r => r.kind == k) || (s.report.placing.map fun p => p.kind == k).getD false

end Sys2Proof.Machine
end

