-- ==== Sys2Proof/Machine/Capture.lean ====
section
/-! DEFINITION. The Capture Unit: the Slot Map, the spare list, freezing, the capture table, triggers, closing and release (R121 to R136; record layout of section 11.5). -/

namespace Sys2Proof.Machine

/-! ## Content tags, the map and the table -/

/-- The content tag of physical slot `p` set (R27). -/
def Assembler.setTag (a : Assembler) (p : Fin 48) (t : ContentTag) : Assembler := { a with tags := a.tags.set p t }

/-- The content tag of physical slot `p` set, in the whole state. -/
def State.setTag (s : State) (p : Fin 48) (t : ContentTag) : State := { s with asm := s.asm.setTag p t }

/-- Capture entry `c` changed by `f`. -/
def CaptureUnit.modEntry (u : CaptureUnit) (c : Fin 4) (f : Capture → Capture) : CaptureUnit :=
  { u with table := u.table.set c (f u.table[c]) }

/-- Capture entry `c` changed by `f`, in the whole state. -/
def State.modCapture (s : State) (c : Fin 4) (f : Capture → Capture) : State := { s with cap := s.cap.modEntry c f }

/-- The lowest-numbered entry in a state. -/
def CaptureUnit.find (u : CaptureUnit) (st : CapState) : Option (Fin 4) :=
  (List.finRange 4).find? fun c => u.table[c].state == st

/-- The lowest-numbered logical slot whose physical slot holds complete frame `s` (R127). -/
def State.findComplete (s : State) (seq : Half) : Option (Fin 32) :=
  (List.finRange 32).find? fun l => s.asm.tags[s.cap.map[l]] == .complete seq

/-- A sample-window access that was translated to physical slot `p` is in progress (R122). -/
def State.accessTo (s : State) (p : Fin 48) : Bool :=
  match s.path.bus with
  | some b => (match b.place with
    | .sample _ q _ => q == p
    | _ => false)
  | none => false

/-- The most entries of a frame list (R123). -/
def frameListMax : Nat := 12

/-! ## Freezing (R122) -/

/-- Logical slot `l`, which holds complete frame `seq`, frozen for capture `c`: the head spare takes its place in the map,
and its physical slot joins the frame list (R122). Without a spare nothing changes. -/
def CaptureUnit.freezeSlot (u : CaptureUnit) (c : Fin 4) (l : Fin 32) (seq : Half) : CaptureUnit :=
  match u.spare with
  | [] => u
  | q :: rest =>
    ({ u with map := u.map.set l q, spare := rest }).modEntry c fun e => { e with frames := e.frames ++ [(seq, u.map[l])] }

/-- A freeze on the whole state. -/
def State.freezeSlot (s : State) (c : Fin 4) (l : Fin 32) (seq : Half) : State :=
  { s with cap := s.cap.freezeSlot c l seq }

/-! ## Becoming HELD (R133) -/

/-- The first and last sequence of a frame list; both 0 when it is empty. -/
def frameEnds (frames : List (Half × Fin 48)) : Nat × Nat :=
  ((frames.head?.map fun f => f.1.toNat).getD 0, (frames.getLast?.map fun f => f.1.toNat).getD 0)

/-- The CAPTURE record of entry `c`. -/
def captureRecord (c : Fin 4) (e : Capture) : Record :=
  let id (i : Nat) : Nat := (e.triggers[i]?.map (·.toNat)).getD 0
  { kind := .capture
    body := [packWord [(c.val, 0, 2), (e.triggers.length, 4, 3), (e.frames.length, 8, 4), (e.missed, 12, 4), (e.zone, 16, 5),
        (e.extra, 24, 8)],
      packWord [((frameEnds e.frames).1, 0, 16), ((frameEnds e.frames).2, 16, 16)],
      e.cycle,
      packWord [(id 0, 0, 16), (id 1, 16, 16)],
      packWord [(id 2, 0, 16), (id 3, 16, 16)]]
    flags := flag e.truncated
    cont := .nothing }

/-- Capture `c` becomes HELD, with TRUNCATED set if it stops short; its record is handed over and CAPTURE_DONE raised.
(DEDUCED for the moment of the factor, log 34) -/
def State.holdCapture (s : State) (c : Fin 4) (truncated : Bool) : State :=
  let s1 := s.modCapture c fun e => { e with state := .held, truncated := e.truncated || truncated }
  (s1.handOver (captureRecord c s1.cap.table[c])).raise fCaptureDone

/-! ## Taking a trigger (R125 to R129) -/

/-- The wanted frames of a trigger: consecutive sequences from the pre-frames to the newest complete frame, at most 12
(R126). -/
def wantedFrames (t : Trigger) (latest : Option Half) : List Half :=
  let first := t.seq - BitVec.ofNat 16 t.pre
  let last := match latest with
    | none => t.seq
    | some s => if 32767 < (s - t.seq).toNat then t.seq else s
  (List.range (min frameListMax ((last - first).toNat + 1))).map fun i => first + BitVec.ofNat 16 i

/-- The entry's state once the last wanted frame has been taken or missed (R129). -/
def State.decideCapture (s : State) (c : Fin 4) (post : Nat) : State :=
  let len := s.cap.table[c].frames.length
  if post = 0 || frameListMax ≤ len then s.holdCapture c false
  else if s.cap.spare.isEmpty then s.holdCapture c true
  else s.modCapture c fun e => { e with state := .opened, remaining := min post (frameListMax - len) }

/-- A wanted frame counted as missed (R127). -/
def State.missFrame (s : State) (c : Fin 4) : State := s.modCapture c fun e => { e with missed := e.missed + 1 }

/-- The run of capture `c` goes on: with no wanted frame left the entry's state is decided (R129); otherwise the next one is
taken later, and what happens meanwhile acts on the tags (R127). The second component says that the trigger's work is done. -/
def State.runOn (s : State) (c : Fin 4) (post : Nat) (ws : List Half) : State × Bool :=
  if ws.isEmpty then (s.decideCapture c post, true) else ({ s with cap := { s.cap with run := some ⟨c, ws, post, none⟩ } }, false)

/-- The oldest of the wanted frames taken: missed, frozen, or left to wait for the access in progress to its slot; with no
spare the capture stops (R122, R127, R128). -/
def State.takeWanted (c : Fin 4) (post : Nat) (wanted : List Half) (s : State) : State × Bool :=
  match wanted with
  | [] => s.runOn c post []
  | w :: ws =>
    match s.findComplete w with
    | none => (s.missFrame c).runOn c post ws
    | some l =>
      if s.cap.spare.isEmpty then (s.holdCapture c true, true)
      else if s.accessTo s.cap.map[l] then
        ({ s with cap := { s.cap with run := some ⟨c, w :: ws, post, some (l, s.cap.map[l])⟩ } }, false)
      else (s.freezeSlot c l w).runOn c post ws

/-- A FREE entry taken for a trigger (R125). It stays FREE until its state is decided (R129), also between two frames of its
run. (DESIGN CHOICE, log 43) -/
def Capture.opening (t : Trigger) : Capture := { triggers := [t.id], zone := t.zone, cycle := t.cycle }

/-- A trigger joins the OPEN capture `c` (R131). -/
def Capture.join (e : Capture) (t : Trigger) : Capture :=
  let e1 := if e.triggers.length < 4 then { e with triggers := e.triggers ++ [t.id] } else { e with extra := satInc e.extra 255 }
  { e1 with remaining := max e.remaining (min t.post (frameListMax - e.frames.length)) }

/-- What the Capture Unit has done with a trigger. -/
inductive TriggerAnswer where
  /-- The trigger is answered: the capture's id, or a refusal. -/
  | answered (id : Option (Fin 4))
  /-- Its run goes on; no answer yet. -/
  | waits
  deriving DecidableEq, Repr

/-- A trigger taken: it joins the OPEN capture, or takes the lowest FREE entry and the oldest of its wanted frames, or is
refused (R125). -/
def State.takeTrigger (s : State) (t : Trigger) : State × TriggerAnswer :=
  match s.cap.find .opened with
  | some c => (s.modCapture c fun e => e.join t, .answered (some c))
  | none =>
    match s.cap.find .free with
    | none => (s.raise fCaptureRefused, .answered none)
    | some c =>
      match State.takeWanted c t.post (wantedFrames t s.cap.latest) (s.modCapture c fun _ => Capture.opening t) with
      | (s1, true) => (s1, .answered (some c))
      | (s1, false) => (s1, .waits)

/-- Logical slot `l` is still mapped to physical slot `p`, and `p` still holds complete frame `seq` (R122). -/
def State.stillHolds (s : State) (l : Fin 32) (p : Fin 48) (seq : Half) : Bool :=
  s.asm.tags[p] == .complete seq && s.cap.map[l] == p

/-- The next wanted frame of the run in progress taken (R127). -/
def State.continueRun (s : State) (r : CaptureRun) : State × Bool :=
  State.takeWanted r.cap r.post r.wanted { s with cap := { s.cap with run := none } }

/-- The waiting freeze of a trigger's run, in logical slot `l` and physical slot `p`, made or given up (R122, R127, R128). -/
def State.resumeRun (s : State) (r : CaptureRun) (l : Fin 32) (p : Fin 48) : State × Bool :=
  let s1 := { s with cap := { s.cap with run := none } }
  match r.wanted with
  | [] => s1.runOn r.cap r.post []
  | w :: ws =>
    if s1.stillHolds l p w then
      (if s1.cap.spare.isEmpty then (s1.holdCapture r.cap true, true) else (s1.freezeSlot r.cap l w).runOn r.cap r.post ws)
    else (s1.missFrame r.cap).runOn r.cap r.post ws

/-! ## The OPEN capture (R130, R134) -/

/-- The entry's state after a post-frame has been frozen (R130). -/
def State.afterPostFreeze (s : State) (c : Fin 4) : State :=
  let e := s.cap.table[c]
  if e.remaining = 0 || frameListMax ≤ e.frames.length then s.holdCapture c false
  else if s.cap.spare.isEmpty then s.holdCapture c true
  else s

/-- A frame that has completed in logical slot `l` frozen for the OPEN capture, if there is one (R130). -/
def State.freezePost (s : State) (l : Fin 32) (seq : Half) : State :=
  match s.cap.find .opened with
  | none => s
  | some c =>
    if s.cap.spare.isEmpty then s.holdCapture c true
    else
      ((s.freezeSlot c l seq).modCapture c fun e => { e with remaining := e.remaining - 1 }).afterPostFreeze c

/-- The waiting freeze of a post-frame made, or given up because a write has changed the tag (R122, R130). -/
def State.resumePost (s : State) (p : PostFreeze) : State :=
  let s1 := { s with cap := { s.cap with post := none } }
  if s1.stillHolds p.slot p.phys p.seq then s1.freezePost p.slot p.seq else s1

/-- A post-frame whose freeze has not been made yet has it made or given up. -/
def State.makePost (s : State) : State :=
  match s.cap.post with
  | none => s
  | some p => s.resumePost p

/-- The freeze of a post-frame waits for an access to its slot (R122). -/
def State.postWaits (s : State) : Bool :=
  match s.cap.post with
  | none => false
  | some p => s.accessTo p.phys

/-- An OPEN capture, if there is one, closed by MOULD CHANGE (R134). -/
def State.closeOpenCapture (s : State) : State :=
  match s.cap.find .opened with
  | none => s
  | some c => s.holdCapture c true

/-! ## Releasing and resetting (R135, R136) -/

/-- The slots of a frame list, each with its tag set to EMPTY. -/
def Assembler.emptyTags (a : Assembler) (ps : List (Fin 48)) : Assembler := ps.foldl (fun x p => x.setTag p .empty) a

/-- HELD capture `c` released: its slots join the tail of the spare list in frame-list order, EMPTY, and the entry becomes
FREE (R135). -/
def State.releaseCapture (s : State) (c : Fin 4) : State :=
  let ps := s.cap.table[c].frames.map (·.2)
  { s with
    asm := s.asm.emptyTags ps
    cap := { s.cap.modEntry c (fun _ => {}) with spare := s.cap.spare ++ ps } }

end Sys2Proof.Machine
end

