-- ==== Sys2Proof/Machine/Operands.lean ====
section
/-! DEFINITION. The operands of the commands: function words, the terminator test, clamping, packed arguments and gate step words (R150, R152, R153; layouts of section 11.3), and the argument checks of the SET commands. -/

namespace Sys2Proof.Machine

/-! ## Clamping (R153) -/

/-- A number brought to the nearest limit of `lo` to `hi`. -/
def clampTo (lo hi v : Nat) : Nat := max lo (min hi v)

/-- A number lies outside `lo` to `hi`. -/
def outside (lo hi v : Nat) : Bool := v < lo || hi < v

/-- DONE_CLAMPED if a numeric argument was clamped, DONE otherwise (R153). -/
def doneCode (clamped : Bool) : Code := if clamped then .doneClamped else .done

/-! ## Function words and the terminator test (R150) -/

/-- The function code of a function word. -/
def functionCode (w : Word) : Nat := bits w 0 8

/-- The tag of a function word. -/
def functionTag (w : Word) : Nat := bits w 8 8

/-- LOAD GATE PROGRAM's function code. -/
def codeLoadGateProgram : Nat := 0x06

/-- The fixed argument count of a known function other than LOAD GATE PROGRAM (the table of R153). -/
def fixedArgs (code : Nat) : Option Nat :=
  match code with
  | 0x01 => some 0
  | 0x02 => some 7
  | 0x03 => some 5
  | 0x04 => some 5
  | 0x05 => some 9
  | 0x07 => some 3
  | 0x08 => some 2
  | 0x09 => some 3
  | 0x0A => some 1
  | 0x0B => some 2
  | 0x0C => some 1
  | 0x0D => some 1
  | 0x0E => some 1
  | 0x0F => some 1
  | 0x10 => some 0
  | 0x11 => some 3
  | 0x12 => some 2
  | 0x13 => some 0
  | 0x14 => some 0
  | 0x15 => some 0
  | _ => none

/-- The outcome of the terminator test. -/
inductive Terminator where
  /-- The function code is not in the command table. -/
  | unknown
  /-- The command is taken. -/
  | taken
  /-- The write is plain data. -/
  | plain
  deriving DecidableEq, Repr

/-- A step count that LOAD GATE PROGRAM can have. -/
def stepCountOk (n : Nat) : Bool := 1 ≤ n && n ≤ 12

/-- The terminator test at word `i` (1 to 15) of a FREE slot, on the shadow that already holds the write (R150). -/
def terminatorTest (shadow : Vector Word 16) (i : Nat) : Terminator :=
  let code := functionCode (vget shadow 0 0)
  if code = codeLoadGateProgram then
    let n := (vget shadow 1 0).toNat
    if stepCountOk n then (if i - 1 = 1 + n then .taken else .plain)
    else (if 2 ≤ i then .taken else .plain)
  else
    match fixedArgs code with
    | none => .unknown
    | some n => if i - 1 = n then .taken else .plain

/-- The completion word of a function word (section 11.3). -/
def completionWord (fn : Word) (code : Code) (disturbed : Bool) : Word :=
  packWord [(functionCode fn, 0, 8), (functionTag fn, 8, 8), (code.byte, 16, 8), (flag disturbed, 24, 1)]

/-- Argument `i` (1 to 15) of a command: the shadow word of that number, an unsigned number (R149, R153). -/
def argument (shadow : Vector Word 16) (i : Nat) : Nat := (vget shadow i 0).toNat

/-- Byte `n` of argument `i`, for the packed arguments of section 11.3. -/
def argumentByte (shadow : Vector Word 16) (i n : Nat) : Nat := bits (vget shadow i 0) (8 * n) 8

/-! ## Enumerated codes (section 11.3) -/

def polarityOf (v : Nat) : Option Polarity :=
  match v with
  | 0 => some .normal
  | 1 => some .inverted
  | _ => none

def edgeModeOf (v : Nat) : Option EdgeMode :=
  match v with
  | 0 => some .rising
  | 1 => some .falling
  | 2 => some .both
  | _ => none

/-- The measuring edge of an edge mode; BOTH is none (R38). -/
def EdgeMode.measuring? : EdgeMode → Option MeasEdge
  | .rising => some .rising
  | .falling => some .falling
  | .both => none

def switchOf (v : Nat) : Option Bool :=
  match v with
  | 0 => some false
  | 1 => some true
  | _ => none

def stopModeOf (v : Nat) : Option StopMode :=
  match v with
  | 0 => some .latch
  | 1 => some .pulse
  | _ => none

/-! ## Gate step words (section 11.3, R43) -/

/-- The wait kind of a code; 2 and 3 are unknown. -/
def waitKindOf (v : Nat) : Option WaitKind :=
  match v with
  | 0 => some .delay
  | 1 => some .edge
  | _ => none

/-- A step word read, with the step checks of R43: an unknown wait kind, or an EDGE step whose line is not 1 to 4, is
refused. -/
def stepOfWord (w : Word) : Option GateStep :=
  match waitKindOf (bits w 0 2) with
  | none => none
  | some wait =>
    let line := bits w 8 3
    if wait == .edge && outside 1 4 line then none
    else some { wait := wait, k := bits w 4 4, line := line, gates := Gates.ofNat (bits w 12 4), isEnd := bit w 16 }

/-- The wait kind code of a step. -/
def WaitKind.code : WaitKind → Nat
  | .delay => 0
  | .edge => 1

/-- A step as a step word; every bit outside its fields is 0. -/
def wordOfStep (g : GateStep) : Word :=
  packWord [(g.wait.code, 0, 2), (g.k, 4, 4), (g.line, 8, 3), (g.gates.toNat, 12, 4), (flag g.isEnd, 16, 1)]

/-- The steps of a list of step words, or none if any is refused. -/
def stepsOfWords : List Word → Option (List GateStep)
  | [] => some []
  | w :: ws =>
    match stepOfWord w, stepsOfWords ws with
    | some g, some gs => some (g :: gs)
    | _, _ => none

/-! ## The argument checks of the SET commands

Each answers the refusal code, or the clamped value with whether anything was clamped. -/

/-- SET DETECTOR: seven numeric arguments (R55). -/
def detectorArgs (sh : Vector Word 16) : DetSettings × Bool :=
  let a := argument sh
  ({ kEnv := clampTo 1 6 (a 1), kUp := clampTo 4 10 (a 2), f := clampTo 16 255 (a 3), code := clampTo 0 31 (a 4),
     hdt := clampTo 8 1023 (a 5), lockout := clampTo 0 1023 (a 6), dMax := clampTo 64 4095 (a 7) },
   outside 1 6 (a 1) || outside 4 10 (a 2) || outside 16 255 (a 3) || outside 0 31 (a 4) || outside 8 1023 (a 5)
     || outside 0 1023 (a 6) || outside 64 4095 (a 7))

/-- SET EVENT over the settings `base`: four numeric arguments and the suspect capture switch (R81). -/
def eventArgs (base : EventSettings) (sh : Vector Word 16) : Except Code (EventSettings × Bool) :=
  let a := argument sh
  match switchOf (a 3) with
  | none => .error .refusedValue
  | some sus =>
    .ok ({ base with w := clampTo 1 4095 (a 1), wCap := clampTo 0 63 (a 2), suspect := sus, pre := clampTo 0 5 (a 4),
                     post := clampTo 0 6 (a 5) },
      outside 1 4095 (a 1) || outside 0 63 (a 2) || outside 0 5 (a 4) || outside 0 6 (a 5))

/-- SET WEIGHTS over the settings `base`: five numeric arguments (R81). -/
def weightArgs (base : EventSettings) (sh : Vector Word 16) : EventSettings × Bool :=
  let a := argument sh
  ({ base with gA := clampTo 0 15 (a 1), gB := clampTo 0 15 (a 2), gC := clampTo 0 15 (a 3), slope := clampTo 0 7 (a 4),
               octFloor := clampTo 0 14 (a 5) },
   outside 0 15 (a 1) || outside 0 15 (a 2) || outside 0 15 (a 3) || outside 0 7 (a 4) || outside 0 14 (a 5))

/-- SET ZONE POLICY: the off-band switch first, then the order of the clamped thresholds, then the other clamps (R99). -/
def policyArgs (sh : Vector Word 16) : Except Code (Policy × Bool) :=
  let a := argument sh
  match switchOf (a 9) with
  | none => .error .refusedValue
  | some off =>
    let tw := clampTo 1 1023 (a 1)
    let ts := clampTo 1 1023 (a 2)
    let tc := clampTo 1 1023 (a 3)
    if tw < ts && ts < tc then
      .ok ({ tWatch := tw, tSuspect := ts, tCrack := tc, h := clampTo 0 (tw - 1) (a 4), n := clampTo 1 255 (a 5),
             d := clampTo 0 63 (a 6), b := clampTo 0 63 (a 7), blindLimit := clampTo 0 255 (a 8), offBlind := off },
        outside 1 1023 (a 1) || outside 1 1023 (a 2) || outside 1 1023 (a 3) || outside 0 (tw - 1) (a 4)
          || outside 1 255 (a 5) || outside 0 63 (a 6) || outside 0 63 (a 7) || outside 0 255 (a 8))
    else .error .refusedOrder

/-- SET TACHO BAND: two clamped limits that must stand in order (R42). -/
def bandArgs (sh : Vector Word 16) : Except Code ((Nat × Nat) × Bool) :=
  let a := argument sh
  let lo := clampTo 1 65535 (a 1)
  let hi := clampTo 1 65535 (a 2)
  if hi < lo then .error .refusedOrder else .ok ((lo, hi), outside 1 65535 (a 1) || outside 1 65535 (a 2))

/-- What SET LINE sets: a press line's settings, or the tacho's. -/
inductive LineChange where
  | line (i : Fin 5) (settings : LineSettings)
  | tacho (settings : TachoSettings)
  deriving DecidableEq, Repr

/-- SET LINE: line number, filter length, polarity and edge mode (R37, R38). Section 11.3 places the last two in argument 3;
that argument 1 is the line number and argument 2 the filter length is a DESIGN CHOICE. (log 50) -/
def lineArgs (sh : Vector Word 16) : Except Code (LineChange × Bool) :=
  let n := argument sh 1
  let f := argument sh 2
  match polarityOf (argumentByte sh 3 0), edgeModeOf (argumentByte sh 3 1) with
  | some pol, some mode =>
    if h : n < 5 then .ok (.line ⟨n, h⟩ ⟨pol, clampTo 1 8 f, mode⟩, outside 1 8 f)
    else if n = 5 then
      match mode.measuring? with
      | some e => .ok (.tacho ⟨pol, clampTo 1 8 f, e⟩, outside 1 8 f)
      | none => .error .refusedValue
    else .error .refusedValue
  | _, _ => .error .refusedValue

/-- What SET NOTICE sets. -/
structure NoticeChange where
  factor : Nat
  enable : Bool
  level  : Nat
  batch  : Nat
  deriving DecidableEq, Repr

/-- SET NOTICE: factor number, enable with level, batch count (R143). The batch count is clamped for every factor
(DEDUCED, log 16). -/
def noticeArgs (sh : Vector Word 16) : Except Code (NoticeChange × Bool) :=
  let f := argument sh 1
  let lv := argumentByte sh 2 1
  let b := argument sh 3
  if 15 < f then .error .refusedValue
  else
    match switchOf (argumentByte sh 2 0) with
    | none => .error .refusedValue
    | some en => .ok (⟨f, en, clampTo 0 7 lv, clampTo 1 255 b⟩, outside 0 7 lv || outside 1 255 b)

/-- SET STOP: source set, mode with exponent (R148). -/
def stopArgs (sh : Vector Word 16) : Except Code ((Half × StopMode × Nat) × Bool) :=
  let k := argumentByte sh 2 1
  match stopModeOf (argumentByte sh 2 0) with
  | none => .error .refusedValue
  | some mode => .ok (((vget sh 1 0).setWidth 16, mode, clampTo 0 15 k), outside 0 15 k)

/-- A location entry value: a zone number 0 to 23, or 31 (R91). -/
def entryOk (v : Nat) : Bool := v ≤ 23 || v == 31

/-- The entry index of a row and bucket (R91). -/
def entryIndex (row bucket : Nat) : Nat := if row < 12 then 16 * row + bucket else 192 + (row - 12)

/-- SET LOCATION ENTRY: row, bucket and zone; answers the entry index and the value (R154). -/
def entryArgs (sh : Vector Word 16) : Except Code (Nat × Byte) :=
  let row := argument sh 1
  let bucket := argument sh 2
  let zone := argument sh 3
  if 15 < row || 15 < bucket || (12 ≤ row && bucket != 0) || !entryOk zone then .error .refusedValue
  else .ok (entryIndex row bucket, BitVec.ofNat 8 zone)

/-- LOAD GATE PROGRAM: the step count, then the step words (R43, R150). -/
def programArgs (sh : Vector Word 16) : Except Code (List GateStep) :=
  let n := argument sh 1
  if stepCountOk n then
    match stepsOfWords ((List.range n).map fun i => vget sh (i + 2) 0) with
    | some p => .ok p
    | none => .error .refusedValue
  else .error .refusedLength

end Sys2Proof.Machine
end

