-- ==== Sys2Proof/Machine/Accounts.lean ====
section
/-! DEFINITION. Cycle accounts and lost-frame charges (R33, R84, R89). -/

namespace Sys2Proof.Machine

/-- The top of every account field (section 2.8, R89). -/
def accountTop : Nat := 65535

/-- The account of cycle `n` is open. -/
def Assembler.isOpen (a : Assembler) (n : Word) : Bool := a.accounts.any fun x => x.cycle == n

/-- The account of cycle `n` changed by `f`, if it is open. -/
def Assembler.modAccount (a : Assembler) (n : Word) (f : Account → Account) : Assembler :=
  { a with accounts := a.accounts.map fun x => if x.cycle = n then f x else x }

/-- The oldest open account changed by `f`, if one is open (R89). (DESIGN CHOICE where a younger cycle is evaluated first,
log 40) -/
def Assembler.modOldest (a : Assembler) (f : Account → Account) : Assembler :=
  match a.accounts with
  | [] => a
  | x :: rest => { a with accounts := f x :: rest }

/-- The account of cycle `n` opens with every field at 0 (R33). -/
def Assembler.openAccount (a : Assembler) (n : Word) : Assembler :=
  { a with accounts := a.accounts ++ [{ cycle := n }] }

/-- The account of cycle `n`; every count 0 if it is not open (R52). -/
def Assembler.account (a : Assembler) (n : Word) : Account :=
  (a.accounts.find? fun x => x.cycle == n).getD { cycle := n }

/-- The account of cycle `n` closes (R33). -/
def Assembler.closeAccount (a : Assembler) (n : Word) : Assembler :=
  { a with accounts := a.accounts.filter fun x => x.cycle != n }

/-- `count` lost frames charged to a tag: always to the total, and to "frames lost in listen" of the tag's cycle if its
account is open and the tag's class is a listen class (R33). -/
def Assembler.chargeLost (a : Assembler) (tag : FrameTag) (count : Nat) : Assembler :=
  let a1 := { a with lost := a.lost + BitVec.ofNat 32 count }
  if (tag.gates.cls?.map Cls.listen).getD false then
    a1.modAccount tag.cycle fun x => { x with lostListen := min accountTop (x.lostListen + count) }
  else a1

/-- An analysed frame counted in the account of its tag's cycle and in the total (R30, R33). -/
def Assembler.countAnalysed (a : Assembler) (tag : FrameTag) (k : Cls) : Assembler :=
  ({ a with analysed := a.analysed + 1 }).modAccount tag.cycle fun x =>
    { x with analysed := x.analysed.mod k fun v => satInc v accountTop }

/-- A stray write counted in the account of cycle `n` (R23, R33). -/
def Assembler.countStray (a : Assembler) (n : Word) : Assembler :=
  a.modAccount n fun x => { x with strays := satInc x.strays accountTop }

end Sys2Proof.Machine
end

