-- ==== Sys2Proof/Machine/Zones.lean ====
section
/-! DEFINITION. The Zone Table: evidence at event completion, the cycle-end evaluation, and the mould in force (R98 to R112, R118, R119; record layouts of section 11.5). -/

namespace Sys2Proof.Machine

/-! ## Zones and the mould in force -/

/-- The record of zone `z`, absent for an absent zone. -/
def ZoneTable.record? (t : ZoneTable) (z : Nat) : Option ZoneRecord := vget t.records z none

/-- The record of zone `z` replaced. -/
def ZoneTable.put (t : ZoneTable) (z : Nat) (r : ZoneRecord) : ZoneTable :=
  { t with records := vmod t.records z fun _ => some r }

/-- The record of zone `z` replaced in the whole state. -/
def State.putZone (s : State) (z : Nat) (r : ZoneRecord) : State := { s with zone := s.zone.put z r }

/-- A cleared record: CLEAR, or MASKED if the zone is in the initial mask set (R98). -/
def clearedRecord (masked : Bool) : ZoneRecord := { state := if masked then .masked else .clear }

/-- The records under a profile with every present zone cleared and the others absent (R98). -/
def clearedRecords (p : Profile) : Vector (Option ZoneRecord) 24 :=
  ⟨⟨(List.range 24).map fun z => if z < p.zoneCount then some (clearedRecord (p.mask.getLsbD z)) else none⟩, by simp⟩

/-- A profile put in force with a fresh Zone Table: every present zone cleared, the serial given, the first cycle of the
mould the one after the cycle number as it stands, and no cycle of the mould started (R100, R118, R119). -/
def State.putMould (s : State) (p : Profile) (serial : Word) : State :=
  { s with
    ev := { s.ev with profile := some p }
    zone := { s.zone with
      records := clearedRecords p
      mouldType := p.type
      serial := serial
      firstCycle := nextCycle s.gate.cycle
      started := false } }

/-- Steps forward from cycle `a` to cycle `b`, wrapping from FFFFFFFFH to 1 (R44, R101). -/
def cycleDistance (a b : Word) : Nat := (b.toNat + (2 ^ 32 - 1) - a.toNat) % (2 ^ 32 - 1)

/-- Cycle `n` is outgoing (R101). -/
def State.outgoing (s : State) (n : Word) : Bool :=
  n == 0 || !s.zone.started
    || cycleDistance s.zone.firstCycle s.gate.cycle < cycleDistance s.zone.firstCycle n

/-! ## Evidence at event completion (R101 to R103) -/

/-- The top of a score (invariant 1). -/
def scoreTop : Nat := 1023

/-- A weighed event counted in an unmasked zone's record (R101). -/
def ZoneRecord.credit (r : ZoneRecord) (w : Nat) (cycle : Word) (oct : Nat) : ZoneRecord :=
  { r with
    score := min scoreTop (r.score + w)
    hitsCycle := satInc r.hitsCycle 255
    totalHits := satInc r.totalHits 65535
    lastHit := some cycle
    peakOctave := some (max oct (r.peakOctave.getD 0)) }

/-- A weighed event of a MASKED zone (R102). -/
def ZoneRecord.creditMasked (r : ZoneRecord) : ZoneRecord := { r with maskedHits := satInc r.maskedHits 65535 }

/-- What the Zone Table answers: the zone is MASKED at this moment (R101). `zone` is the event's zone if it is located. -/
def State.answersMasked (s : State) (zone : Option Nat) (cycle : Word) : Bool :=
  !s.outgoing cycle && ((zone.bind s.zone.record?).map fun r => r.state == .masked).getD false

/-- The change a completed event makes to the Zone Table (R101, R102). -/
def State.receiveEvent (s : State) (zone : Option Nat) (w : Nat) (cycle : Word) (oct : Nat) (abandoned : Bool) : State :=
  if s.outgoing cycle || abandoned || w == 0 then s
  else
    match zone with
    | none => s
    | some z =>
      match s.zone.record? z with
      | none => s
      | some r => s.putZone z (if r.state = .masked then r.creditMasked else r.credit w cycle oct)

/-! ## Streak, score and state (R105 to R108) -/

/-- The cycle is BLIND (R105). -/
def blindCycle (p : Policy) (a : Account) (m : RunSummary) : Bool :=
  p.blindLimit < a.lostListen || (m.vibOff && p.offBlind)
    || (m.listenOpened && a.analysed.a + a.analysed.b + a.analysed.c == 0)

/-- Streak and score brought up to date from hits_cycle (R106). -/
def ZoneRecord.updated (r : ZoneRecord) (p : Policy) (blind : Bool) : ZoneRecord :=
  if 0 < r.hitsCycle then
    let streak := satInc r.streak 255
    { r with streak := streak, score := if 2 ≤ streak then min scoreTop (r.score + p.b) else r.score }
  else if blind then r
  else { r with streak := 0, score := r.score - p.d }

/-- The target level (R107). -/
def ZoneRecord.target (r : ZoneRecord) (p : Policy) : ZoneState :=
  if p.tCrack ≤ r.score && p.n ≤ r.streak then .cracked
  else if p.tSuspect ≤ r.score then .suspect
  else if p.tWatch ≤ r.score then .watch
  else .clear

/-- The order of the levels, CLEAR lowest (R98). -/
def ZoneState.rank : ZoneState → Nat
  | .clear => 0
  | .watch => 1
  | .suspect => 2
  | .cracked => 3
  | .masked => 0

/-- The entry threshold of a level that can drop (R108). -/
def Policy.entry (p : Policy) : ZoneState → Nat
  | .suspect => p.tSuspect
  | _ => p.tWatch

/-- The state after the target has been weighed: CRACKED stays, a higher target is taken at once, and a lower one only
below the entry threshold less H (R107, R108). -/
def ZoneRecord.judged (r : ZoneRecord) (p : Policy) : ZoneState :=
  if r.state = .cracked then .cracked
  else if r.state.rank < (r.target p).rank then r.target p
  else if (r.target p).rank < r.state.rank && r.score < p.entry r.state - p.h then r.target p
  else r.state

/-! ## Records of the Zone Table (section 11.5) -/

/-- A ZONE_CHANGE record. -/
def zoneChangeRecord (z : Nat) (old new : ZoneState) (score streak : Nat) (cycle : Word) (cont : Cont) : Record :=
  { kind := .zoneChange
    body := [packWord [(z, 0, 5), (old.code, 8, 3), (new.code, 12, 3), (streak, 16, 8)], packWord [(score, 0, 10)], cycle]
    flags := 0
    cont := cont }

/-- An in-gate period as a halfword, FFFFH when absent. -/
def periodField (p : Option Nat) : Nat := p.getD 0xFFFF

/-- Four per-class counts as two words, A in the first's low half. -/
def classWords (p : PerClass Nat) : List Word :=
  [packWord [(p.a, 0, 16), (p.b, 16, 16)], packWord [(p.c, 0, 16), (p.u, 16, 16)]]

/-- The CYCLE record (R110). -/
def cycleRecord (e : EvalWork) : Record :=
  let a := e.account
  let m := e.summary
  { kind := .cycle
    body := [m.run.cycle, packWord [(m.cause.code, 0, 3), (e.changed, 8, 5)], BitVec.ofNat 32 m.duration]
      ++ classWords a.analysed ++ [packWord [(a.lostListen, 0, 16), (a.strays, 16, 16)]] ++ classWords a.events
      ++ [packWord [(a.late, 0, 16), (a.orphans, 16, 16)],
          packWord [(periodField m.run.minPeriod, 0, 16), (periodField m.run.maxPeriod, 16, 16)]]
    flags := flag e.blind + 2 * flag m.run.vibOff
    cont := .evalDone }

/-- The ZONE_DETAIL record of zone `z` (R116). -/
def zoneDetailRecord (z : Nat) (r : ZoneRecord) (cont : Cont) : Record :=
  { kind := .zoneDetail
    body := [packWord [(z, 0, 5), (r.state.code, 8, 3), (r.streak, 16, 8)],
      packWord [(r.score, 0, 10), (r.hitsCycle, 16, 8)],
      packWord [(r.totalHits, 0, 16), (r.maskedHits, 16, 16)],
      r.lastHit.getD 0,
      packWord [(r.peakOctave.getD 0, 0, 4)]]
    flags := 0
    cont := cont }

/-- Word 8 + z of the MOULD record. -/
def mouldZoneWord : Option ZoneRecord → Word
  | none => packWord [(absentZoneCode, 0, 3)]
  | some r => packWord [(r.state.code, 0, 3), (r.score, 3, 10), (r.streak, 13, 8), (r.totalHits, 21, 11)]

/-- Word 4 + j of the MOULD record: bits 15 to 11 of total_hits for zones 6j to 6j + 5, and two bits of the outgoing type. -/
def mouldHighWord (t : ZoneTable) (j : Nat) : Word :=
  packWord ((List.range 6).map (fun k => (((t.record? (6 * j + k)).map (·.totalHits)).getD 0 / 2048, 5 * k, 5))
    ++ [(t.mouldType / 2 ^ (6 - 2 * j), 30, 2)])

/-- The MOULD record of the mould in force (R118). -/
def State.mouldRecord (s : State) : Record :=
  { kind := .mould
    body := [s.zone.serial, s.gate.cycle] ++ (List.range 4).map (mouldHighWord s.zone)
      ++ (List.range 24).map (fun z => mouldZoneWord (s.zone.record? z))
    flags := 0
    cont := .mouldPut }

/-! ## The evaluation (R104 to R111) -/

/-- The end of the zones' part: the CYCLE record is handed over (R110). -/
def State.endZones (s : State) : State :=
  match s.zone.eval with
  | none => s
  | some e => s.handOver (cycleRecord e)

/-- The zones of the list taken in order (R104). A zone whose state changes hands over its ZONE_CHANGE record, and the rest
of the work waits with the record (R109, R15). -/
def State.evalZones (p : Policy) (blind : Bool) (cycle : Word) : List Nat → State → State
  | [], s => s.endZones
  | z :: zs, s =>
    match s.zone.record? z with
    | none => State.evalZones p blind cycle zs s
    | some r =>
      if r.state = .masked then State.evalZones p blind cycle zs s
      else
        let r1 := r.updated p blind
        let new := r1.judged p
        if new = r.state then State.evalZones p blind cycle zs (s.putZone z { r1 with hitsCycle := 0 })
        else
          (s.putZone z { r1 with state := new }).handOver
            (zoneChangeRecord z r.state new r1.score r1.streak cycle (.evalZone z (r.state.rank < new.rank)))

/-- The zones from `z` on taken by the evaluation in progress, under the policy in force when it began to run (R104). -/
def State.evalFrom (s : State) (z : Nat) : State :=
  match s.zone.eval with
  | none => s
  | some e => State.evalZones e.policy e.blind e.summary.run.cycle ((List.range 24).drop z) s

/-- The evaluation of a cycle that has ended begins: it receives the contents of the cycle's account (R33, R104). A stale one
takes no zone (R111). The counter words are marked (R141). (DESIGN CHOICE for the moment of the account, log 25, and of the marks, log
51) -/
def State.beginEval (s : State) (summary : CycleSummary) : State :=
  let n := summary.run.cycle
  let p := s.zone.policy
  let a := s.asm.account n
  let stale := s.outgoing n
  let e : EvalWork := ⟨a, summary, p, blindCycle p a summary.run, stale, 0⟩
  let s1 := ({ s with zone := { s.zone with eval := some e } }).markWhere fun w => counterWords.contains w
  if stale then s1.endZones else s1.evalFrom 0

/-- The factor raised on entry to a state by a rise (R109). -/
def ZoneState.factor? : ZoneState → Option Nat
  | .watch => some fZoneWatch
  | .suspect => some fZoneSuspect
  | .cracked => some fZoneCracked
  | _ => none

/-- R109 after the ZONE_CHANGE record of zone `z`: a rise raises the factor of the state entered, hits_cycle is cleared and
the change counted; then the next zones follow. -/
def State.afterZoneChange (s : State) (z : Nat) (rose : Bool) : State :=
  match s.zone.record? z, s.zone.eval with
  | some r, some e =>
    let s1 := match r.state.factor?, rose with
      | some f, true => s.raise f
      | _, _ => s
    let s2 := s1.putZone z { r with hitsCycle := 0 }
    ({ s2 with zone := { s2.zone with eval := some { e with changed := e.changed + 1 } } }).evalFrom (z + 1)
  | _, _ => s

/-- R110 after the CYCLE record: the CYCLE batch counter is served, BLIND_CYCLE and CYCLE_FAULT are raised, the account of
the cycle closes, and the evaluation ends. -/
def State.afterCycleRecord (s : State) : State :=
  match s.zone.eval with
  | none => s
  | some e =>
    let s1 := s.serveBatch .cycle
    let s2 := if e.blind then s1.raise fBlindCycle else s1
    let s3 := match e.summary.cause with
      | .timeout => s2.raise fCycleFault
      | .truncated => s2.raise fCycleFault
      | _ => s2
    { s3 with zone := { s3.zone with eval := none }, asm := s3.asm.closeAccount e.summary.run.cycle }

/-- An evaluation is in progress (R104). -/
def State.evalBusy (s : State) : Bool := s.zone.eval.isSome

/-- An evaluation is in progress, or has fallen due at once and not begun. That of a marker at the head of the queue that has
not begun is not counted. (DESIGN CHOICE, log 56) -/
def State.evalOwed (s : State) : Bool := s.zone.eval.isSome || !s.zone.due.isEmpty

end Sys2Proof.Machine
end

