-- ==== Sys2Proof/Machine/Events.lean ====
section
/-! DEFINITION. The Event Builder: grouping hits, windows, completion checks, location, weight and the completion of an event (R80 to R97; record layout of section 11.5). -/

namespace Sys2Proof.Machine

/-! ## Open events and assignments -/

/-- The most events open at once (R84). -/
def openMax : Nat := 4

/-- The open event with an id changed by `f`. -/
def EventBuilder.modEvent (b : EventBuilder) (id : Half) (f : OpenEvent → OpenEvent) : EventBuilder :=
  { b with openEvents := b.openEvents.map fun e => if e.id = id then f e else e }

/-- The first element of a list that satisfies `p` changed by `f`. -/
def modFirst {α : Type} (p : α → Bool) (f : α → α) : List α → List α
  | [] => []
  | x :: xs => if p x then f x :: xs else x :: modFirst p f xs

/-- The collecting event changed by `f` (section 5.3). -/
def EventBuilder.modCollecting (b : EventBuilder) (f : OpenEvent → OpenEvent) : EventBuilder :=
  { b with openEvents := modFirst (·.collecting) f b.openEvents }

/-- The assignment of channel `c` set. -/
def EventBuilder.setAssign (b : EventBuilder) (c : Fin 4) (a : Assign) : EventBuilder :=
  { b with assign := b.assign.set c a }

/-- The collecting event, if there is one (section 5.3). -/
def EventBuilder.collecting? (b : EventBuilder) : Option OpenEvent := b.openEvents.find? fun e => e.collecting

/-- A channel is among the members of an event. -/
def OpenEvent.hasMember (e : OpenEvent) (c : Fin 4) : Bool := e.members.any fun m => m.ch == c

/-- Member `c` of an event put in a state. -/
def OpenEvent.setMember (e : OpenEvent) (c : Fin 4) (st : MemberState) : OpenEvent :=
  { e with members := e.members.map fun m => if m.ch = c then { m with state := st } else m }

/-- A new event opened by a hit (R84). -/
def newEvent (id : Half) (w : Nat) (c : Fin 4) (t : Nat) (seq : Half) (cls : Cls) (cycle : Word) : OpenEvent :=
  { id := id, t1 := t, windowEnd := t + w, collecting := true, cls := cls, cycle := cycle, trigSeq := seq,
    members := [⟨c, t, .running⟩], secondary := 0, fate := .stays }

/-! ## Messages of the Hit Detectors (R59, R82 to R85) -/

/-- A hit start on channel `c` with arrival `t`: it joins the collecting event, counts as its secondary, opens a new
event, or becomes an orphan (R82 to R84). -/
def State.hitStart (s : State) (c : Fin 4) (t : Nat) (seq : Half) (cls : Cls) (cycle : Word) : State :=
  match s.ev.collecting? with
  | some e =>
    if e.hasMember c then
      { s with ev := (s.ev.modCollecting fun x => { x with secondary := satInc x.secondary 15 }).setAssign c (.secondary e.id) }
    else
      { s with ev := (s.ev.modCollecting fun x => { x with members := x.members ++ [⟨c, t, .running⟩] }).setAssign c (.member e.id) }
  | none =>
    if s.ev.openEvents.length < openMax then
      let e := newEvent s.ev.nextId s.ev.settings.w c t seq cls cycle
      { s with ev := ({ s.ev with openEvents := s.ev.openEvents ++ [e], nextId := s.ev.nextId + 1 }).setAssign c (.member e.id) }
    else
      { s with
        ev := s.ev.setAssign c .orphan
        asm := s.asm.modAccount cycle fun x => { x with orphans := satInc x.orphans accountTop } }

/-- The end of channel `c`'s hit, closed or abandoned: a MEMBER takes the state, anything else is discarded, and the
assignment becomes NONE (R85). -/
def State.endMember (s : State) (c : Fin 4) (st : MemberState) : State :=
  match s.ev.assign[c] with
  | .member id => { s with ev := (s.ev.modEvent id fun e => e.setMember c st).setAssign c .none }
  | _ => { s with ev := s.ev.setAssign c .none }

/-- A hit close with its features (R85). -/
def State.hitClose (s : State) (c : Fin 4) (f : Features) : State := s.endMember c (.closed f)

/-- A hit abandon (R85). -/
def State.hitAbandon (s : State) (c : Fin 4) : State := s.endMember c .abandoned

/-! ## Windows and completion checks (R86 to R88) -/

/-- Every collecting event stops collecting. -/
def EventBuilder.stopCollecting (b : EventBuilder) : EventBuilder :=
  { b with openEvents := b.openEvents.map fun e => { e with collecting := false } }

/-- The collecting event's window has passed at the position `p` of a processed sample set (R86). -/
def EventBuilder.windowDue (b : EventBuilder) (p : Nat) : Bool :=
  (b.collecting?.map fun e => decide (e.windowEnd ≤ p)).getD false

/-- The advanced position of the gap step handed over (R86). -/
def EventBuilder.gapPosition (b : EventBuilder) (q : Nat) : EventBuilder :=
  if (b.collecting?.map fun e => decide (e.windowEnd < q)).getD false then b.stopCollecting else b

/-- A member has ended: it is CLOSED or ABANDONED (R85). -/
def Member.ended (m : Member) : Bool :=
  match m.state with
  | .running => false
  | _ => true

/-- An event meets the completion condition (R87). -/
def OpenEvent.ready (e : OpenEvent) : Bool := !e.collecting && e.members.all Member.ended

/-- A completion check: the events that complete are picked (R87). -/
def EventBuilder.check (b : EventBuilder) : EventBuilder :=
  { b with openEvents := b.openEvents.map fun e => { e with fate := if e.ready then .completes else .stays } }

/-- At a skipped frame and at MOULD CHANGE: the events that meet the condition complete, and the remaining ones are
abandoned (R88). -/
def EventBuilder.settleAll (b : EventBuilder) : EventBuilder :=
  { b with openEvents := b.openEvents.map fun e => { e with fate := if e.ready then .completes else .abandons } }

/-- A completion check is in progress: a completion has begun and not ended, or a picked event still waits for its turn. -/
def State.checkBusy (s : State) : Bool :=
  s.ev.completion.isSome || s.ev.openEvents.any fun e => e.fate != .stays

/-- The next event to complete: those that complete in the usual way in list order, then the abandoned ones (R87, R88). -/
def EventBuilder.nextDue (b : EventBuilder) : Option OpenEvent :=
  match b.openEvents.find? fun e => e.fate == .completes with
  | some e => some e
  | none => b.openEvents.find? fun e => e.fate == .abandons

/-! ## Location (R90 to R92) -/

/-- The octave of a peak: the position of its highest set bit (R69). -/
def octave (peak : Nat) : Nat := Nat.log2 peak

/-- `m` stands before `n` in location order (R90). -/
def Member.before (m n : Member) : Bool := m.arrival < n.arrival || (m.arrival == n.arrival && m.ch ≤ n.ch)

/-- A member put into a list in location order. -/
def insertMember (m : Member) : List Member → List Member
  | [] => [m]
  | n :: rest => if m.before n then m :: n :: rest else n :: insertMember m rest

/-- Members in location order (R90). -/
def locationOrder (ms : List Member) : List Member := ms.foldr insertMember []

/-- The row of the ordered pair of channels `(c1, c2)` (R91). -/
def pairRow (c1 c2 : Nat) : Nat := if c2 < c1 then 3 * c1 + c2 else 3 * c1 + c2 - 1

/-- The bucket of a delay under bucket shift `q` (R90). -/
def bucketOf (delay q : Nat) : Nat := min 15 (delay / 2 ^ q)

/-- The location table entry that a list of members in location order looks up; none for an empty list (R90). -/
def lookup (p : Profile) : List Member → Option Nat
  | [] => none
  | [m] => some (vget p.table (entryIndex (12 + m.ch.val) 0) 0).toNat
  | m :: n :: _ =>
    some (vget p.table (entryIndex (pairRow m.ch.val n.ch.val) (bucketOf (n.arrival - m.arrival) p.q)) 0).toNat

/-- The zone of a located event; none is UNLOCATED (R92). -/
def locate (p : Profile) (ms : List Member) : Option Nat :=
  (lookup p ms).bind fun v => if v < p.zoneCount then some v else none

/-! ## Weight (R94) -/

/-- The features of a CLOSED member. -/
def Member.features? (m : Member) : Option Features :=
  match m.state with
  | .closed f => some f
  | _ => none

/-- The largest peak among the CLOSED members. -/
def largestPeak (fs : List Features) : Nat := fs.foldr (fun f p => max f.peak p) 0

/-- The gain of a class; class U has none. -/
def EventSettings.gain (e : EventSettings) : Cls → Nat
  | .a => e.gA
  | .b => e.gB
  | .c => e.gC
  | .u => 0

/-- The weight of an event of class `k` and largest octave `oct` (R94); `zero` says that one of the cases of R94 other than
class U sets it to 0. -/
def weightOf (e : EventSettings) (k : Cls) (oct : Nat) (zero : Bool) : Nat :=
  if zero || k == .u then 0 else min 63 (e.gain k + e.slope * (oct - e.octFloor))

/-- The octave used for the events' weights: that of the largest peak of the CLOSED members. With no CLOSED member the
spec states no peak, and a free value in 7 to 14 stands in. (log 13) -/
def octaveOf (fs : List Features) (free : Nat) : Nat :=
  match fs with
  | [] => 7 + Config.absentPeakOctave free % 8
  | _ => octave (largestPeak fs)

/-! ## The EVENT record (R97, section 11.5) -/

/-- The three words of a listed member. -/
def memberWords (t1 : Nat) (m : Member) (f : Features) : List Word :=
  [packWord [(m.ch.val, 0, 2), (flag f.long, 2, 1), (flag f.clipped, 3, 1), (flag f.gap, 4, 1), (octave f.peak, 8, 4),
      (m.arrival - t1, 12, 12), (f.counts, 24, 8)],
    packWord [(f.peak, 0, 16), (f.dur, 16, 12)],
    BitVec.ofNat 32 f.energy]

/-- The CLOSED members in location order, with their features. -/
def listed (ms : List Member) : List (Member × Features) :=
  (locationOrder ms).filterMap fun m => m.features?.map fun f => (m, f)

/-- The zone number of a record: 31 when UNLOCATED (R92). -/
def unlocatedZone : Nat := 31

/-- The EVENT record of a completion (R97). The capture id is 0 without CAPTURED (DESIGN CHOICE, log 18). -/
def eventRecord (c : Completion) : Record :=
  let e := c.event
  let ms := listed e.members
  let anyOf (p : Features → Bool) : Bool := ms.any fun m => p m.2
  { kind := .event
    body := [packWord [(e.id.toNat, 0, 16), (c.weight, 16, 6), (e.cls.code, 22, 2), (c.zone, 24, 5)],
        packWord [(ms.length, 0, 3), (e.secondary, 4, 4), ((c.capture.map (·.val)).getD 0, 8, 2), (e.cycle.toNat, 16, 16)],
        BitVec.ofNat 32 e.t1]
      ++ ms.flatMap (fun m => memberWords e.t1 m.1 m.2)
    flags := flag c.late + 2 * flag (anyOf (·.gap)) + 4 * flag (anyOf (·.long)) + 8 * flag (anyOf (·.clipped))
      + 16 * flag c.capture.isSome + 32 * flag (!c.located) + 64 * flag c.masked + 128 * flag c.abandoned
    cont := .eventDone }

/-! ## Completion (R88, R89, R95, R96) -/

/-- The members an event completes with: all of them, or the CLOSED ones of an abandoned event (R88). (DEDUCED, log 14) -/
def completingMembers (e : OpenEvent) (abandoned : Bool) : List Member :=
  if abandoned then e.members.filter fun m => m.features?.isSome else e.members

/-- The RUNNING members dropped from an abandoned event lose their assignments (R88). -/
def EventBuilder.dropRunning (b : EventBuilder) (e : OpenEvent) : EventBuilder :=
  e.members.foldl (fun x m => if m.ended then x else x.setAssign m.ch .none) b

/-- An event is LATE: its tag cycle is not 0 and the account of that cycle has been closed (R89). -/
def State.isLate (s : State) (cycle : Word) : Bool := cycle != 0 && !s.asm.isOpen cycle

/-- The account counts of a completion (R89). -/
def Assembler.countEvent (a : Assembler) (k : Cls) (cycle : Word) (late abandoned : Bool) : Assembler :=
  if abandoned then a
  else if late then a.modOldest fun x => { x with late := satInc x.late accountTop }
  else a.modAccount cycle fun x => { x with events := x.events.mod k fun v => satInc v accountTop }

/-- The completing event triggers a capture (R96); `zone` is its zone's number and `w` its weight. -/
def State.triggers (s : State) (zone : Nat) (w : Nat) : Bool :=
  let e := s.ev.settings
  (0 < e.wCap && e.wCap ≤ w)
    || (e.suspect && 0 < w
        && ((s.zone.record? zone).map fun r => r.state == .suspect || r.state == .cracked).getD false)

/-- Item 4 of R95: the EVENT record of the completion is assembled and handed over. -/
def State.handEvent (s : State) (c : Completion) : State :=
  let c1 := { c with stage := .record }
  ({ s with ev := { s.ev with completion := some c1 } }).handOver (eventRecord c1)

/-- Items 1 to 4 of R95 for event `e` under profile `p`. With a trigger, the completion waits for the Capture Unit's answer
before item 4. -/
def State.completeWith (s : State) (p : Profile) (e : OpenEvent) : State :=
  let abandoned := e.fate == .abandons
  let ms := completingMembers e abandoned
  let fs := ms.filterMap Member.features?
  let zone := locate p (locationOrder ms)
  let oct := octaveOf fs s.free
  let w := weightOf s.ev.settings e.cls oct (abandoned || zone.isNone || fs.any (·.long))
  let late := s.isLate e.cycle
  let ev1 := { s.ev with openEvents := s.ev.openEvents.filter fun x => x.id != e.id }
  let s1 := { s with
    ev := if abandoned then ev1.dropRunning e else ev1
    asm := s.asm.countEvent e.cls e.cycle late abandoned
    free := if fs.isEmpty then s.free + 1 else s.free }
  let masked := s1.answersMasked zone e.cycle
  let s2 := s1.receiveEvent zone w e.cycle oct abandoned
  let z := zone.getD unlocatedZone
  let c : Completion :=
    { event := { e with members := ms }, abandoned := abandoned, late := late, located := zone.isSome, zone := z, weight := w,
      masked := masked, capture := none, stage := .record }
  if s2.triggers z w then
    { s2 with ev := { s2.ev with completion := some { c with
        stage := .trigger ⟨e.id, z, e.cycle, e.trigSeq, s2.ev.settings.pre, s2.ev.settings.post⟩ } } }
  else s2.handEvent c

/-- The Capture Unit's answer taken, and item 4 of R95 (R96). -/
def State.answerTrigger (s : State) (id : Option (Fin 4)) : State :=
  match s.ev.completion with
  | none => s
  | some c => s.handEvent { c with capture := id }

end Sys2Proof.Machine
end

