-- ==== Sys2Proof/Machine/Analysis.lean ====
section
/-! DEFINITION. The frame under analysis, from its taking to its last hand-over: pending settings, the gap and skip steps, the sample sets, window ends and the completion check (R29, R30, R55 to R76, R81, R86 to R88). -/

namespace Sys2Proof.Machine

/-! ## Settings and channels -/

/-- The pending detector and event settings become the settings in force (R55, R56, R81). -/
def State.applyPending (s : State) : State :=
  let det := match s.det.pending with
    | none => s.det
    | some d => { settings := d, pending := none, chans := s.det.chans.map (Channel.raiseLatched d.code) }
  let ev := match s.ev.pending with
    | none => s.ev
    | some e => { s.ev with settings := e, pending := none }
  { s with det := det, ev := ev }

/-- Channel `c` replaced. -/
def State.setChan (s : State) (c : Fin 4) (ch : Channel) : State :=
  { s with det := { s.det with chans := s.det.chans.set c ch } }

/-- The state of channel `c` replaced. -/
def State.setChanState (s : State) (c : Fin 4) (st : ChanState) : State :=
  s.setChan c { s.det.chans[c] with state := st }

/-- Channel `c` put in IDLE by a gap: an ACTIVE hit closes with GAP (R70). -/
def State.gapChannel (s : State) (c : Fin 4) : State :=
  match s.det.chans[c].state with
  | .active _ h => (s.setChanState c .idle).hitClose c (h.closedAtLast true)
  | _ => s.setChanState c .idle

/-- Channel `c` put in IDLE by a skip or a mould change: an ACTIVE hit is abandoned (R71, R72). -/
def State.abandonChannel (s : State) (c : Fin 4) : State :=
  match s.det.chans[c].state with
  | .active _ _ => (s.setChanState c .idle).hitAbandon c
  | _ => s.setChanState c .idle

/-- Every channel abandons its work, and every open event is settled (R71, R72, R88). -/
def State.abandonAll (s : State) : State :=
  let s1 := (List.finRange 4).foldl State.abandonChannel s
  { s1 with ev := s1.ev.settleAll }

/-! ## The phases of a frame -/

/-- The frame under analysis enters a phase. -/
def State.setPhase (s : State) (p : Phase) : State :=
  { s with aq := { s.aq with work := s.aq.work.map fun w => { w with phase := p } } }

/-- The frame under analysis has been analysed or skipped. -/
def State.endWork (s : State) : State := { s with aq := { s.aq with work := none } }

/-- The class in which a frame is analysed. -/
def QFrame.cls (f : QFrame) : Cls := f.tag.gates.cls?.getD .u

/-- A frame is skipped: its class is blanked or its overload flag is set (R30). -/
def QFrame.skipped (f : QFrame) : Bool := f.overload || f.tag.gates.cls?.isNone

/-- The missing sample sets of `m` frames (R30). -/
def gapSpan (m : Nat) : Nat := 63 * m

/-- The stream position advanced by `n` (R32). -/
def State.advance (s : State) (n : Nat) : State :=
  { s with asm := { s.asm with position := advancePosition s.asm.position n } }

/-- Step 1 of R30 for a missing count above 0, with the completion check of R87. -/
def State.gapStep (s : State) (m : Nat) : State :=
  let s1 := (List.finRange 4).foldl State.gapChannel (s.advance (gapSpan m))
  { s1 with ev := (s1.ev.gapPosition s1.asm.position).check }

/-- Step 3 of R30: the channels begin the frame (R58, R62). -/
def State.beginAnalysis (s : State) (f : QFrame) : State :=
  { s with det := { s.det with chans := s.det.chans.map (Channel.beginFrame s.det.settings f.cls) } }.setPhase (.sets 0)

/-- Steps 2 and 3 of R30. -/
def State.skipOrAnalyse (s : State) (f : QFrame) : State :=
  if f.skipped then
    let s1 := s.abandonAll
    if s1.checkBusy then s1.setPhase .skip else s1.endWork
  else s.beginAnalysis f

/-- Frame `f`, which has left the queue, taken for analysis, `rest` being the entries behind it (R30). -/
def State.takeFrame (s : State) (f : QFrame) (rest : List AQEntry) : State :=
  let s1 := State.applyPending { s with aq := { entries := rest, work := some ⟨f, .gap⟩ } }
  if f.missing = 0 then s1.skipOrAnalyse f
  else
    let s2 := s1.gapStep f.missing
    if s2.checkBusy then s2 else s2.skipOrAnalyse f

/-- The number of sample sets of a frame (R18). -/
def setCount : Nat := 63

/-- The end of an analysed frame: it is counted in its class and in the total (R30, R33), every channel makes its floor
update, and the completion check follows (R76, R87). (DESIGN CHOICE for the moment of the count, log 39) -/
def State.endFrame (s : State) (f : QFrame) : State :=
  let s1 := { s with
    asm := s.asm.countAnalysed f.tag f.cls
    det := { s.det with chans := s.det.chans.map (Channel.endFrame s.det.settings f.cls) }
    ev := s.ev.check }
  if s1.checkBusy then s1.setPhase .check else s1.endWork

/-- After the position of sample set `n` has been handed over and its window, if any, closed. -/
def State.afterSet (s : State) (f : QFrame) (n : Nat) : State :=
  if n + 1 < setCount then s.setPhase (.sets (n + 1)) else s.endFrame f

/-- Every channel has processed sample set `n`: its position goes to the Event Builder, and the stream position advances
(R32, R58, R86). -/
def State.endSet (s : State) (f : QFrame) (n : Nat) : State :=
  let due := s.ev.windowDue s.asm.position
  let s1 := s.advance 1
  if due then s1.setPhase (.window n) else s1.afterSet f n

/-- The channels of the list process sample set `n` in order (R58, R59); a transition that falls due stops there. -/
def State.runChannels (f : QFrame) (n : Nat) : List (Fin 4) → State → State
  | [], s => s.endSet f n
  | c :: cs, s =>
    let r := s.det.chans[c].step s.det.settings s.asm.position (f.sample n c) f.seq f.cls f.tag.cycle
    let s1 := s.setChan c r.1
    match r.2 with
    | .quiet => State.runChannels f n cs s1
    | .started => State.runChannels f n cs (s1.hitStart c s.asm.position f.seq f.cls f.tag.cycle)
    | .due what => s1.setPhase (.due n c what)

/-- The channels after `c` process sample set `n`. -/
def State.runAfter (s : State) (f : QFrame) (n : Nat) (c : Fin 4) : State :=
  State.runChannels f n ((List.finRange 4).drop (c + 1)) s

/-- The transition `what` of channel `c` in sample set `n` is the one that falls due. -/
def State.dueNow (s : State) (c : Fin 4) (what : Due) : Option (QFrame × Nat) :=
  match s.aq.work with
  | some ⟨f, .due n c' w⟩ => if c' = c && w == what then some (f, n) else none
  | _ => none

/-- The hit of channel `c` ends (R65). -/
def State.endHit (s : State) (c : Fin 4) : State :=
  match s.det.chans[c].state with
  | .active _ h => (s.setChanState c (afterHit s.det.settings)).hitClose c (h.closedAtLast false)
  | _ => s

/-- The hit of channel `c` closes as LONG, and the channel enters HOLDOFF (R66). -/
def State.endLong (s : State) (c : Fin 4) : State :=
  match s.det.chans[c].state with
  | .active t h => (s.setChanState c (.holdoff t 0)).hitClose c (h.closedLong s.asm.position)
  | _ => s

/-! ## After the completions of a check -/

/-- The completions of a check have ended: the frame under analysis goes on from where it stood (R29, R87). -/
def State.resumeFrame (s : State) : State :=
  match s.aq.work with
  | some ⟨f, .gap⟩ => s.skipOrAnalyse f
  | some ⟨_, .skip⟩ => s.endWork
  | some ⟨_, .check⟩ => s.endWork
  | _ => s

end Sys2Proof.Machine
end

