-- ==== Sys2Proof/Machine/Gate.lean ====
section
/-! DEFINITION. The Line Conditioners, the Tacho Cell and the Gate Sequencer, with the hand-over of a cycle end to the Analysis Queue (R31, R35 to R53). -/

namespace Sys2Proof.Machine

/-! ## The Line Conditioners (R35 to R37) -/

/-- A reading of a pin level under a polarity (R35). -/
def readPin (pol : Polarity) (pin : Bool) : Bool :=
  match pol with
  | .normal => pin
  | .inverted => !pin

/-- One sample of a filter: the new level, the new agreement count, and whether the level changed (R35). -/
def filterStep (f : Nat) (level : Bool) (agree : Nat) (reading : Bool) : Bool × Nat × Bool :=
  if reading = level then (level, 0, false)
  else if f ≤ agree + 1 then (reading, 0, true)
  else (level, agree + 1, false)

/-- A change to `level` is an edge event under an edge mode (R36). -/
def EdgeMode.takes (m : EdgeMode) (level : Bool) : Bool :=
  match m with
  | .rising => level
  | .falling => !level
  | .both => true

/-- One sample of a Line Conditioner, and whether it produced an edge event. -/
def LineCond.sample (l : LineCond) (pin : Bool) : LineCond × Bool :=
  let r := filterStep l.settings.filter l.level l.agree (readPin l.settings.polarity pin)
  ({ l with level := r.1, agree := r.2.1 }, r.2.2 && l.settings.mode.takes r.1)

/-- New settings for a line: the level is kept and the agreement count becomes 0 (R37). -/
def LineCond.configure (l : LineCond) (settings : LineSettings) : LineCond := { l with settings := settings, agree := 0 }

/-- New settings for the tacho: the level is kept and the agreement count becomes 0 (R37, R38). -/
def TachoCell.configure (t : TachoCell) (settings : TachoSettings) : TachoCell := { t with settings := settings, agree := 0 }

/-! ## Cycle ends (R31, R49, R53) -/

/-- The longest duration of a cycle, in ticks. -/
def durationTop : Nat := 16777215

/-- A queue entry is a frame whose tag carries cycle `n`. -/
def AQEntry.carries (n : Word) : AQEntry → Bool
  | .frame f => f.tag.cycle == n
  | .marker _ => false

/-- A marker put directly behind the last queued frame that carries `n`. -/
def insertMarker (n : Word) (m : AQEntry) : List AQEntry → List AQEntry
  | [] => []
  | e :: rest =>
    if rest.any (·.carries n) then e :: insertMarker n m rest
    else if e.carries n then e :: m :: rest
    else e :: rest

/-- The frame under analysis carries cycle `n`. -/
def AnalysisQueue.workCarries (q : AnalysisQueue) (n : Word) : Bool :=
  (q.work.map fun w => w.frame.tag.cycle == n).getD false

/-- A cycle end handed to the Analysis Queue: a marker is placed, or the evaluation is due at once (R31, R53). The account
stays open until the evaluation has run (R33). -/
def State.handCycleEnd (s : State) (m : CycleSummary) : State :=
  let n := m.run.cycle
  if s.aq.entries.any (·.carries n) then
    { s with aq := { s.aq with entries := insertMarker n (.marker m) s.aq.entries } }
  else if s.aq.workCarries n then { s with aq := { s.aq with entries := .marker m :: s.aq.entries } }
  else { s with zone := { s.zone with due := s.zone.due ++ [m] } }

/-- The summary handed over at the end of run `r` at time `t` (R49). -/
def CycleRun.summaryAt (r : CycleRun) (cause : Cause) (t : Nat) : CycleSummary :=
  { run := r.summary, cause := cause, duration := min durationTop ((t - r.cycleStart) / samplesPerTick) }

/-- A running cycle ended at time `t`: the gates close, the Sequencer is IDLE, and the cycle end is handed over (R49). -/
def State.endCycle (s : State) (cause : Cause) (t : Nat) : State :=
  match s.gate.state with
  | .inCycle r =>
    ({ s with gate := { s.gate with state := .idle, gates := {} } }).handCycleEnd (r.summaryAt cause t)
  | _ => s

/-- The time at which the running cycle can end on a command: now, and not before its step began. (DESIGN CHOICE, log 28) -/
def State.endTime (s : State) : Nat :=
  match s.gate.state with
  | .inCycle r => max s.clock r.stepStart
  | _ => s.clock

/-! ## Cycle starts and steps (R44 to R48) -/

/-- A cycle started at time `t` (R44, R33; the mark of R101). -/
def State.startCycle (s : State) (t : Nat) : State :=
  let n := nextCycle s.gate.cycle
  { s with
    gate := { s.gate with
      state := .inCycle { step := 0, stepStart := t, cycleStart := t, summary := { cycle := n } }
      gates := {}
      cycle := n
      active := (match s.gate.staged with
        | some p => some p
        | none => s.gate.active)
      staged := none
      truncated := none }
    asm := s.asm.openAccount n
    zone := { s.zone with started := s.zone.started || n == s.zone.firstCycle } }

/-- The step that waits, if a cycle runs. -/
def Sequencer.current (g : Sequencer) : Option (CycleRun × GateStep) :=
  match g.state with
  | .inCycle r => ((g.active.getD [])[r.step]?).map fun st => (r, st)
  | _ => none

/-- Step `st` of run `r` completes at time `t` (R48). -/
def State.stepDone (s : State) (r : CycleRun) (st : GateStep) (t : Nat) : State :=
  let r1 := { r with summary := { r.summary with listenOpened := r.summary.listenOpened || st.gates.listen } }
  if st.isEnd || (s.gate.active.getD []).length ≤ r.step + 1 then
    State.endCycle { s with gate := { s.gate with state := .inCycle r1 } } .endStep t
  else
    { s with gate := { s.gate with state := .inCycle { r1 with step := r.step + 1, stepStart := t }, gates := st.gates } }

/-! ## Edge events (R36, R44, R46, R50) -/

/-- The running cycle `r` truncated and the next one started, at time `t` (R50). -/
def State.truncateCycle (s : State) (r : CycleRun) (t : Nat) : State :=
  let s1 := (s.endCycle .truncated t).startCycle t
  { s1 with gate := { s1.gate with truncated := some (r.summary.cycle, t) } }

/-- An edge event of line 0 at time `t` (R44, R50). -/
def State.cycEdge (s : State) (t : Nat) : State :=
  match s.gate.state with
  | .stopped => s
  | .idle => s.startCycle t
  | .inCycle r => s.truncateCycle r t

/-- An edge event of line `i` (1 to 4) at time `t`: it completes an EDGE step that waits on the line (R36, R46). -/
def State.lineEdge (s : State) (i : Nat) (t : Nat) : State :=
  match s.gate.current with
  | some (r, st) => if st.wait == .edge && st.line == i then s.stepDone r st t else s
  | none => s

/-- An edge event handed to the Gate Sequencer now. In STOPPED none is taken (R52). -/
def State.edge (s : State) (i : Fin 5) : State := if i = 0 then s.cycEdge s.clock else s.lineEdge i s.clock

/-- The edge event of line `i`, if it is due, taken, with the status words that it changes marked before the next one is
taken (R50, R141). -/
def State.takeEdge (s : State) (i : Fin 5) : State :=
  if s.gate.due.contains i then
    (State.edge { s with gate := { s.gate with due := s.gate.due.filter (· != i) } } i).noteChanges s
  else s

/-- The edge events of a list of lines, so far as they are due, taken in that order. (DESIGN CHOICE, log 7) -/
def State.takeEdges (s : State) (lines : List (Fin 5)) : State := lines.foldl State.takeEdge s

/-- The five conditioners sampled, with the lines that produced an edge event. -/
def sampleLines (ls : Vector LineCond 5) (pins : Vector Bool 5) : Vector LineCond 5 × List (Fin 5) :=
  (Vector.ofFn fun i => (ls[i].sample pins[i]).1, (List.finRange 5).filter fun i => (ls[i].sample pins[i]).2)

/-- The five lines sampled at the present time: each is filtered, and the edge events produced are due; in STOPPED they have
no effect (R35, R36, R52). -/
def State.samplePress (s : State) (pins : Vector Bool 5) : State :=
  let r := sampleLines s.lines pins
  { s with lines := r.1, gate := { s.gate with due := if s.gate.state = .stopped then [] else r.2 } }

/-! ## The Tacho Cell (R38 to R41) -/

/-- The top of the running count. -/
def countTop : Nat := 65535

/-- A completed measurement or stall of period `p` checked against the band (R41). -/
def State.bandCheck (s : State) (p : Nat) : State :=
  if s.gate.gates.listen then
    match s.gate.state with
    | .inCycle r =>
      let m := r.summary
      let off := p == 0 || p < s.tacho.pmin || s.tacho.pmax < p
      let m1 := { m with
        minPeriod := some (min p (m.minPeriod.getD p))
        maxPeriod := some (max p (m.maxPeriod.getD p))
        vibOff := m.vibOff || off }
      let s1 := { s with gate := { s.gate with state := .inCycle { r with summary := m1 } } }
      if off && !m.vibOff then s1.raise fVibBand else s1
    | _ => s
  else s

/-- A measuring edge: a measurement if the reference is present and the stalled flag clear; in every case the timing
starts afresh (R39). -/
def State.measuringEdge (s : State) : State :=
  let t := s.tacho
  let t1 := { t with reference := true, stalled := false, count := 0 }
  if t.reference && !t.stalled then
    State.bandCheck { s with tacho := { t1 with last := t.count } } t.count
  else { s with tacho := t1 }

/-- A change to `level` is a measuring edge (R38). -/
def MeasEdge.takes (m : MeasEdge) (level : Bool) : Bool :=
  match m with
  | .rising => level
  | .falling => !level

/-- The filter of the TACHO input applied to a reading, and the measuring edge it may give (R38, R39). -/
def State.tachoFilter (s : State) (reading : Bool) : State :=
  let r := filterStep s.tacho.settings.filter s.tacho.level s.tacho.agree reading
  let s1 := { s with tacho := { s.tacho with level := r.1, agree := r.2.1 } }
  if r.2.2 && s.tacho.settings.edge.takes r.1 then s1.measuringEdge else s1

/-- One sample of the TACHO input: the count advances; a count that saturates has its stall due before the filter is
applied (R39, R40). (DESIGN CHOICE for the pairing with the press lines, log 6) -/
def State.sampleTacho (s : State) (pin : Bool) : State :=
  let reading := readPin s.tacho.settings.polarity pin
  let count := min countTop (s.tacho.count + 10)
  let s1 := { s with tacho := { s.tacho with count := count } }
  if count = countTop && !s.tacho.stalled then { s1 with tacho := { s1.tacho with stallHeld := some reading } }
  else s1.tachoFilter reading

/-- The stall that the present sample gave (R40, R41). -/
def State.takeStall (s : State) : State :=
  { s with tacho := { s.tacho with last := 0, stalled := true, reference := false, stallHeld := none } }.bandCheck 0

/-- The stall of a sample with reading `reading`, with the status words that it changes marked (R141), then the sample's
filter (R40). -/
def State.stall (s : State) (reading : Bool) : State := (s.takeStall.noteChanges s).tachoFilter reading

end Sys2Proof.Machine
end

