-- ==== Sys2Proof/Machine/Image.lean ====
section
/-! DEFINITION. The configuration image: the built-in defaults, the checks and clamps of R160, the image that SAVE CONFIGURATION builds (R156), the CRC, and the instructions on the NVM link (R159, R161, R164). -/

namespace Sys2Proof.Machine

/-! ## Bytes and CRC -/

/-- Byte `i` of an image; a byte that the link did not deliver reads as FFH (an absent EEPROM leaves NVM_DI high, R159).
(log 37) -/
def imageByte (bs : List Byte) (i : Nat) : Nat := (bs[i]?.getD 0xFF).toNat

/-- Two bytes, big-endian (R164). -/
def imageWord16 (bs : List Byte) (i : Nat) : Nat := imageByte bs i * 256 + imageByte bs (i + 1)

/-- Three bytes, big-endian (R164). -/
def imageWord24 (bs : List Byte) (i : Nat) : Nat := imageWord16 bs i * 256 + imageByte bs (i + 2)

/-- Four bytes, big-endian (R164). -/
def imageWord32 (bs : List Byte) (i : Nat) : Word :=
  BitVec.ofNat 32 (imageWord16 bs i * 65536 + imageWord16 bs (i + 2))

/-- One shift of the CRC register: polynomial 1021H (R160). -/
def crcShift (r : BitVec 16) : BitVec 16 := if r.msb then (r <<< 1) ^^^ 0x1021#16 else r <<< 1

/-- One byte taken into the CRC register, most significant bit first (R160). -/
def crcByte (r : BitVec 16) (b : Byte) : BitVec 16 :=
  (List.range 8).foldl (fun x _ => crcShift x) (r ^^^ (b.setWidth 16 <<< 8))

/-- CRC-16 with initial value FFFFH and no final inversion (R160). -/
def crc16 (bs : List Byte) : BitVec 16 := bs.foldl crcByte 0xFFFF#16

/-- A number as `n` bytes, big-endian (R164). -/
def bytesBE (n v : Nat) : List Byte := (List.range n).map fun i => BitVec.ofNat 8 (v >>> (8 * (n - 1 - i)))

/-! ## The built-in defaults (R161) -/

/-- A vector of 196 entries made by an index function. -/
def tableOf (f : Nat → Byte) : Vector Byte 196 := ⟨⟨(List.range 196).map f⟩, by simp⟩

/-- The default location table: the row of a pair, and the single row of a channel, give the first channel's zone. -/
def defaultTable : Vector Byte 196 :=
  tableOf fun i => BitVec.ofNat 8 (if i < 192 then i / 48 else i - 192)

/-- The default profile (R161). -/
def defaultProfile : Profile := { type := 1, zoneCount := 4, q := 2, table := defaultTable, mask := 0 }

/-- The built-in defaults (R161, section 3.6). -/
def builtInDefaults : ImageConfig where
  windows := { bs := 0x10000, be := 0x18000, bc := 0x20000, bt := 0x20200, br := 0x21000, r := 64 }
  det := { kEnv := 2, kUp := 6, f := 48, code := 1, hdt := 64, lockout := 32, dMax := 2048 }
  event := { w := 400, wCap := 0, suspect := true, pre := 2, post := 2, gA := 4, gB := 3, gC := 2, slope := 2, octFloor := 8 }
  policy := { tWatch := 40, tSuspect := 120, tCrack := 300, h := 10, n := 3, d := 4, b := 8, blindLimit := 8, offBlind := true }
  pmin := 15000
  pmax := 25000
  lines := Vector.replicate 5 { polarity := .normal, filter := 3, mode := .rising }
  tacho := { polarity := .normal, filter := 3, edge := .rising }
  program := [⟨.delay, 13, 0, { a := true }, false⟩, ⟨.delay, 13, 0, {}, true⟩]
  enables := 0xFFFF
  levels := ⟨#[0, 1, 1, 1, 0, 1, 1, 1, 1, 1, 1, 1, 1, 1, 1, 1], rfl⟩
  batchEvent := 1
  batchCycle := 1
  clearMode := .clearOnOne
  sources := 0x0008
  stopMode := .latch
  stopK := 0
  initialType := 1
  profiles := [defaultProfile]

/-! ## The checks (R160) -/

/-- The extents of the windows as `(first byte, size)`; the sample window and the spare tail count as one (R3). -/
def windowExtents (t : WindowTable) : List (Nat × Nat) :=
  [(t.bs, 24576), (t.be, 24576), (t.bc, 512), (t.bt, 256), (t.br, t.r * 128)]

/-- Two extents share no address. -/
def disjointExtents (x y : Nat × Nat) : Bool := x.1 + x.2 ≤ y.1 || y.1 + y.2 ≤ x.1

/-- No two extents of a list share an address. -/
def allDisjoint : List (Nat × Nat) → Bool
  | [] => true
  | x :: rest => rest.all (disjointExtents x) && allDisjoint rest

/-- Every condition of R3 on a window table, with R in 16 to 512. -/
def windowsOk (t : WindowTable) : Bool :=
  !outside 16 512 t.r
    && t.bs % 4096 == 0 && t.be % 4096 == 0 && t.bc % 256 == 0 && t.bt % 256 == 0 && t.br % 256 == 0
    && (windowExtents t).all (fun e => e.1 + e.2 ≤ 2 ^ 24)
    && allDisjoint (windowExtents t)

/-- The window table of an image (section 11.6). -/
def imageWindows (bs : List Byte) : WindowTable :=
  { bs := imageWord24 bs 2, be := imageWord24 bs 5, bc := imageWord24 bs 8, bt := imageWord24 bs 11,
    br := imageWord24 bs 14, r := imageWord16 bs 17 }

/-- The four marker bytes (R160). -/
def markersOk (bs : List Byte) : Bool :=
  imageByte bs 0 == 0xC3 && imageByte bs 1 == 0x3C && imageByte bs 1022 == 0x3C && imageByte bs 1023 == 0xC3

/-- The CRC over bytes 2 to 1019 equals bytes 1020 and 1021 (R160). -/
def crcOk (bs : List Byte) : Bool := (crc16 ((bs.drop 2).take 1018)).toNat == imageWord16 bs 1020

/-- The step words of an image that count (R160). -/
def imageStepWords (bs : List Byte) : List Word :=
  (List.range (imageByte bs 63)).map fun i => imageWord32 bs (64 + 4 * i)

/-- Zone thresholds and tacho band stand in order after clamping (R160). -/
def orderOk (bs : List Byte) : Bool :=
  let tw := clampTo 1 1023 (imageWord16 bs 40)
  let ts := clampTo 1 1023 (imageWord16 bs 42)
  let tc := clampTo 1 1023 (imageWord16 bs 44)
  tw < ts && ts < tc && clampTo 1 65535 (imageWord16 bs 53) ≤ clampTo 1 65535 (imageWord16 bs 55)

/-- Step count and steps pass the step checks (R160). -/
def programOk (bs : List Byte) : Bool :=
  stepCountOk (imageByte bs 63) && (stepsOfWords (imageStepWords bs)).isSome

/-- The checks whose failure rejects an image, in the order of R160. -/
def imageOk (bs : List Byte) : Bool :=
  markersOk bs && crcOk bs && windowsOk (imageWindows bs) && orderOk bs && programOk bs

/-! ## The values of an image that passes (R160, R164) -/

/-- The numeric fields of an image with their limits, in image order; H is limited by the clamped T_watch. -/
def numericFields (bs : List Byte) : List (Nat × Nat × Nat) :=
  let b := imageByte bs
  let h := imageWord16 bs
  [(1, 6, b 19), (4, 10, b 20), (16, 255, b 21), (0, 31, b 22), (8, 1023, h 23), (0, 1023, h 25), (64, 4095, h 27),
   (1, 4095, h 29), (0, 63, b 31), (0, 5, b 33), (0, 6, b 34),
   (0, 15, b 35), (0, 15, b 36), (0, 15, b 37), (0, 7, b 38), (0, 14, b 39),
   (1, 1023, h 40), (1, 1023, h 42), (1, 1023, h 44), (0, clampTo 1 1023 (h 40) - 1, h 46),
   (1, 255, b 48), (0, 63, b 49), (0, 63, b 50), (0, 255, b 51), (1, 65535, h 53), (1, 65535, h 55),
   (1, 255, b 128), (1, 255, b 129), (0, 15, b 134)]
  ++ (List.range 6).map (fun i => (1, 8, b (57 + i) % 16))

/-- The polarity bit of a line byte. -/
def lineBytePolarity (v : Nat) : Polarity := if v.testBit 4 then .inverted else .normal

/-- The edge mode field of a line byte; code 3 is unknown (R164). -/
def lineByteMode (v : Nat) : Option EdgeMode := edgeModeOf (v / 32 % 4)

/-- The settings of a line byte; an unknown edge mode takes the default RISING (R160). Bit 7, which belongs to no field, is
not read. (DESIGN CHOICE, log 47) -/
def lineOfByte (v : Nat) : LineSettings := ⟨lineBytePolarity v, clampTo 1 8 (v % 16), (lineByteMode v).getD .rising⟩

/-- The settings of the tacho's line byte; BOTH is applied as RISING (R38, R160). -/
def tachoOfByte (v : Nat) : TachoSettings :=
  ⟨lineBytePolarity v, clampTo 1 8 (v % 16), ((lineByteMode v).bind EdgeMode.measuring?).getD .rising⟩

/-- The clear mode of a code (R164). -/
def clearModeOf (v : Nat) : Option ClearMode :=
  match v with
  | 0 => some .clearOnOne
  | 1 => some .replace
  | _ => none

/-- An enumerated field of the image holds an unknown code, or the tacho's edge mode is BOTH (R160). -/
def unknownCodes (bs : List Byte) : Bool :=
  let b := imageByte bs
  (switchOf (b 32)).isNone || (switchOf (b 52)).isNone || (clearModeOf (b 130)).isNone || (stopModeOf (b 133)).isNone
    || (List.range 5).any (fun i => (lineByteMode (b (57 + i))).isNone)
    || ((lineByteMode (b 62)).bind EdgeMode.measuring?).isNone

/-- The first byte of profile slot `p` (section 11.6). -/
def profileBase (p : Nat) : Nat := 136 + 202 * p

/-- The mask set members at or above the zone count dropped (R160). -/
def trimMask (mask zoneCount : Nat) : BitVec 24 := BitVec.ofNat 24 (mask % 2 ^ zoneCount)

/-- The profile of a profile slot, with q clamped (R160). -/
def profileOf (bs : List Byte) (p : Nat) : Profile :=
  let at' := profileBase p
  { type := imageByte bs at'
    zoneCount := imageByte bs (at' + 1)
    q := clampTo 0 7 (imageByte bs (at' + 2))
    table := tableOf fun i => BitVec.ofNat 8 (imageByte bs (at' + 3 + i))
    mask := trimMask (imageWord24 bs (at' + 199)) (imageByte bs (at' + 1)) }

/-- The profile slot's own values would be accepted (R160); its type is judged against earlier slots elsewhere. -/
def profileValuesOk (bs : List Byte) (p : Nat) : Bool :=
  let at' := profileBase p
  imageByte bs at' != 0 && !outside 1 24 (imageByte bs (at' + 1))
    && (List.range 196).all (fun i => entryOk (imageByte bs (at' + 3 + i)))

/-- A profile slot is not ignored: its own values are in order and no earlier slot has its type (R160). -/
def profileStored (bs : List Byte) (p : Nat) : Bool :=
  profileValuesOk bs p && (List.range p).all (fun j => imageByte bs (profileBase j) != imageByte bs (profileBase p))

/-- The profile slots that are not ignored, in order. -/
def storedSlots (bs : List Byte) : List Nat := (List.range 4).filter (profileStored bs)

/-- The stored profiles; with none the default profile becomes the one stored profile (R160). -/
def imageProfiles (bs : List Byte) : List Profile :=
  match storedSlots bs with
  | [] => [defaultProfile]
  | slots => slots.map (profileOf bs)

/-- The image status CLAMPED: a numeric field was clamped, q of every profile slot among them, or an enumerated field took
its default (R160). (DEDUCED for what counts, log 17) -/
def imageClamped (bs : List Byte) : Bool :=
  (numericFields bs).any (fun f => outside f.1 f.2.1 f.2.2) || unknownCodes bs
    || (List.range 4).any (fun p => outside 0 7 (imageByte bs (profileBase p + 2)))

/-- The factor enables of an image. -/
def imageEnables (bs : List Byte) : Half :=
  BitVec.ofNat 16 ((List.range 16).foldr (fun i acc => acc + flag ((imageByte bs (112 + i)).testBit 7) * 2 ^ i) 0)

/-- The values of an image that passes the checks (R160, section 11.6). Bit 7 of a line byte and bits 6 to 3 of a factor
byte, which belong to no field, are not read. (DESIGN CHOICE, log 47) -/
def imageConfig (bs : List Byte) : ImageConfig :=
  let b := imageByte bs
  let h := imageWord16 bs
  let tw := clampTo 1 1023 (h 40)
  { windows := imageWindows bs
    det := { kEnv := clampTo 1 6 (b 19), kUp := clampTo 4 10 (b 20), f := clampTo 16 255 (b 21), code := clampTo 0 31 (b 22),
             hdt := clampTo 8 1023 (h 23), lockout := clampTo 0 1023 (h 25), dMax := clampTo 64 4095 (h 27) }
    event := { w := clampTo 1 4095 (h 29), wCap := clampTo 0 63 (b 31), suspect := (switchOf (b 32)).getD true,
               pre := clampTo 0 5 (b 33), post := clampTo 0 6 (b 34), gA := clampTo 0 15 (b 35), gB := clampTo 0 15 (b 36),
               gC := clampTo 0 15 (b 37), slope := clampTo 0 7 (b 38), octFloor := clampTo 0 14 (b 39) }
    policy := { tWatch := tw, tSuspect := clampTo 1 1023 (h 42), tCrack := clampTo 1 1023 (h 44), h := clampTo 0 (tw - 1) (h 46),
                n := clampTo 1 255 (b 48), d := clampTo 0 63 (b 49), b := clampTo 0 63 (b 50),
                blindLimit := clampTo 0 255 (b 51), offBlind := (switchOf (b 52)).getD true }
    pmin := clampTo 1 65535 (h 53)
    pmax := clampTo 1 65535 (h 55)
    lines := ⟨⟨(List.range 5).map fun i => lineOfByte (b (57 + i))⟩, by simp⟩
    tacho := tachoOfByte (b 62)
    program := (stepsOfWords (imageStepWords bs)).getD []
    enables := imageEnables bs
    levels := ⟨⟨(List.range 16).map fun i => b (112 + i) % 8⟩, by simp⟩
    batchEvent := clampTo 1 255 (b 128)
    batchCycle := clampTo 1 255 (b 129)
    clearMode := (clearModeOf (b 130)).getD .clearOnOne
    sources := BitVec.ofNat 16 (h 131)
    stopMode := (stopModeOf (b 133)).getD .latch
    stopK := clampTo 0 15 (b 134)
    initialType := b 135
    profiles := imageProfiles bs }

/-- What one read attempt gave: the values and whether any was clamped, or nothing where the link does not answer (a
status byte of FFH) or the image is rejected (R159, R160). -/
def judgeRead (status : Byte) (bs : List Byte) : Option (ImageConfig × Bool) :=
  if status == 0xFF || !imageOk bs then none else some (imageConfig bs, imageClamped bs)

/-- The mould type to put in force when none is kept: the initial type if a stored profile has it, else the first stored
profile's type, else 1 (R100, R160). -/
def chooseType (cfg : ImageConfig) : Nat :=
  if cfg.profiles.any (fun p => p.type == cfg.initialType) then cfg.initialType
  else ((cfg.profiles.head?).map (·.type)).getD 1

/-! ## The image that SAVE CONFIGURATION builds (R156, section 11.6) -/

def polarityCode : Polarity → Nat
  | .normal => 0
  | .inverted => 1

def edgeModeCode : EdgeMode → Nat
  | .rising => 0
  | .falling => 1
  | .both => 2

def measEdgeCode : MeasEdge → Nat
  | .rising => 0
  | .falling => 1

/-- A line byte (R164); bit 7 is written 0. (DESIGN CHOICE, log 47) -/
def lineByte (filter : Nat) (pol : Polarity) (mode : Nat) : Byte :=
  BitVec.ofNat 8 (filter + 16 * polarityCode pol + 32 * mode)

/-- A profile as the 202 bytes of a profile slot. -/
def profileBytes (p : Profile) : List Byte :=
  [BitVec.ofNat 8 p.type, BitVec.ofNat 8 p.zoneCount, BitVec.ofNat 8 p.q] ++ p.table.toList ++ bytesBE 3 p.mask.toNat

/-- A profile slot with no stored profile: type 0 and every other byte 0 (R156). -/
def emptySlotBytes : List Byte := List.replicate 202 0

/-- The step words, 0 beyond the step count (R156). -/
def programBytes (p : List GateStep) : List Byte :=
  (List.range 12).flatMap fun i => bytesBE 4 ((p[i]?.map wordOfStep).getD 0).toNat

/-- A factor byte: enable in bit 7, level in bits 2 to 0 (R164); bits 6 to 3 are written 0. (DESIGN CHOICE, log 47) -/
def factorByte (enables : Half) (levels : Vector Nat 16) (i : Nat) : Byte :=
  BitVec.ofNat 8 (128 * flag (enables.getLsbD i) + vget levels i 0)

/-- Bytes 2 to 1019 of the image of a configuration: what the CRC covers (R160, R164). -/
def imageBody (c : ImageConfig) : List Byte :=
  let n8 (v : Nat) : List Byte := [BitVec.ofNat 8 v]
  let w := c.windows
  let d := c.det
  let e := c.event
  let z := c.policy
  bytesBE 3 w.bs ++ bytesBE 3 w.be ++ bytesBE 3 w.bc ++ bytesBE 3 w.bt ++ bytesBE 3 w.br ++ bytesBE 2 w.r
  ++ n8 d.kEnv ++ n8 d.kUp ++ n8 d.f ++ n8 d.code ++ bytesBE 2 d.hdt ++ bytesBE 2 d.lockout ++ bytesBE 2 d.dMax
  ++ bytesBE 2 e.w ++ n8 e.wCap ++ n8 (flag e.suspect) ++ n8 e.pre ++ n8 e.post
  ++ n8 e.gA ++ n8 e.gB ++ n8 e.gC ++ n8 e.slope ++ n8 e.octFloor
  ++ bytesBE 2 z.tWatch ++ bytesBE 2 z.tSuspect ++ bytesBE 2 z.tCrack ++ bytesBE 2 z.h
  ++ n8 z.n ++ n8 z.d ++ n8 z.b ++ n8 z.blindLimit ++ n8 (flag z.offBlind)
  ++ bytesBE 2 c.pmin ++ bytesBE 2 c.pmax
  ++ c.lines.toList.map (fun l => lineByte l.filter l.polarity (edgeModeCode l.mode))
  ++ [lineByte c.tacho.filter c.tacho.polarity (measEdgeCode c.tacho.edge)]
  ++ n8 c.program.length ++ programBytes c.program
  ++ (List.range 16).map (factorByte c.enables c.levels)
  ++ n8 c.batchEvent ++ n8 c.batchCycle
  ++ n8 (match c.clearMode with | .clearOnOne => 0 | .replace => 1)
  ++ bytesBE 2 c.sources.toNat ++ n8 (match c.stopMode with | .latch => 0 | .pulse => 1) ++ n8 c.stopK
  ++ n8 c.initialType
  ++ (List.range 4).flatMap (fun i => (c.profiles[i]?.map profileBytes).getD emptySlotBytes)
  ++ List.replicate 76 0

/-- The image of a configuration, with its markers and CRC (R156, R160). -/
def buildImage (c : ImageConfig) : List Byte :=
  [0xC3, 0x3C] ++ imageBody c ++ bytesBE 2 (crc16 (imageBody c)).toNat ++ [0x3C, 0xC3]

/-! ## Instructions on the NVM link (R159) -/

/-- The number of pages of an image, of 32 bytes each (R156). -/
def pageCount : Nat := 32

/-- The status poll: 05H, then one byte is taken. -/
def pollInstr : List Byte := [0x05]

/-- The instructions of an image read or readback: a status poll, then the read of address 0. -/
def readInstrs : List (List Byte) := [pollInstr, [0x03, 0x00, 0x00]]

/-- The instructions that write page `p` of an image: the write enable, the page write, then polling. -/
def pageInstrs (image : List Byte) (p : Nat) : List (List Byte) :=
  [[0x06], [0x02] ++ bytesBE 2 (32 * p) ++ (image.drop (32 * p)).take 32, pollInstr]

/-- A byte on NVM_DO: its bits most significant first (R159). -/
def serialBits (b : Byte) : List Bool := (List.range 8).map fun i => b.getMsbD i

/-- 10 µs sample instants in the 10 ms wait before the second attempt (R161). -/
def retrySpan : Nat := 1000

/-- 10 µs sample instants in the 20 ms a page has to become ready (R159). -/
def pageSpan : Nat := 2000

/-- 10 µs sample instants that the two instructions of a page write take on the link: 36 bytes at 1 MHz are 288 µs (R159).
(DEDUCED, log 49) -/
def writeSpan : Nat := 29

/-! ## Levels on the NVM link (R159) -/

/-- The levels of NVM_CS_N, NVM_SCK and NVM_DO (`true` is high). `dout` is absent where the spec gives NVM_DO no bit to
carry. -/
structure LinkLevels where
  csN  : Bool
  sck  : Bool
  dout : Option Bool
  deriving DecidableEq, Repr

/-- The levels between operations: NVM_CS_N high, NVM_SCK low (R159). -/
def LinkLevels.idle : LinkLevels := ⟨true, false, none⟩

/-- The bytes that an instruction takes after those it sends: one for a status poll, the whole image for a read (R159). -/
def bytesTaken : List Byte → Nat
  | 0x05#8 :: _ => 1
  | 0x03#8 :: _ => imageLength
  | _ => 0

/-- The bits that NVM_DO carries in an instruction; none while bytes are taken. -/
def instrBits (instr : List Byte) : List (Option Bool) :=
  (instr.flatMap serialBits).map some ++ List.replicate (8 * bytesTaken instr) none

/-- The levels of one bit: NVM_DO has changed after the falling edge of NVM_SCK, and the rising edge follows (R159). -/
def bitLevels (b : Option Bool) : List LinkLevels := [⟨false, false, b⟩, ⟨false, true, b⟩]

/-- The levels that an instruction drives one after the other: NVM_CS_N goes low for it and high again after it (R159). -/
def instrLevels (instr : List Byte) : List LinkLevels :=
  (instrBits instr).flatMap bitLevels ++ [⟨false, false, none⟩, LinkLevels.idle]

end Sys2Proof.Machine
end

