-- ==== Sys2Proof/Machine/Command.lean ====
section
/-! DEFINITION. The Command Unit: slots, shadows, the terminator, beginning and completing a command, and the work of the commands that take time (R117, R149 to R157). -/

namespace Sys2Proof.Machine

/-! ## Slots and completion words (R151, R152) -/

/-- Slot `i` changed by `f`. -/
def State.modSlot (s : State) (i : Fin 8) (f : Slot → Slot) : State :=
  { s with cmd := { s.cmd with slots := s.cmd.slots.set i (f s.cmd.slots[i]) } }

/-- Slot `i` becomes DONE and COMMAND_DONE is raised (R152, R157). -/
def State.slotDone (s : State) (i : Fin 8) : State :=
  (s.modSlot i fun x => { x with state := .done }).raise fCommandDone

/-- The completion word of slot `i` with a code, the DISTURBED mark as it stands now (R151, R152). -/
def State.slotWordOf (s : State) (i : Fin 8) (code : Code) : Word :=
  completionWord (vget s.cmd.slots[i].shadow 0 0) code s.cmd.slots[i].disturbed

/-- The address of word 0 of slot `i` (R152). -/
def State.slotAddress (s : State) (i : Fin 8) : Nat := s.windows.bc + 64 * i.val

/-- The slot of a completion becomes DONE when the word is placed, not when its write has completed (R157). -/
def Code.atPlacing : Code → Bool
  | .accepted => true
  | .discarded => true
  | _ => false

/-- A completion word placed; the caller has found room. -/
def State.placeCompletion (s : State) (i : Fin 8) (code : Code) : State :=
  let w := s.slotWordOf i code
  if code.atPlacing then (s.place ⟨s.slotAddress i, .write w⟩).slotDone i
  else s.place ⟨s.slotAddress i, .completion i w⟩

/-- The completion words of a list placed in order as room allows; the others go on waiting (R15). -/
def State.placeCompletions : List (Fin 8 × Code) → State → State
  | [], s => { s with cmd := { s.cmd with waits := [] } }
  | (i, code) :: rest, s =>
    if s.hasRoom then State.placeCompletions rest (s.placeCompletion i code)
    else { s with cmd := { s.cmd with waits := (i, code) :: rest } }

/-- The waiting completion words placed as room allows. -/
def State.pumpCompletions (s : State) : State := State.placeCompletions s.cmd.waits s

/-- A completion word ready for slot `i`: placed behind those that wait, as room allows (R15). That the Command Unit can have a
further word ready while one of its words waits is a DESIGN CHOICE (log 59). -/
def State.queueCompletion (s : State) (i : Fin 8) (code : Code) : State :=
  State.placeCompletions (s.cmd.waits ++ [(i, code)]) s

/-- The EXECUTING command's work goes on as `job`. -/
def State.setJob (s : State) (job : Job) : State :=
  { s with cmd := { s.cmd with exec := s.cmd.exec.map fun e => { e with job := job } } }

/-- The EXECUTING command has done its work, with a code (R152). -/
def State.complete (s : State) (code : Code) : State :=
  match s.cmd.exec with
  | some e => (s.setJob .completing).queueCompletion e.slot code
  | none => s

/-! ## Snooped command-window writes (R149 to R151) -/

/-- Slot `i` taken: it becomes PENDING and joins the queue (R150). -/
def State.takeCommand (s : State) (i : Fin 8) : State :=
  let s1 := s.modSlot i fun x => { x with state := .pending }
  { s1 with cmd := { s1.cmd with queue := s1.cmd.queue ++ [i] } }

/-- The terminator test at word `k` of FREE slot `i`, whose shadow already holds the write (R150, R152). -/
def State.testTerminator (s : State) (i : Fin 8) (k : Nat) : State :=
  match terminatorTest s.cmd.slots[i].shadow k with
  | .plain => s
  | .taken => s.takeCommand i
  | .unknown => (s.modSlot i fun x => { x with state := .pending }).queueCompletion i .refusedUnknown

/-- A snooped write to word `k` of slot `i` (R149). -/
def State.slotWrite (s : State) (i : Fin 8) (k : Fin 16) (lanes : Lanes) (w : Word) : State :=
  let x := s.cmd.slots[i]
  let v := mergeLanes (vget x.shadow k 0) w lanes
  let stored := fun (y : Slot) => { y with shadow := y.shadow.set k v }
  match x.state with
  | .free =>
    let s1 := s.modSlot i stored
    if fullWord lanes && w == allOnes && k != 0 then s1.testTerminator i k else s1
  | .done => if k = 0 then s.modSlot i fun y => { stored y with state := .free, disturbed := false } else s
  | _ => s.modSlot i fun y => { y with disturbed := true }

/-! ## Beginning a command (R152) -/

/-- The command at the head of the queue begins, if no slot is EXECUTING and its function code is `fn`; `work` is what it
does with its shadow. Otherwise nothing happens. That it begins also while the word of a command refused with REFUSED_UNKNOWN
waits for room is a DESIGN CHOICE (R15, R152, log 59). -/
def State.command (s : State) (fn : Nat) (work : Vector Word 16 → State → State) : State :=
  match s.path.state, s.cmd.exec, s.cmd.queue with
  | .running, none, i :: rest =>
    let sh := s.cmd.slots[i].shadow
    if functionCode (vget sh 0 0) = fn then
      work sh
        (State.modSlot { s with cmd := { s.cmd with queue := rest, exec := some ⟨i, .completing⟩ } } i
          fun x => { x with state := .executing })
    else s
  | _, _, _ => s

/-- A command that applies checked arguments, or is refused with a code (R153). -/
def State.applyArgs {α : Type} (s : State) (args : Except Code (α × Bool)) (apply : State → α → State) : State :=
  match args with
  | .error c => s.complete c
  | .ok (v, clamped) => (apply s v).complete (doneCode clamped)

/-! ## Location tables (R93, R154, R155) -/

/-- The table of the profile in force, and of the stored profile of its type, changed by `f` (R93). -/
def State.modTable (s : State) (f : Vector Byte 196 → Vector Byte 196) : State :=
  match s.ev.profile with
  | none => s
  | some p =>
    { s with
      ev := { s.ev with profile := some { p with table := f p.table } }
      loader := { s.loader with stored := s.loader.stored.map fun x => if x.type = p.type then { x with table := f x.table } else x } }

/-- The size of a location table, one byte per entry (R91). -/
def tableSize : Nat := 196

/-- The source addresses of LOAD LOCATION TABLE (R155). -/
def tableAddresses (a : Nat) : List Nat := (List.range 49).map fun j => a + 4 * j

/-- The table reads that wait placed as room allows (R15, R155). -/
def State.placeLoads : List Nat → State → State
  | [], s => { s with cmd := { s.cmd with loadWaits := [] } }
  | a :: rest, s =>
    if s.hasRoom then State.placeLoads rest (s.place ⟨a, .tableRead⟩)
    else { s with cmd := { s.cmd with loadWaits := a :: rest } }

/-- The four bytes of a source word, in entry index order (R163). -/
def wordBytes (w : Word) : List Byte := [byteOf w 0, byteOf w 1, byteOf w 2, byteOf w 3]

/-- A source word has arrived; with the 49th the staging copy is checked, and replaces the table or refuses the command
(R155). Its completion word then goes before any source that waits. (DESIGN CHOICE, log 54) -/
def State.receiveTableWord (s : State) (w : Word) : State :=
  match s.cmd.exec with
  | some ⟨_, .loading got⟩ =>
    let all := got ++ wordBytes w
    if all.length < tableSize then s.setJob (.loading all)
    else if all.all (fun b => entryOk b.toNat) then (s.modTable fun _ => tableOf fun i => all[i]?.getD 0).complete .done
    else s.complete .refusedValue
  | _ => s

/-! ## Zone commands (R113 to R116) -/

/-- The ZONE_CHANGE record of a zone command, with which the command waits. -/
def State.reportZone (s : State) (z : Nat) (old new : ZoneState) : State :=
  (s.handOver (zoneChangeRecord z old new 0 0 s.gate.cycle .zoneCommand)).setJob .records

/-- A zone record after MASK ZONE (R113). -/
def ZoneRecord.mask (r : ZoneRecord) : ZoneRecord := { r with state := .masked, score := 0, streak := 0, hitsCycle := 0 }

/-- A zone record after UNMASK ZONE (R114). -/
def ZoneRecord.unmask (r : ZoneRecord) : ZoneRecord := { r with state := .clear, score := 0, streak := 0 }

/-- A zone record after RESET ZONE (R115). -/
def ZoneRecord.reset (r : ZoneRecord) : ZoneRecord := { r with state := .clear, score := 0, streak := 0, hitsCycle := 0 }

/-- The record of zone `z` becomes `new`; the command completes, with a ZONE_CHANGE record first if the state changed. -/
def State.changeZone (s : State) (z : Nat) (old new : ZoneRecord) : State :=
  let s1 := s.putZone z new
  if old.state = new.state then s1.complete .done else s1.reportZone z old.state new.state

/-- The next present zone of a list has its ZONE_DETAIL record handed over, or ZONE REPORT completes (R116). The record shows the
zone as it stands, also while an evaluation waits with its ZONE_CHANGE record for that zone, before hits_cycle is cleared.
(DESIGN CHOICE, log 61) -/
def State.reportZones : List Nat → State → State
  | [], s => s.complete .done
  | z :: zs, s =>
    match s.zone.record? z with
    | none => State.reportZones zs s
    | some r => (s.handOver (zoneDetailRecord z r (.zoneReport (z + 1)))).setJob .records

/-- ZONE REPORT goes on from zone `z`. -/
def State.reportFrom (s : State) (z : Nat) : State := State.reportZones ((List.range 24).drop z) s

/-! ## SAVE CONFIGURATION (R156) -/

/-- The configuration that SAVE CONFIGURATION writes (R156). -/
def State.savedConfig (s : State) : ImageConfig :=
  { windows := s.windows
    det := s.det.pending.getD s.det.settings
    event := s.ev.pending.getD s.ev.settings
    policy := s.zone.policy
    pmin := s.tacho.pmin
    pmax := s.tacho.pmax
    lines := s.lines.map (·.settings)
    tacho := s.tacho.settings
    program := (match s.gate.staged with
      | some p => p
      | none => s.gate.active.getD [])
    enables := s.notice.enables
    levels := s.notice.levels
    batchEvent := s.notice.batchEvent.count
    batchCycle := s.notice.batchCycle.count
    clearMode := s.notice.clearMode
    sources := s.notice.sources
    stopMode := s.notice.mode
    stopK := s.notice.k
    initialType := s.zone.mouldType
    profiles := s.loader.stored }

/-- An operation begun on the NVM link, as the instructions sent (R159). -/
def State.send (s : State) (instrs : List (List Byte)) : State := { s with loader := { s.loader with sent := instrs } }

/-- The writing of page `p` of an image begins; the time at which its write instruction ends is kept (R156, R159). -/
def State.writePage (s : State) (image : List Byte) (p : Nat) : State :=
  (s.send (pageInstrs image p)).setJob (.saving image p (s.clock + writeSpan))

/-- The readback of an image begins (R156). -/
def State.beginReadback (s : State) (image : List Byte) : State := (s.send readInstrs).setJob (.verifying image)

/-- An operation is in progress on the NVM link: an image read, or a page write or readback of SAVE CONFIGURATION. -/
def State.linkBusy (s : State) : Bool :=
  (match s.loader.phase with
    | .reading _ => true
    | _ => false)
  || (match s.cmd.exec with
    | some ⟨_, .saving _ _ _⟩ => true
    | some ⟨_, .verifying _⟩ => true
    | _ => false)

/-- The levels on the NVM link. Between operations they are idle (R159). Within one they are those of some moment of the
instructions sent: the model has no clock of 1 MHz, so which moment is a free value. (log 30) -/
def State.linkLevels (s : State) : LinkLevels :=
  if s.linkBusy then
    let levels := s.loader.sent.flatMap instrLevels
    (levels[Config.linkMoment s.clock s.free % levels.length]?).getD .idle
  else .idle

/-- The level of the NVM_CS_N pin (active low). -/
def State.nvmCsN (s : State) : Bool := s.linkLevels.csN

/-- The level of the NVM_SCK pin. -/
def State.nvmSck (s : State) : Bool := s.linkLevels.sck

/-! ## MOULD CHANGE (R117, R118, R134) -/

/-- A MOULD CHANGE stands before its last step. -/
def State.mouldBusy (s : State) : Bool :=
  match s.cmd.exec with
  | some ⟨_, .mould _ _ _⟩ => true
  | _ => false

/-- A MOULD CHANGE whose evaluation is past. -/
def State.mouldPast (s : State) : Bool :=
  match s.cmd.exec with
  | some ⟨_, .mould _ _ .events⟩ => true
  | some ⟨_, .mould _ _ .record⟩ => true
  | some ⟨_, .mould _ _ .capture⟩ => true
  | _ => false

/-- The Zone Table acts for an accepted MOULD CHANGE: its record is handed over, then the new mould is put in force, so
the record's header carries the new type (R118, R139). (DEDUCED, log 27) -/
def State.mouldHandRecord (s : State) (p : Profile) (serial : Word) : State :=
  ((s.handOver s.mouldRecord).putMould p serial).setJob (.mould p serial .record)

/-- The channels and the open events act for an accepted MOULD CHANGE; with nothing to complete the MOULD record follows
(R72, R88, R118). -/
def State.mouldSettle (s : State) (p : Profile) (serial : Word) : State :=
  let s1 := s.abandonAll
  if s1.checkBusy then s1.setJob (.mould p serial .events) else s1.mouldHandRecord p serial

/-- An accepted MOULD CHANGE begins: the running cycle ends, and an evaluation due at once goes first (R112, R117). -/
def State.mouldBegin (s : State) (p : Profile) (serial : Word) : State :=
  let s1 := s.endCycle .mould s.endTime
  if s1.zone.due.isEmpty then s1.mouldSettle p serial else s1.setJob (.mould p serial .evaluation)

/-- The evaluation that a MOULD CHANGE waited for has ended. -/
def State.mouldAfterEval (s : State) : State :=
  match s.cmd.exec with
  | some ⟨_, .mould p serial .evaluation⟩ => s.mouldSettle p serial
  | _ => s

/-- An OPEN capture closes, and the MOULD CHANGE completes (R117, R134). -/
def State.mouldClose (s : State) : State := (s.closeOpenCapture).complete .done

/-- The MOULD record has been dealt with, and the Capture Unit acts: a frame that has completed before is frozen as a
post-frame, and the capture closes with it (R134). While that freeze waits for an access to its slot, the closing waits
with it (R122). (DESIGN CHOICE for the moment, log 57; DEDUCED for the wait, log 20) -/
def State.mouldFinish (s : State) : State :=
  match s.cmd.exec with
  | some ⟨_, .mould p serial .record⟩ =>
    if s.postWaits then s.setJob (.mould p serial .capture) else s.makePost.mouldClose
  | _ => s

/-- The freeze of a post-frame has been made or given up: a MOULD CHANGE that waited for it goes on (R134). (DEDUCED, log
20) -/
def State.mouldAfterFreeze (s : State) : State :=
  match s.cmd.exec with
  | some ⟨_, .mould _ _ .capture⟩ => s.mouldClose
  | _ => s

/-! ## RELOAD (R13, R34, R52, R57, R80, R136, R157) -/

/-- The frame side at the entry to RELOADING (R34). -/
def Assembler.reload (a : Assembler) : Assembler :=
  { a with assembly := none, lastAccepted := none, pendingLost := 0, tags := Vector.replicate 48 .empty, accounts := [] }

/-- The Event Builder at the entry to RELOADING (R80). -/
def EventBuilder.reload (b : EventBuilder) : EventBuilder :=
  { b with openEvents := [], assign := Vector.replicate 4 .none, pending := none, completion := none }

/-- The Gate Sequencer stopped: all gates closed, no staged program, no edge event taken any more (R52). -/
def Sequencer.stop (g : Sequencer) : Sequencer := { g with state := .stopped, gates := {}, staged := none, truncated := none, due := [] }

/-- An access in progress is no longer snooped (R13). (DEDUCED, log 21) -/
def BusAccess.unsnoop (b : BusAccess) : BusAccess := { b with snooped := false }

/-- The entry to RELOADING: the frame side and the captures are cleared, then the running cycle ends with cause RELOAD, and
every block gives up what its rule names; the image read begins (R13, R34, R52, R57, R80, R136, R162). -/
def State.enterReloading (s : State) : State :=
  let s1 := { s with
    path := { s.path with state := .reloading, bus := s.path.bus.map BusAccess.unsnoop }
    asm := s.asm.reload
    aq := {}
    cap := {} }
  let s2 := s1.endCycle .reload s1.endTime
  { s2 with
    gate := s2.gate.stop
    det := { s2.det with pending := none, chans := s2.det.chans.map Channel.reload }
    ev := s2.ev.reload
    cmd := { s2.cmd with exec := none }
    loader := { s2.loader with phase := .reading false, sent := readInstrs } }

/-- The internal queue has room for RELOAD's completion word and that of every slot on the command queue, and no completion
word waits before them. -/
def State.roomForAll (s : State) : Bool := s.cmd.waits.isEmpty && s.iq.length + (s.cmd.queue.length + 1) ≤ queueCapacity

/-- RELOAD, which has begun, acts: its own ACCEPTED word is placed, then one DISCARDED word for each slot on the queue,
oldest first, and the path enters RELOADING, all as one action (R157). -/
def State.reload (s : State) : State :=
  let own := (s.cmd.exec.map fun e => (e.slot, Code.accepted)).toList
  let others := s.cmd.queue.map fun i => (i, Code.discarded)
  (State.placeCompletions (own ++ others) { s with cmd := { s.cmd with queue := [] } }).enterReloading

/-- A RELOAD that is EXECUTING acts, or remains EXECUTING while it waits: for room for all its completion words, so that its
steps are one action (R15, R153, R157; DESIGN CHOICE, log 46), and for an evaluation or a completion check that is in
progress or owed by then (R87, R104). -/
def State.reloadOn (s : State) : State :=
  match s.cmd.exec with
  | some ⟨_, .reloading⟩ => if s.evalOwed || s.checkBusy || !s.roomForAll then s else s.reload
  | _ => s

end Sys2Proof.Machine
end

