-- ==== Sys2Proof/Machine/Resume.lean ====
section
/-! DEFINITION. The work that waits with a record, and the waiting requests of a source (R15, R29, R95, R109, R110, R139). -/

namespace Sys2Proof.Machine

/-- The completion in progress has ended. The next event of the check is then due, or the mould change or the frame that
made the check goes on (R87, R88, R117), also while a status block update waits for room (DESIGN CHOICE, log 62). -/
def State.afterCompletion (s : State) : State :=
  if s.checkBusy then s
  else
    match s.cmd.exec with
    | some ⟨_, .mould p serial .events⟩ => s.mouldHandRecord p serial
    | _ => s.resumeFrame

/-- Item 5 of R95, and the end of the completion, also while a status block update waits for room. (DESIGN CHOICE, log 62) -/
def State.endCompletion (s : State) : State :=
  let s1 := s.serveBatch .event
  State.afterCompletion { s1 with ev := { s1.ev with completion := none } }

/-- The work that waited with a record goes on. -/
def State.runCont (s : State) : Cont → State
  | .nothing => s
  | .eventDone => s.endCompletion
  | .evalZone z rose => s.afterZoneChange z rose
  | .evalDone => s.afterCycleRecord.mouldAfterEval
  | .zoneCommand => s.complete .done
  | .zoneReport z => s.reportFrom z
  | .mouldPut => s.mouldFinish

/-- The outcome of placing or suppressing a record: with its end, the work that waited with it goes on. -/
def State.resume (r : State × Option Cont) : State :=
  match r.2 with
  | none => r.1
  | some c => r.1.runCont c

/-- The waiting requests of a source placed as room allows, and the source's further work, a waiting RELOAD's among it (R15,
R157). (DESIGN CHOICE for how
many are placed at once, log 32) -/
def State.pump (s : State) : Source → State
  | .reportWriter => State.resume s.pumpRecord
  | .statusUpdate => s.pumpStatus
  | .commandUnit => s.pumpCompletions.reloadOn
  | .tableLoad => State.placeLoads s.cmd.loadWaits s

/-- The memory-side access of the oldest internal entry performed: the entry leaves, and what it stands for is done (R14,
R152, R155). -/
def State.performInternal (s : State) (r : Request) (rest : List Request) : State :=
  let s1 := { s with iq := rest, path := { s.path with port := none } }
  match r.act with
  | .write w => { s1 with mem := Memory.writeWord s1.mem r.addr 0xF w }
  | .completion i w =>
    let s2 := State.slotDone { s1 with mem := Memory.writeWord s1.mem r.addr 0xF w } i
    { s2 with cmd := { s2.cmd with exec := if (s2.cmd.exec.map (·.slot)) = some i then none else s2.cmd.exec } }
  | .tableRead => s1.receiveTableWord (Memory.readWord s1.mem r.addr)

/-- The internal entry that has the memory-side port, with the entries behind it. -/
def State.internalHead (s : State) : Option (Request × List Request) :=
  match s.path.port, s.iq with
  | some .internal, r :: rest => some (r, rest)
  | _, _ => none

end Sys2Proof.Machine
end

