-- ==== Sys2Proof/Machine/AnalysisCommands.lean ====
section
/-! DEFINITION. The meanings of the analysis rows: FRAME_TAKEN, SAMPLE_SET, HIT_END, LONG_HIT, HOLDOFF_END, LOCKOUT_END, WINDOW_PASSED, EVENT_COMPLETE, CAPTURE_TRIGGER, FREEZE, CYCLE_END_EVALUATION. -/

namespace Sys2Proof.Machine

/-- The Report Writer or the status block update waits for room on the internal queue, and analysis waits too (R15). -/
def State.outputWaits (s : State) : Bool := s.report.placing.isSome || s.status.update.isSome

/-- Analysis does not go on: a MOULD CHANGE stands within its work, or an output waits for room (R15, R72, R117). (DEDUCED,
log 26) -/
def State.analysisHeld (s : State) : Bool := s.mouldBusy || s.outputWaits

/-- The frame at the head of the queue, if one can be taken now, with the entries behind it (R29). -/
def State.headFrame (s : State) : Option (QFrame × List AQEntry) :=
  if s.aq.work.isSome || s.evalOwed || s.checkBusy || s.analysisHeld then none
  else
    match s.aq.entries with
    | .frame f :: rest => some (f, rest)
    | _ => none

/-- FRAME_TAKEN (R29, R30, R55, R56, R62, R70, R71, R81, R88). -/
def execFrameTaken (s : State) : Host.Outcome State Fault Refusal :=
  s.settled (match s.headFrame with
    | some (f, rest) => s.takeFrame f rest
    | none => s)

/-- The frame under analysis and the sample set it stands before, if that set can be processed now. -/
def State.nextSet (s : State) : Option (QFrame × Nat) :=
  if s.checkBusy || s.analysisHeld then none
  else
    match s.aq.work with
    | some ⟨f, .sets n⟩ => some (f, n)
    | _ => none

/-- SAMPLE_SET (R32, R58 to R68, R74 to R76, R82 to R87). -/
def execSampleSet (s : State) : Host.Outcome State Fault Refusal :=
  s.settled (match s.nextSet with
    | some (f, n) => State.runChannels f n (List.finRange 4) s
    | none => s)

/-- The transition `what` of channel `c`, if it is the one that falls due and analysis goes on. -/
def State.transition (s : State) (c : Fin 4) (what : Due) : Option (QFrame × Nat) :=
  if s.analysisHeld then none else s.dueNow c what

/-- HIT_END (R65, R85). -/
def execHitEnd (channel : Fin 4) (s : State) : Host.Outcome State Fault Refusal :=
  s.settled (match s.transition channel .hitEnd with
    | some (f, n) => (s.endHit channel).runAfter f n channel
    | none => s)

/-- LONG_HIT (R66, R85). -/
def execLongHit (channel : Fin 4) (s : State) : Host.Outcome State Fault Refusal :=
  s.settled (match s.transition channel .longHit with
    | some (f, n) => (s.endLong channel).runAfter f n channel
    | none => s)

/-- HOLDOFF_END (R67). -/
def execHoldoffEnd (channel : Fin 4) (s : State) : Host.Outcome State Fault Refusal :=
  s.settled (match s.transition channel .holdoffEnd with
    | some (f, n) => (s.setChanState channel (afterHit s.det.settings)).runAfter f n channel
    | none => s)

/-- LOCKOUT_END (R68). -/
def execLockoutEnd (channel : Fin 4) (s : State) : Host.Outcome State Fault Refusal :=
  s.settled (match s.transition channel .lockoutEnd with
    | some (f, n) => (s.setChanState channel .idle).runAfter f n channel
    | none => s)

/-- The frame and sample set whose position has passed the collecting event's window, if analysis goes on. -/
def State.windowNow (s : State) : Option (QFrame × Nat) :=
  if s.analysisHeld then none
  else
    match s.aq.work with
    | some ⟨f, .window n⟩ => some (f, n)
    | _ => none

/-- WINDOW_PASSED (R86). -/
def execWindowPassed (s : State) : Host.Outcome State Fault Refusal :=
  s.settled (match s.windowNow with
    | some (f, n) => State.afterSet { s with ev := s.ev.stopCollecting } f n
    | none => s)

/-- The event that completes next and the profile in force, if its completion can begin now (R15, R87, R104). (DESIGN
CHOICE, log 26) -/
def State.completionDue (s : State) : Option (OpenEvent × Profile) :=
  if s.ev.completion.isSome || s.evalBusy || s.outputWaits then none
  else
    match s.ev.nextDue, s.ev.profile with
    | some e, some p => some (e, p)
    | _, _ => none

/-- EVENT_COMPLETE: items 1 to 4 of R95, as far as they go without an answer (R88 to R97, R101 to R103). -/
def execEventComplete (s : State) : Host.Outcome State Fault Refusal :=
  s.settled (match s.completionDue with
    | some (e, p) => s.completeWith p e
    | none => s)

/-- The trigger of the completion in progress, if the Capture Unit can take it now: no run is in progress, and no CAPTURE
record waits (R125, R133). That it is taken while a status block update, or the Report Writer with another record, waits for
room is a DESIGN CHOICE (R15, log 62). -/
def State.triggerDue (s : State) : Option Trigger :=
  if s.cap.run.isSome || s.recordOutstanding .capture then none
  else
    match s.ev.completion with
    | some c => (match c.stage with
      | .trigger t => some t
      | .record => none)
    | none => none

/-- A trigger's work done, or its run going on: the answer, if there is one, goes to the completion (R96, R125). -/
def State.giveAnswer (r : State × TriggerAnswer) : State :=
  match r.2 with
  | .answered id => r.1.answerTrigger id
  | .waits => r.1

/-- What has been done for run `r`: with its last frame the trigger is answered (R125, R129). -/
def State.endRun (r : CaptureRun) (x : State × Bool) : State := if x.2 then x.1.answerTrigger (some r.cap) else x.1

/-- CAPTURE_TRIGGER (R125 to R129, R131 to R133): the trigger is taken, with the oldest of its wanted frames, or the next
wanted frame of the run in progress is. That one command takes one frame is a DESIGN CHOICE of form (log 58), and that
an output that waits for room does not hold it up is another (log 62). -/
def execCaptureTrigger (s : State) : Host.Outcome State Fault Refusal :=
  s.settled (match s.cap.run, s.triggerDue with
    | some r, _ => if r.waits.isSome then s else State.endRun r (s.continueRun r)
    | none, some t => State.giveAnswer (s.takeTrigger t)
    | none, none => s)

/-- The waiting freeze of a run taken up again, once no access to its slot is in progress (R122, R127). -/
def State.freezeRun (s : State) (r : CaptureRun) : State :=
  match r.waits with
  | none => s
  | some (l, p) => if s.accessTo p then s else State.endRun r (s.resumeRun r l p)

/-- FREEZE: a freeze that had to wait is made, or given up, once no access to its slot is in progress; a MOULD CHANGE that
waited for it then closes the capture (R122, R127, R130, R134). An output that waits for room does not hold it up (DESIGN
CHOICE, log 62). -/
def execFreeze (s : State) : Host.Outcome State Fault Refusal :=
  s.settled (match s.cap.post, s.cap.run with
    | some p, _ => if s.accessTo p.phys then s else (s.resumePost p).mouldAfterFreeze
    | none, some r => s.freezeRun r
    | none, none => s)

/-- The marker at the head of the queue, if its evaluation can begin now, with the entries behind it (R29). -/
def State.headMarker (s : State) : Option (CycleSummary × List AQEntry) :=
  if s.aq.work.isSome || s.checkBusy || s.mouldBusy then none
  else
    match s.aq.entries with
    | .marker m :: rest => some (m, rest)
    | _ => none

/-- An evaluation begins: one that is due at once first, else that of the marker at the head of the queue (R29, R31, R33,
R104). Where both wait, the rules give no order: that the one due at once goes first is a DESIGN CHOICE (log 52).
That it can begin while the Zone Table still holds the record of a zone command is a DESIGN CHOICE (log 53), and so is that
it can begin while the Report Writer or the status block update waits for room, when frame analysis and EVENT_COMPLETE do
not go on (log 60). Its account closes when it ends (R110, log 25). -/
def State.startEvaluation (s : State) : State :=
  if s.evalBusy || s.mouldPast then s
  else
    match s.zone.due, s.headMarker with
    | m :: rest, _ => State.beginEval { s with zone := { s.zone with due := rest } } m
    | [], some (m, rest) => State.beginEval { s with aq := { s.aq with entries := rest } } m
    | [], none => s

/-- CYCLE_END_EVALUATION (R104 to R112). -/
def execCycleEndEvaluation (s : State) : Host.Outcome State Fault Refusal := s.settled s.startEvaluation

end Sys2Proof.Machine
end

