-- ==== Sys2Proof/Machine/OutputCommands.lean ====
section
/-! DEFINITION. The meanings of the output rows: RECORD_TAKEN, STATUS_BLOCK_UPDATE, BATCH_COUNTER, STOP_PULSE_EXPIRY. -/

namespace Sys2Proof.Machine

/-- The oldest handed record and those behind it, if one can be taken now (R139). -/
def State.recordDue (s : State) : Option (Record × List Record) :=
  match s.path.state, s.report.placing, s.report.handed with
  | .starting, _, _ => none
  | _, none, r :: rest => some (r, rest)
  | _, _, _ => none

/-- RECORD_TAKEN (R138 to R140). -/
def execRecordTaken (s : State) : Host.Outcome State Fault Refusal :=
  s.settled (match s.recordDue with
    | some (r, rest) => State.resume (s.takeRecord r rest)
    | none => s)

/-- A status block update can begin: a word is marked, none is in progress, and a window table is in force (R11, R142). -/
def State.updateDue (s : State) : Bool :=
  !s.status.marks.isEmpty && s.status.update.isNone && s.path.state != .starting

/-- STATUS_BLOCK_UPDATE (R141, R142). -/
def execStatusBlockUpdate (s : State) : Host.Outcome State Fault Refusal :=
  s.settled (if s.updateDue then s.beginUpdate else s)

/-- BATCH_COUNTER: a batch counter that has reached 0 raises its factor and is loaded (R144). -/
def execBatchCounter (kind : BatchKind) (s : State) : Host.Outcome State Fault Refusal := s.settled (s.fireBatch kind)

/-- STOP_PULSE_EXPIRY: the ticks of the running pulse timer have passed, and the stop latch clears (R148).
Turned away while an edge event of an earlier instant is due (log 7). -/
def execStopPulseExpiry (s : State) : Host.Outcome State Fault Refusal :=
  s.settled (match s.notice.pulse with
    | some start =>
      let t := start + tickSpan s.notice.k
      if s.canReach t then { s.reach t with notice := s.notice.releaseStop } else s
    | none => s)

end Sys2Proof.Machine
end

