-- ==== Sys2Proof/Machine/Frames.lean ====
section
/-! DEFINITION. The Frame Assembler: what a snooped sample-window write does, the sequence check, and queueing (R18 to R28, R33, R124, R130; header layout of section 11.2). -/

namespace Sys2Proof.Machine

/-! ## The frame tag and the header -/

/-- The tag a header takes from the Gate Sequencer now (R28). At the instant of a truncation it can be taken, with `between`
set, after the end of the old cycle and before the start of the new one: the old number, all gates closed (R50). (DESIGN
CHOICE for the operand, log 41) -/
def State.frameTag (s : State) (between : Bool) : FrameTag :=
  match s.gate.truncated with
  | some (n, t) => if between && t == s.clock then ⟨n, {}⟩ else ⟨s.gate.cycle, s.gate.gates⟩
  | none => ⟨s.gate.cycle, s.gate.gates⟩

/-- A new assembly in logical slot `l`, physical slot `p`, from header word `w` (R20). -/
def newAssembly (l : Fin 32) (p : Fin 48) (w : Word) (tag : FrameTag) : Assembly :=
  { slot := l, phys := p, seq := w.setWidth 16, valid := BitVec.ofNat 4 (bits w 16 4), overload := bit w 20,
    buf := Vector.replicate 126 0, written := Vector.replicate 126 false, torn := false, tag := tag }

/-- The pending lost count incremented, saturating. -/
def Assembler.addPending (a : Assembler) : Assembler := { a with pendingLost := satInc a.pendingLost 65535 }

/-- The assembly replaced. -/
def Assembler.put (a : Assembler) (x : Option Assembly) : Assembler := { a with assembly := x }

/-- A TORN frame: charged to its own tag, counted as pending, its slot DISTURBED, the Assembler IDLE (R20, R24, R33). -/
def Assembler.tearFrame (a : Assembler) (x : Assembly) : Assembler :=
  (((a.chargeLost x.tag 1).addPending).setTag x.phys .disturbed).put none

/-- A header write (R20). -/
def State.headerWrite (s : State) (l : Fin 32) (p : Fin 48) (w : Word) (between : Bool) : State :=
  let a := match s.asm.assembly with
    | none => s.asm
    | some x => s.asm.tearFrame x
  { s with asm := (a.setTag p .assembling).put (some (newAssembly l p w (s.frameTag between))) }

/-! ## Sequence check and queueing (R25, R26) -/

/-- The class of a complete frame's sequence; `none` is STALE (R25). -/
def missingCount (last : Option Half) (seq : Half) : Option Nat :=
  match last with
  | none => some 0
  | some l =>
    let d := (seq - l).toNat
    if 1 ≤ d && d ≤ 32768 then some (d - 1) else none

/-- The most frames that can be queued (R26). -/
def queuedFramesMax : Nat := 3

/-- The frames queued; markers do not count (R26). -/
def AnalysisQueue.frames (q : AnalysisQueue) : Nat :=
  (q.entries.filter fun e => match e with
    | .frame _ => true
    | .marker _ => false).length

/-- The queued copy of a complete frame (R26). -/
def Assembly.queued (x : Assembly) (m : Nat) : QFrame :=
  { seq := x.seq, valid := x.valid, overload := x.overload, tag := x.tag, missing := m, data := x.buf }

/-- A complete frame checked against the last accepted sequence, and queued, OVERRUN or STALE (R25, R26, R33). (DEDUCED
for the pending lost count, log 15) -/
def State.sequenceCheck (s : State) (x : Assembly) : State :=
  match missingCount s.asm.lastAccepted x.seq with
  | none => { s with asm := s.asm.chargeLost x.tag 1 }
  | some m =>
    if s.aq.frames < queuedFramesMax then
      let a := if 0 < m then s.asm.chargeLost x.tag (m - s.asm.pendingLost) else s.asm
      let s1 := { s with
        asm := { a with lastAccepted := some x.seq, pendingLost := 0 }
        aq := { s.aq with entries := s.aq.entries ++ [.frame (x.queued m)] } }
      if 0 < m then s1.raise fFrameFault else s1
    else { s with asm := (s.asm.chargeLost x.tag 1).addPending }

/-! ## The trailer (R24, R130) -/

/-- The conditions on which the trailer `w` completes an assembly (R24). -/
def Assembly.completes (x : Assembly) (w : Word) : Bool :=
  w.setWidth 16 == x.seq && (w >>> 16).setWidth 16 == ~~~x.seq && x.written.all id && !x.torn

/-- The freeze that a completed frame asks for while a capture is OPEN: made at once, or left to be made later (R122,
R130). (DESIGN CHOICE, log 19) -/
def State.postFrame (s : State) (x : Assembly) (later : Bool) : State :=
  if later && (s.cap.find .opened).isSome then { s with cap := { s.cap with post := some ⟨x.slot, x.phys, x.seq⟩ } }
  else s.freezePost x.slot x.seq

/-- The trailer of assembly `x` (R24). -/
def State.trailer (s : State) (x : Assembly) (w : Word) (later : Bool) : State :=
  if x.completes w then
    let s1 := { s with
      asm := (s.asm.setTag x.phys (.complete x.seq)).put none
      cap := { s.cap with latest := some x.seq } }
    (s1.postFrame x later).sequenceCheck x
  else { s with asm := s.asm.tearFrame x }

/-! ## Every snooped sample-window write (R20 to R24) -/

/-- A stray write that reached physical slot `p`: the slot becomes DISTURBED, and the running cycle's account counts it
(R23). -/
def State.stray (s : State) (p : Fin 48) : State :=
  let a := s.asm.setTag p .disturbed
  match s.gate.state with
  | .inCycle r => { s with asm := a.countStray r.summary.cycle }
  | _ => { s with asm := a }

/-- A data write to word `i` (1 to 126) of the slot being assembled (R21). -/
def Assembly.dataWrite (x : Assembly) (i : Nat) (w : Word) : Assembly :=
  { x with buf := vmod x.buf (i - 1) fun _ => w, written := vmod x.written (i - 1) fun _ => true }

/-- The torn mark of the assembly in progress set (R22). -/
def Assembler.markTorn (a : Assembler) : Assembler :=
  { a with assembly := a.assembly.map fun x => { x with torn := true } }

/-- A full-word write to word `i` (1 to 127) of the slot of assembly `x` (R21, R24). -/
def State.fullWrite (s : State) (x : Assembly) (i : Nat) (w : Word) (later : Bool) : State :=
  if i = 127 then s.trailer x w later else { s with asm := s.asm.put (some (x.dataWrite i w)) }

/-- A snooped write to word `i` of logical slot `l`, which reached physical slot `p` (R8, R20 to R24). -/
def State.assembleWrite (s : State) (l : Fin 32) (p : Fin 48) (i : Fin 128) (lanes : Lanes) (w : Word)
    (later between : Bool) : State :=
  if fullWord lanes then
    if i = 0 then s.headerWrite l p w between
    else
      match s.asm.assembly with
      | some x => if x.slot = l then s.fullWrite x i w later else s.stray p
      | none => s.stray p
  else
    let s1 := { s with asm := s.asm.markTorn }
    match s.asm.assembly with
    | some x => if x.slot = l then s1 else s1.stray p
    | none => s1.stray p

end Sys2Proof.Machine
end

