-- ==== Sys2Proof/Machine/Path.lean ====
section
/-! DEFINITION. The Path Unit: sorting an access into a window, its treatment, and its completion at the memory side (R1 to R10). -/

namespace Sys2Proof.Machine

/-! ## Sorting and treatment (R4 to R7) -/

/-- How an access is treated. -/
inductive Treatment where
  /-- A read returns FFFFFFFFH without any memory-side access. -/
  | answered
  /-- A write is acknowledged without any memory-side access. -/
  | swallowed
  /-- The access goes to the memory side at `memAddr`; `snooped` says that a write is copied inward when it completes. -/
  | toMemory (memAddr : Nat) (place : Place) (snooped : Bool)
  deriving DecidableEq, Repr

/-- Address `a` lies in the `size` bytes from `base`. -/
def inExtent (a base size : Nat) : Bool := base ≤ a && a < base + size

/-- The SRAM address of byte `o` of physical slot `p` (R5). -/
def slotAddr (t : WindowTable) (p : Fin 48) (o : Nat) : Nat := t.bs + 512 * p.val + o

/-- A sample-window access at distance `d` from Bs, translated through the Slot Map (R5, R8). -/
def sampleAccess (t : WindowTable) (u : CaptureUnit) (d : Nat) : Treatment :=
  let l : Fin 32 := Fin.ofNat 32 (d / 512)
  let p := u.map[l]
  .toMemory (slotAddr t p (d % 512)) (.sample l p (Fin.ofNat 128 (d % 512 / 4))) true

/-- An evidence-window read at distance `d` from Be, translated through the capture table or answered (R6). -/
def evidenceRead (t : WindowTable) (u : CaptureUnit) (d : Nat) : Treatment :=
  let e := vget u.table (d / 6144) {}
  match e.state, e.frames[d % 6144 / 512]? with
  | .free, _ => .answered
  | _, none => .answered
  | _, some (_, p) => .toMemory (slotAddr t p (d % 512)) .other false

/-- A command-window access at distance `d` from Bc (R9). -/
def commandPlace (d : Nat) : Place := .command (Fin.ofNat 8 (d / 64)) (Fin.ofNat 16 (d % 64 / 4))

/-- The treatment of an access at address `a` under a window table; `write` gives its direction (the table of R4). -/
def treatment (t : WindowTable) (u : CaptureUnit) (a : Nat) (write : Bool) : Treatment :=
  if inExtent a t.bs 16384 then sampleAccess t u (a - t.bs)
  else if inExtent a (t.bs + 16384) 8192 then (if write then .swallowed else .answered)
  else if inExtent a t.be 24576 then (if write then .swallowed else evidenceRead t u (a - t.be))
  else if inExtent a t.bc 512 then .toMemory a (commandPlace (a - t.bc)) true
  else if inExtent a t.bt 248 then (if write then .swallowed else .toMemory a .other false)
  else if inExtent a (t.bt + 248) 4 then .toMemory a .noticeWord true
  else if inExtent a (t.bt + 252) 4 then .toMemory a .consumerWord true
  else if inExtent a t.br (t.r * 128) then (if write then .swallowed else .toMemory a .other false)
  else .toMemory a .other false

/-- An operation is a write. -/
def isWrite : BusOp → Bool
  | .read => false
  | .write _ _ => true

/-- The treatment of an access received now. In STARTING every access is forwarded (R11). -/
def State.sort (s : State) (a : Nat) (op : BusOp) : Treatment :=
  match s.path.state with
  | .starting => .toMemory a .other false
  | _ => treatment s.windows s.cap a (isWrite op)

/-! ## Receipt and completion (R1, R2) -/

/-- An access received at the bus-side port while no other is in progress (R1, R4). Writes are snooped in RUNNING only, and
reads never (R4, R13). -/
def State.receive (s : State) (a : Addr) (op : BusOp) : State :=
  match s.sort a.toNat op with
  | .answered => { s with path := { s.path with reply := .data allOnes } }
  | .swallowed => { s with path := { s.path with reply := .ack } }
  | .toMemory m place sn =>
    { s with path := { s.path with
        bus := some { op := op, memAddr := m, place := place, snooped := sn && isWrite op && s.path.state == .running } } }

/-- The bus-side access that has the memory-side port, if there is one. -/
def State.granted (s : State) : Option BusAccess :=
  match s.path.port with
  | some .busSide => s.path.bus
  | _ => none

/-- The memory-side work of bus-side access `b`: the SRAM is read or written, the access completes, and the port is free
(R1, R2). -/
def State.performBus (s : State) (b : BusAccess) : State :=
  match b.op with
  | .read =>
    { s with path := { s.path with bus := none, port := none, reply := .data (Memory.readWord s.mem b.memAddr) } }
  | .write lanes w =>
    { s with
      mem := Memory.writeWord s.mem b.memAddr lanes w
      path := { s.path with bus := none, port := none, reply := .ack } }

/-- A granted snooped write, as its place, lanes and data. -/
def State.grantedSnoop (s : State) : Option (BusAccess × Lanes × Word) :=
  match s.granted with
  | some b => (match b.op, b.snooped with
    | .write lanes w, true => some (b, lanes, w)
    | _, _ => none)
  | none => none

/-! ## The copies of words 62 and 63 (R10) -/

/-- The merged value of a snooped write of word 62, taken into its copy and acted on by the Notice Unit (R9, R10, R146). -/
def State.snoopNotice (s : State) (lanes : Lanes) (w : Word) : State :=
  let v := mergeLanes s.path.copy62 w lanes
  { s with path := { s.path with copy62 := v }, notice := s.notice.control v s.clock }

/-- The merged value of a snooped write of word 63, taken into its copy and acted on by the Report Writer (R9, R10, R138). -/
def State.snoopConsumer (s : State) (lanes : Lanes) (w : Word) : State :=
  let v := mergeLanes s.path.copy63 w lanes
  State.takeConsumer { s with path := { s.path with copy63 := v } } v

end Sys2Proof.Machine
end

