-- ==== Sys2Proof/Machine/PathCommands.lean ====
section
/-! DEFINITION. The meanings of the memory path rows: BUS_ACCESS, BUS_ACCESS_COMPLETE, SAMPLE_WRITE, COMMAND_WINDOW_WRITE, NOTICE_CONTROL_WORD, CONSUMER_INDEX, INTERNAL_ACCESS_COMPLETE, WAITING_REQUEST_PLACED. -/

namespace Sys2Proof.Machine

/-- BUS_ACCESS (R1, R4 to R7, R11, R13). Turned away while an access is in progress: the bus master is held (R1). -/
def execBusAccess (addr : Addr) (op : BusOp) (s : State) : Host.Outcome State Fault Refusal :=
  s.settled (match s.path.bus with
    | none => s.receive addr op
    | some _ => s)

/-- BUS_ACCESS_COMPLETE: the granted access that is not a snooped write completes (R1, R2). -/
def execBusAccessComplete (s : State) : Host.Outcome State Fault Refusal :=
  s.settled (match s.granted with
    | some b => if b.snooped then s else s.performBus b
    | none => s)

/-- The freeze of a post-frame is still to be made, and is not held up by an access to slot `p` (R122, R130). (DESIGN
CHOICE, log 19) -/
def State.freezeFirst (s : State) (p : Fin 48) : Bool :=
  match s.cap.post with
  | some f => f.phys != p
  | none => false

/-- SAMPLE_WRITE: the granted snooped sample-window write completes and is handed to the Frame Assembler (R8, R20 to R26,
R33, R50, R124, R130). -/
def execSampleWrite (moment : WriteMoment) (s : State) : Host.Outcome State Fault Refusal :=
  s.settled (match s.grantedSnoop with
    | some (b, lanes, w) => (match b.place with
      | .sample l p i =>
        if s.freezeFirst p then s
        else (s.performBus b).assembleWrite l p i lanes w moment.freezeLater moment.betweenCycles
      | _ => s)
    | none => s)

/-- COMMAND_WINDOW_WRITE: the granted snooped command-window write completes and acts on its slot (R9, R10, R149 to R152). -/
def execCommandWindowWrite (s : State) : Host.Outcome State Fault Refusal :=
  s.settled (match s.grantedSnoop with
    | some (b, lanes, w) => (match b.place with
      | .command i k => (s.performBus b).slotWrite i k lanes w
      | _ => s)
    | none => s)

/-- NOTICE_CONTROL_WORD: the granted snooped write of status word 62 completes (R9, R10, R146). -/
def execNoticeControlWord (s : State) : Host.Outcome State Fault Refusal :=
  s.settled (match s.grantedSnoop with
    | some (b, lanes, w) => (match b.place with
      | .noticeWord => (s.performBus b).snoopNotice lanes w
      | _ => s)
    | none => s)

/-- CONSUMER_INDEX: the granted snooped write of status word 63 completes (R9, R10, R138). -/
def execConsumerIndex (s : State) : Host.Outcome State Fault Refusal :=
  s.settled (match s.grantedSnoop with
    | some (b, lanes, w) => (match b.place with
      | .consumerWord => (s.performBus b).snoopConsumer lanes w
      | _ => s)
    | none => s)

/-- INTERNAL_ACCESS_COMPLETE: the granted oldest entry is performed and leaves; a source named in `first` has its waiting
requests placed before the Arbiter decides (R14 to R17, R152, R155). -/
def execInternalAccessComplete (first : Option Source) (s : State) : Host.Outcome State Fault Refusal :=
  s.settled (match s.internalHead with
    | some (r, rest) => (match first with
      | some src => (s.performInternal r rest).pump src
      | none => s.performInternal r rest)
    | none => s)

/-- WAITING_REQUEST_PLACED: the waiting requests of a source are placed as room allows (R15). -/
def execWaitingRequestPlaced (source : Source) (s : State) : Host.Outcome State Fault Refusal :=
  s.settled (s.pump source)

end Sys2Proof.Machine
end

