-- ==== Sys2Proof/Machine/PressCommands.lean ====
section
/-! DEFINITION. The meanings of the press rows: LINE_SAMPLE, TACHO_SAMPLE, TACHO_STALL, DELAY_END, EDGE_TIMEOUT. -/

namespace Sys2Proof.Machine

/-- 10 µs pass, before which the edge events still due are taken by number; outside STARTING the five conditioners then
sample (R35). -/
def State.nextSample (s : State) (pins : Vector Bool 5) : State :=
  let s1 := s.takeEdges (List.finRange 5)
  let s2 := { s1 with clock := s1.clock + 1 }
  match s2.path.state with
  | .starting => s2
  | _ => s2.samplePress pins

/-- LINE_SAMPLE: the lines are sampled, and the edge events that the order names are taken in that order; with `more`, more
edge events of the instant last sampled are taken (R35, R36, R44, R46, R50). An edge event not yet taken stays due, so
that another happening of the instant can come before it (R41, R44, R48). (DESIGN CHOICE for the form, log 7) -/
def execLineSample (pins : Vector Bool 5) (order : EdgeOrder) (s : State) : Host.Outcome State Fault Refusal :=
  s.settled (State.takeEdges (if order.more then s else s.nextSample pins) order.lines)

/-- TACHO_SAMPLE (R35, R38, R39). Turned away in STARTING, and while a stall is due that its sample gave. -/
def execTachoSample (pin : Bool) (s : State) : Host.Outcome State Fault Refusal :=
  s.settled (match s.path.state, s.tacho.stallHeld with
    | .starting, _ => s
    | _, some _ => s
    | _, none => s.sampleTacho pin)

/-- TACHO_STALL: the stall that the last sample gave is taken, then that sample's filter (R40, R41). -/
def execTachoStall (s : State) : Host.Outcome State Fault Refusal :=
  s.settled (match s.tacho.stallHeld with
    | some reading => s.stall reading
    | none => s)

/-- The running cycle and its step, if the step waits in this way. -/
def State.waiting (s : State) (kind : WaitKind) : Option (CycleRun × GateStep) :=
  s.gate.current.filter fun x => x.2.wait == kind

/-- DELAY_END: the ticks of the DELAY step have passed, and the step completes (R45, R48). Turned away while an edge event of
an earlier instant is due (log 7). -/
def execDelayEnd (s : State) : Host.Outcome State Fault Refusal :=
  s.settled (match s.waiting .delay with
    | some (r, st) =>
      let t := r.stepStart + tickSpan st.k
      if s.canReach t then (s.reach t).stepDone r st t else s
    | none => s)

/-- EDGE_TIMEOUT: the ticks of the EDGE step have passed without its edge, and the cycle ends with cause TIMEOUT (R46, R49).
Turned away while an edge event of an earlier instant is due (log 7). -/
def execEdgeTimeout (s : State) : Host.Outcome State Fault Refusal :=
  s.settled (match s.waiting .edge with
    | some (r, st) =>
      let t := r.stepStart + tickSpan st.k
      if s.canReach t then (s.reach t).endCycle .timeout t else s
    | none => s)

end Sys2Proof.Machine
end

