-- ==== Sys2Proof/Machine/SlotCommands.lean ====
section
/-! DEFINITION. The meanings of the command rows, NOP to RELOAD, and of the NVM rows of SAVE CONFIGURATION. A command row is taken when its command stands at the head of the command queue and no slot is EXECUTING (R152). -/

namespace Sys2Proof.Machine

/-- NOP (R154). -/
def execNop (s : State) : Host.Outcome State Fault Refusal := s.settled (s.command 0x01 fun _ x => x.complete .done)

/-- SET DETECTOR (R55). -/
def execSetDetector (s : State) : Host.Outcome State Fault Refusal :=
  s.settled (s.command 0x02 fun sh x =>
    x.applyArgs (.ok (detectorArgs sh)) fun y d => { y with det := { y.det with pending := some d } })

/-- The event settings that a SET EVENT or SET WEIGHTS edits: the pending set if one exists, else those in force (R81). -/
def State.eventBase (s : State) : EventSettings := s.ev.pending.getD s.ev.settings

/-- SET EVENT (R81). -/
def execSetEvent (s : State) : Host.Outcome State Fault Refusal :=
  s.settled (s.command 0x03 fun sh x =>
    x.applyArgs (eventArgs x.eventBase sh) fun y e => { y with ev := { y.ev with pending := some e } })

/-- SET WEIGHTS (R81). -/
def execSetWeights (s : State) : Host.Outcome State Fault Refusal :=
  s.settled (s.command 0x04 fun sh x =>
    x.applyArgs (.ok (weightArgs x.eventBase sh)) fun y e => { y with ev := { y.ev with pending := some e } })

/-- SET ZONE POLICY (R99). -/
def execSetZonePolicy (s : State) : Host.Outcome State Fault Refusal :=
  s.settled (s.command 0x05 fun sh x =>
    x.applyArgs (policyArgs sh) fun y p => { y with zone := { y.zone with policy := p } })

/-- LOAD GATE PROGRAM (R43, R150, R152). -/
def execLoadGateProgram (s : State) : Host.Outcome State Fault Refusal :=
  s.settled (s.command 0x06 fun sh x =>
    x.applyArgs ((programArgs sh).map fun p => (p, false)) fun y p => { y with gate := { y.gate with staged := some p } })

/-- The settings of a line, or of the tacho, replaced (R37, R38). -/
def State.changeLine (s : State) : LineChange → State
  | .line i settings => { s with lines := s.lines.set i ((s.lines[i]).configure settings) }
  | .tacho settings => { s with tacho := s.tacho.configure settings }

/-- SET LINE (R37, R38). It waits while a stall is due from the last TACHO sample, which the settings of that sample still
filter (R38, R40). (DESIGN CHOICE, log 48) -/
def execSetLine (s : State) : Host.Outcome State Fault Refusal :=
  s.settled (if s.tacho.stallHeld.isSome then s else s.command 0x07 fun sh x => x.applyArgs (lineArgs sh) State.changeLine)

/-- SET TACHO BAND (R42). -/
def execSetTachoBand (s : State) : Host.Outcome State Fault Refusal :=
  s.settled (s.command 0x08 fun sh x =>
    x.applyArgs (bandArgs sh) fun y b => { y with tacho := { y.tacho with pmin := b.1, pmax := b.2 } })

/-- SET LOCATION ENTRY (R154). -/
def execSetLocationEntry (s : State) : Host.Outcome State Fault Refusal :=
  s.settled (s.command 0x09 fun sh x =>
    x.applyArgs ((entryArgs sh).map fun e => (e, false)) fun y e => y.modTable fun t => vmod t e.1 fun _ => e.2)

/-- The 196 bytes from an address can be the source of a location table (R155). -/
def tableSourceOk (a : Nat) : Bool := a % 4 == 0 && a + tableSize ≤ addressSpace

/-- LOAD LOCATION TABLE (R155). -/
def execLoadLocationTable (s : State) : Host.Outcome State Fault Refusal :=
  s.settled (s.command 0x0A fun sh x =>
    if tableSourceOk (argument sh 1) then State.placeLoads (tableAddresses (argument sh 1)) (x.setJob (.loading []))
    else x.complete .refusedValue)

/-- The stored profile that MOULD CHANGE names, if its type is in range and has one (R117). -/
def State.namedProfile (s : State) (type : Nat) : Option Profile :=
  if outside 1 255 type then none else s.loader.stored.find? fun p => p.type == type

/-- A MOULD CHANGE must wait: an evaluation or a completion check is in progress or owed, or the frame under analysis stands
within a sample set (R72, R87, R104). -/
def State.mouldMustWait (s : State) : Bool :=
  s.evalOwed || s.checkBusy
    || (match s.aq.work with
      | some ⟨_, .due _ _ _⟩ => true
      | some ⟨_, .window _⟩ => true
      | _ => false)

/-- MOULD CHANGE (R51, R72, R88, R112, R117, R118, R134). While it must wait it stays PENDING at the head of the queue
(DESIGN CHOICE, log 45). An output that waits for room does not hold it up (DESIGN CHOICE, log 62). -/
def execMouldChange (s : State) : Host.Outcome State Fault Refusal :=
  s.settled (if s.mouldMustWait then s
    else
      s.command 0x0B fun sh x =>
        match x.namedProfile (argument sh 1) with
        | some p => x.mouldBegin p (vget sh 2 0)
        | none => x.complete .refusedNoProfile)

/-- MASK ZONE (R113). It waits, PENDING at the head of the queue, while an evaluation is in progress (R104). (DESIGN CHOICE,
log 45) -/
def execMaskZone (s : State) : Host.Outcome State Fault Refusal :=
  s.settled (if s.evalBusy then s
    else
      s.command 0x0C fun sh x =>
        match x.zone.record? (argument sh 1) with
        | none => x.complete .refusedValue
        | some r => x.changeZone (argument sh 1) r r.mask)

/-- UNMASK ZONE (R114). It waits, PENDING at the head of the queue, while an evaluation is in progress (R104). (DESIGN CHOICE,
log 45) -/
def execUnmaskZone (s : State) : Host.Outcome State Fault Refusal :=
  s.settled (if s.evalBusy then s
    else
      s.command 0x0D fun sh x =>
        match x.zone.record? (argument sh 1) with
        | none => x.complete .refusedValue
        | some r => if r.state = .masked then x.changeZone (argument sh 1) r r.unmask else x.complete .refusedValue)

/-- RESET ZONE (R115). It waits, PENDING at the head of the queue, while an evaluation is in progress (R104). (DESIGN CHOICE,
log 45) -/
def execResetZone (s : State) : Host.Outcome State Fault Refusal :=
  s.settled (if s.evalBusy then s
    else
      s.command 0x0E fun sh x =>
        match x.zone.record? (argument sh 1) with
        | none => x.complete .refusedValue
        | some r => if r.state = .masked then x.complete .refusedValue else x.changeZone (argument sh 1) r r.reset)

/-- RELEASE CAPTURE of id `c` (R135). -/
def State.releaseById (s : State) (c : Nat) : State :=
  if h : c < 4 then
    match (s.cap.table[c]).state with
    | .held => (s.releaseCapture ⟨c, h⟩).complete .done
    | .opened => s.complete .refusedBusy
    | .free => s.complete .refusedValue
  else s.complete .refusedValue

/-- RELEASE CAPTURE (R135). -/
def execReleaseCapture (s : State) : Host.Outcome State Fault Refusal :=
  s.settled (s.command 0x0F fun sh x => x.releaseById (argument sh 1))

/-- STOP RELEASE (R148). -/
def execStopRelease (s : State) : Host.Outcome State Fault Refusal :=
  s.settled (s.command 0x10 fun _ x => State.complete { x with notice := x.notice.releaseStop } .done)

/-- The enable of factor `f` set in a factor set. -/
def setEnable (set : Half) (f : Nat) (on : Bool) : Half := if on then set ||| factorBit f else set &&& ~~~factorBit f

/-- A SET NOTICE applied: enable and level at once, and the batch count of factors 0 and 4 (R143, R144). -/
def State.changeNotice (s : State) (c : NoticeChange) : State :=
  let s1 := { s with notice := { s.notice with
    enables := setEnable s.notice.enables c.factor c.enable
    levels := vmod s.notice.levels c.factor fun _ => c.level } }
  if c.factor = fEventBatch then s1.loadBatch .event c.batch
  else if c.factor = fCycleBatch then s1.loadBatch .cycle c.batch
  else s1

/-- SET NOTICE (R143, R144). -/
def execSetNotice (s : State) : Host.Outcome State Fault Refusal :=
  s.settled (s.command 0x11 fun sh x => x.applyArgs (noticeArgs sh) State.changeNotice)

/-- SET STOP (R148). -/
def execSetStop (s : State) : Host.Outcome State Fault Refusal :=
  s.settled (s.command 0x12 fun sh x =>
    x.applyArgs (stopArgs sh) fun y v => { y with notice := y.notice.setStop v.1 v.2.1 v.2.2 y.clock })

/-- ZONE REPORT (R116). It does not wait for an evaluation in progress, which R104 does not ask of it. (DESIGN CHOICE for what a
record then shows, log 61) -/
def execZoneReport (s : State) : Host.Outcome State Fault Refusal :=
  s.settled (s.command 0x13 fun _ x => x.reportFrom 0)

/-- SAVE CONFIGURATION (R156, R159). -/
def execSaveConfiguration (s : State) : Host.Outcome State Fault Refusal :=
  s.settled (s.command 0x14 fun _ x => x.writePage (buildImage x.savedConfig) 0)

/-- The page that is being written. -/
def State.savingPage (s : State) : Option (List Byte × Nat × Nat) :=
  match s.cmd.exec with
  | some ⟨_, .saving image p since⟩ => some (image, p, since)
  | _ => none

/-- NVM_PAGE_READY: the next page, or the readback after the last (R156, R159). -/
def execNvmPageReady (s : State) : Host.Outcome State Fault Refusal :=
  s.settled (match s.savingPage with
    | some (image, p, _) => if p + 1 < pageCount then s.writePage image (p + 1) else s.beginReadback image
    | none => s)

/-- NVM_PAGE_TIMEOUT: the 20 ms have passed, and the command completes with NVM_FAULT (R156, R159). Turned away
while an edge event of an earlier instant is due (log 7). -/
def execNvmPageTimeout (s : State) : Host.Outcome State Fault Refusal :=
  s.settled (match s.savingPage with
    | some (_, _, since) =>
      let t := since + pageSpan
      if s.canReach t then (s.reach t).complete .nvmFault else s
    | none => s)

/-- The readback gave the image, byte by byte, over a link that answers (R156, R159). -/
def readbackOk (status : Byte) (bytes image : List Byte) : Bool := status != 0xFF && bytes == image

/-- NVM_READBACK (R156, R159). -/
def execNvmReadback (status : Byte) (bytes : List Byte) (s : State) : Host.Outcome State Fault Refusal :=
  s.settled (match s.cmd.exec with
    | some ⟨_, .verifying image⟩ => s.complete (if readbackOk status bytes image then .done else .nvmFault)
    | _ => s)

/-- RELOAD (R13, R34, R52, R57, R73, R80, R136, R157, R162). It waits, PENDING at the head of the queue, while an evaluation
or a completion check is in progress or owed (R87, R104; DESIGN CHOICE, log 45). Then it begins, and acts at once if there
is room for all its completion words; without it, it remains EXECUTING while it waits for room (R15, R153), and the row
that places waiting requests of the Command Unit lets it act. That it can act within a sample set of the frame under
analysis is a DESIGN CHOICE (log 55). -/
def execReload (s : State) : Host.Outcome State Fault Refusal :=
  s.settled (if s.evalOwed || s.checkBusy then s else s.command 0x15 fun _ x => (x.setJob .reloading).reloadOn)

end Sys2Proof.Machine
end

