-- ==== Sys2Proof/Machine/Startup.lean ====
section
/-! DEFINITION. Cold reset, the image read, and the entry to RUNNING (R11, R12, R100, R119, R157 to R162). -/

namespace Sys2Proof.Machine

/-! ## Cold reset (R11) -/

/-- What a cold reset does with the bus-side access in progress: the SRAM, the answer, and the free values drawn. An
access not granted is not performed, a read returning FFFFFFFFH (R11). For one that had the memory-side port the spec
states no outcome, and free values stand in: whether a write lands, and the data of a read. That a write in
progress, granted or not, is answered as lost and not as acknowledged is a DESIGN CHOICE. (log 11) -/
def State.coldBus (s : State) : List Host.Cell × Reply × Nat :=
  match s.path.bus with
  | none => (s.mem, s.path.reply, s.free)
  | some b =>
    match b.op, s.path.port with
    | .read, some .busSide => (s.mem, .data (Config.coldReadData s.free), s.free + 1)
    | .read, _ => (s.mem, .data allOnes, s.free)
    | .write lanes w, some .busSide =>
      (if Config.coldWriteLands s.free then Memory.writeWord s.mem b.memAddr lanes w else s.mem, .lost, s.free + 1)
    | .write _ _, _ => (s.mem, .lost, s.free)

/-- The part after a cold reset: every block in its cold state. The SRAM, the waiting commands and the model's own
counters stand outside it. (DEDUCED, log 33) -/
def State.coldReset (s : State) : State :=
  let r := s.coldBus
  { State.reset with
    pending := s.pending
    mem := r.1
    path := { state := .starting, reply := r.2.1 }
    clock := s.clock
    free := r.2.2 }

/-! ## The image read (R161) -/

/-- The status shown for a usable image (R161). -/
def imageStatus (second clamped : Bool) : ImageStatus := { defaults := false, retried := second, clamped := clamped }

/-- The status shown for the built-in defaults (R161). -/
def defaultsStatus : ImageStatus := { defaults := true, retried := true, clamped := false }

/-- What the loader does once an attempt has ended at time `now` (R161). -/
def afterAttempt (second : Bool) (result : Option (ImageConfig × Bool)) (now : Nat) : LoaderPhase :=
  match result, second with
  | some (cfg, clamped), _ => .ready cfg (imageStatus second clamped)
  | none, false => .retryWait now
  | none, true => .ready builtInDefaults defaultsStatus

/-- An attempt of the image read begins: the status poll and the read (R159, R161). -/
def State.beginAttempt (s : State) (second : Bool) : State :=
  { s with loader := { s.loader with phase := .reading second, sent := readInstrs } }

/-! ## The entry to RUNNING (R12) -/

/-- The profile of a type among stored profiles. -/
def profileOfType (ps : List Profile) (type : Nat) : Option Profile := ps.find? fun p => p.type == type

/-- The stored profile under which the zone table is kept: the type in force, with the zone count in force (R119). -/
def State.keptProfile (s : State) (ps : List Profile) : Option Profile :=
  match s.ev.profile with
  | none => none
  | some cur => ps.find? fun p => p.type == s.zone.mouldType && p.zoneCount == cur.zoneCount

/-- The mould at the entry to RUNNING: kept, or chosen afresh by the cold rule (R100, R119). -/
def State.applyMould (s : State) (cfg : ImageConfig) : State :=
  match s.keptProfile cfg.profiles with
  | some p => { s with ev := { s.ev with profile := some p } }
  | none => s.putMould ((profileOfType cfg.profiles (chooseType cfg)).getD defaultProfile) 0

/-- The configuration of the Notice Unit applied (R143, R144, R148). -/
def State.applyNotice (s : State) (cfg : ImageConfig) : State :=
  let s1 := (s.loadBatch .event cfg.batchEvent).loadBatch .cycle cfg.batchCycle
  { s1 with
    notice := { s1.notice with enables := cfg.enables, levels := cfg.levels, clearMode := cfg.clearMode }.setStop cfg.sources
      cfg.stopMode cfg.stopK s1.clock }

/-- A request that stands for a slot's completion becomes a plain write: every slot is FREE at the entry to RUNNING
(R157). (DEDUCED, log 22) -/
def Request.plain (r : Request) : Request :=
  match r.act with
  | .completion _ w => { r with act := .write w }
  | _ => r

/-- The settings, windows, program and profiles of a configuration applied to every block but the Notice Unit and the Zone
Table's mould (R12, R37, R38, R42, R43, R55, R80, R99, R138, R157). -/
def State.applyBlocks (s : State) (cfg : ImageConfig) (st : ImageStatus) : State :=
  { s with
    path := { s.path with state := .running, windows := some cfg.windows, copy63 := 0 }
    iq := s.iq.map Request.plain
    loader := { s.loader with phase := .idle, status := st, stored := cfg.profiles }
    lines := Vector.ofFn fun i => (s.lines[i]).configure cfg.lines[i]
    tacho := { (s.tacho.configure cfg.tacho) with pmin := cfg.pmin, pmax := cfg.pmax }
    gate := { state := .idle, gates := {}, cycle := s.gate.cycle, active := some cfg.program, staged := none }
    det := { s.det with settings := cfg.det, pending := none }
    ev := { s.ev with settings := cfg.event, pending := none }
    zone := { s.zone with policy := cfg.policy }
    report := { s.report with p := 0, c := 0, seq := 0, gap := 0, pendingC := none }
    cmd := {} }

/-- The image status calls for the IMAGE factor (R161). -/
def ImageStatus.notable (st : ImageStatus) : Bool := st.defaults || st.retried || st.clamped

/-- The entry to RUNNING with a configuration and its status (R12, R161). Every word from 1 to 61 is marked (R141). -/
def State.enterRunning (s : State) (cfg : ImageConfig) (st : ImageStatus) : State :=
  let s1 := ((s.applyBlocks cfg st).applyMould cfg).applyNotice cfg
  let s2 := if st.notable then s1.raise fImage else s1
  s2.markWhere fun _ => true

/-- The entry to RUNNING is due: the loader is ready, no record placing, status block update or evaluation is in progress or
owed (R119, R138, R142), and no stall is due from the last TACHO sample (R38, R40). (DEDUCED for the evaluation, log 23;
DESIGN CHOICE for the stall, log 48) -/
def State.runningDue (s : State) : Option (ImageConfig × ImageStatus) :=
  match s.loader.phase with
  | .ready cfg st =>
    if s.report.placing.isNone && s.status.update.isNone && !s.evalOwed && s.tacho.stallHeld.isNone then some (cfg, st) else none
  | _ => none

end Sys2Proof.Machine
end

