-- ==== Sys2Proof/Machine/StartupCommands.lean ====
section
/-! DEFINITION. The meanings of the reset and start-up rows: COLD_RESET, RESET_RELEASE, IMAGE_READ, IMAGE_RETRY, RUNNING_ENTRY. -/

namespace Sys2Proof.Machine

/-- COLD_RESET (R11, R19, R57, R77, R80, R100, R136, R143, R147, R158, R161). In STARTING nothing is marked. -/
def execColdReset (s : State) : Host.Outcome State Fault Refusal := .next s.coldReset

/-- RESET_RELEASE: with RST_N high and a good supply the image read begins (R161). Turned away while RST_N is not low. -/
def execResetRelease (s : State) : Host.Outcome State Fault Refusal :=
  s.settled (match s.loader.phase with
    | .held => s.beginAttempt false
    | _ => s)

/-- IMAGE_READ: the attempt in progress ends with what the link delivered, and is judged (R159 to R161). -/
def execImageRead (status : Byte) (bytes : List Byte) (s : State) : Host.Outcome State Fault Refusal :=
  s.settled (match s.loader.phase with
    | .reading second =>
      { s with loader := { s.loader with phase := afterAttempt second (judgeRead status bytes) s.clock } }
    | _ => s)

/-- IMAGE_RETRY: the 10 ms have passed, and the second attempt begins (R161); IMAGE_READ ends it. (DESIGN CHOICE, log 38) -/
def execImageRetry (s : State) : Host.Outcome State Fault Refusal :=
  s.settled (match s.loader.phase with
    | .retryWait since => (s.reach (since + retrySpan)).beginAttempt true
    | _ => s)

/-- RUNNING_ENTRY (R12, R161). -/
def execRunningEntry (s : State) : Host.Outcome State Fault Refusal :=
  s.settled (match s.runningDue with
    | some (cfg, st) => s.enterRunning cfg st
    | none => s)

end Sys2Proof.Machine
end

