-- ==== Sys2Proof/Machine/Dispatch.lean ====
section
/-! DEFINITION. The dispatch: one arm for each command, in the order of spec/opcode_table.json, each one call of its meaning. -/

namespace Sys2Proof.Machine

/-- The effect of a command on the state (everything but the queue of waiting commands). -/
def exec (i : Instr) (s : State) : Host.Outcome State Fault Refusal :=
  match i with
  | .coldReset => Sys2Proof.Machine.execColdReset s
  | .resetRelease => Sys2Proof.Machine.execResetRelease s
  | .imageRead status bytes => Sys2Proof.Machine.execImageRead status bytes s
  | .imageRetry => Sys2Proof.Machine.execImageRetry s
  | .runningEntry => Sys2Proof.Machine.execRunningEntry s
  | .busAccess addr op => Sys2Proof.Machine.execBusAccess addr op s
  | .busAccessComplete => Sys2Proof.Machine.execBusAccessComplete s
  | .sampleWrite moment => Sys2Proof.Machine.execSampleWrite moment s
  | .commandWindowWrite => Sys2Proof.Machine.execCommandWindowWrite s
  | .noticeControlWord => Sys2Proof.Machine.execNoticeControlWord s
  | .consumerIndex => Sys2Proof.Machine.execConsumerIndex s
  | .internalAccessComplete first => Sys2Proof.Machine.execInternalAccessComplete first s
  | .waitingRequestPlaced source => Sys2Proof.Machine.execWaitingRequestPlaced source s
  | .lineSample pins order => Sys2Proof.Machine.execLineSample pins order s
  | .tachoSample pin => Sys2Proof.Machine.execTachoSample pin s
  | .tachoStall => Sys2Proof.Machine.execTachoStall s
  | .delayEnd => Sys2Proof.Machine.execDelayEnd s
  | .edgeTimeout => Sys2Proof.Machine.execEdgeTimeout s
  | .frameTaken => Sys2Proof.Machine.execFrameTaken s
  | .sampleSet => Sys2Proof.Machine.execSampleSet s
  | .hitEnd channel => Sys2Proof.Machine.execHitEnd channel s
  | .longHit channel => Sys2Proof.Machine.execLongHit channel s
  | .holdoffEnd channel => Sys2Proof.Machine.execHoldoffEnd channel s
  | .lockoutEnd channel => Sys2Proof.Machine.execLockoutEnd channel s
  | .windowPassed => Sys2Proof.Machine.execWindowPassed s
  | .eventComplete => Sys2Proof.Machine.execEventComplete s
  | .captureTrigger => Sys2Proof.Machine.execCaptureTrigger s
  | .freeze => Sys2Proof.Machine.execFreeze s
  | .recordTaken => Sys2Proof.Machine.execRecordTaken s
  | .statusBlockUpdate => Sys2Proof.Machine.execStatusBlockUpdate s
  | .cycleEndEvaluation => Sys2Proof.Machine.execCycleEndEvaluation s
  | .batchCounter kind => Sys2Proof.Machine.execBatchCounter kind s
  | .stopPulseExpiry => Sys2Proof.Machine.execStopPulseExpiry s
  | .nop => Sys2Proof.Machine.execNop s
  | .setDetector => Sys2Proof.Machine.execSetDetector s
  | .setEvent => Sys2Proof.Machine.execSetEvent s
  | .setWeights => Sys2Proof.Machine.execSetWeights s
  | .setZonePolicy => Sys2Proof.Machine.execSetZonePolicy s
  | .loadGateProgram => Sys2Proof.Machine.execLoadGateProgram s
  | .setLine => Sys2Proof.Machine.execSetLine s
  | .setTachoBand => Sys2Proof.Machine.execSetTachoBand s
  | .setLocationEntry => Sys2Proof.Machine.execSetLocationEntry s
  | .loadLocationTable => Sys2Proof.Machine.execLoadLocationTable s
  | .mouldChange => Sys2Proof.Machine.execMouldChange s
  | .maskZone => Sys2Proof.Machine.execMaskZone s
  | .unmaskZone => Sys2Proof.Machine.execUnmaskZone s
  | .resetZone => Sys2Proof.Machine.execResetZone s
  | .releaseCapture => Sys2Proof.Machine.execReleaseCapture s
  | .stopRelease => Sys2Proof.Machine.execStopRelease s
  | .setNotice => Sys2Proof.Machine.execSetNotice s
  | .setStop => Sys2Proof.Machine.execSetStop s
  | .zoneReport => Sys2Proof.Machine.execZoneReport s
  | .saveConfiguration => Sys2Proof.Machine.execSaveConfiguration s
  | .nvmPageReady => Sys2Proof.Machine.execNvmPageReady s
  | .nvmPageTimeout => Sys2Proof.Machine.execNvmPageTimeout s
  | .nvmReadback status bytes => Sys2Proof.Machine.execNvmReadback status bytes s
  | .reload => Sys2Proof.Machine.execReload s

end Sys2Proof.Machine
end

