-- ==== Sys2Proof/Safety.lean ====
section
/-! DEFINITION. What holds of the part at all times: the design invariants of 00_scope, and the ranges the chapters give, as predicates on the state. -/

namespace Sys2Proof.Machine

/-! ## Memory and the internal queue -/

/-- The SRAM keeps its canonical form. -/
def State.MemoryCanonical (s : State) : Prop := Memory.wf s.mem = true

/-- The internal queue holds at most 64 requests (R14). -/
def State.QueueBounded (s : State) : Prop := s.iq.length ≤ queueCapacity

/-! ## Settings -/

/-- A number lies in `lo` to `hi`. -/
def within (lo hi v : Nat) : Prop := lo ≤ v ∧ v ≤ hi

/-- The ranges of section 4.1. -/
def DetSettings.InRange (d : DetSettings) : Prop :=
  within 1 6 d.kEnv ∧ within 4 10 d.kUp ∧ within 16 255 d.f ∧ d.code ≤ 31 ∧ within 8 1023 d.hdt ∧ d.lockout ≤ 1023
    ∧ within 64 4095 d.dMax

/-- The ranges of section 5.2. -/
def EventSettings.InRange (e : EventSettings) : Prop :=
  within 1 4095 e.w ∧ e.wCap ≤ 63 ∧ e.pre ≤ 5 ∧ e.post ≤ 6 ∧ e.gA ≤ 15 ∧ e.gB ≤ 15 ∧ e.gC ≤ 15 ∧ e.slope ≤ 7 ∧ e.octFloor ≤ 14

/-- The ranges and the order of section 6.1 (R99). -/
def Policy.InRange (p : Policy) : Prop :=
  1 ≤ p.tWatch ∧ p.tWatch < p.tSuspect ∧ p.tSuspect < p.tCrack ∧ p.tCrack ≤ 1023 ∧ p.h < p.tWatch ∧ within 1 255 p.n
    ∧ p.d ≤ 63 ∧ p.b ≤ 63 ∧ p.blindLimit ≤ 255

/-- The tacho band (section 3.2). -/
def bandInRange (lo hi : Nat) : Prop := 1 ≤ lo ∧ lo ≤ hi ∧ hi ≤ 65535

/-- A step of a gate program that passes the checks of R43, in the fields of the step word. -/
def GateStep.InRange (g : GateStep) : Prop := g.k ≤ 15 ∧ g.line ≤ 7 ∧ (g.wait = .edge → within 1 4 g.line)

/-- A gate program: 1 to 12 steps (section 3.3). -/
def programInRange (p : List GateStep) : Prop := within 1 12 p.length ∧ ∀ g ∈ p, g.InRange

/-- A profile with the ranges of section 10.2. -/
def Profile.InRange (p : Profile) : Prop :=
  within 1 255 p.type ∧ within 1 24 p.zoneCount ∧ p.q ≤ 7 ∧ (∀ b ∈ p.table.toList, entryOk b.toNat = true)
    ∧ p.mask.toNat < 2 ^ p.zoneCount

/-- The stored profiles: 1 to 4, with distinct types (R160). -/
def profilesInRange (ps : List Profile) : Prop :=
  within 1 4 ps.length ∧ (∀ p ∈ ps, p.InRange) ∧ (ps.map (·.type)).Nodup

/-- A configuration whose every value is one that the part can put in force (R3, R160). -/
def ImageConfig.InRange (c : ImageConfig) : Prop :=
  windowsOk c.windows = true ∧ c.det.InRange ∧ c.event.InRange ∧ c.policy.InRange ∧ bandInRange c.pmin c.pmax
    ∧ (∀ l ∈ c.lines.toList, within 1 8 l.filter) ∧ within 1 8 c.tacho.filter ∧ programInRange c.program
    ∧ (∀ v ∈ c.levels.toList, v ≤ 7) ∧ within 1 255 c.batchEvent ∧ within 1 255 c.batchCycle ∧ c.stopK ≤ 15
    ∧ c.initialType ≤ 255 ∧ profilesInRange c.profiles

/-- The settings of the Notice Unit (section 8.3, R144, R148). -/
def NoticeUnit.InRange (n : NoticeUnit) : Prop :=
  (∀ v ∈ n.levels.toList, v ≤ 7) ∧ within 1 255 n.batchEvent.count ∧ within 1 255 n.batchCycle.count ∧ n.k ≤ 15

/-- The profile of a MOULD CHANGE in progress (R117). -/
def Job.InRange : Job → Prop
  | .mould p _ _ => p.InRange
  | _ => True

/-- Every setting in force, and every pending, staged or stored one, lies in its range, and so does a configuration that
waits to be applied. In RUNNING there are an active gate program and stored profiles (R3, R37, R38, R42, R43, R55, R81,
R99, R143, R144, R148, R160). -/
structure State.SettingsInRange (s : State) : Prop where
  windows  : ∀ t, s.path.windows = some t → windowsOk t = true
  detector : s.det.settings.InRange ∧ ∀ d, s.det.pending = some d → d.InRange
  events   : s.ev.settings.InRange ∧ ∀ e, s.ev.pending = some e → e.InRange
  policy   : s.zone.policy.InRange
  band     : bandInRange s.tacho.pmin s.tacho.pmax
  filters  : (∀ l ∈ s.lines.toList, within 1 8 l.settings.filter) ∧ within 1 8 s.tacho.settings.filter
  programs : (∀ p, s.gate.active = some p → programInRange p) ∧ ∀ p, s.gate.staged = some p → programInRange p
  notices  : s.notice.InRange
  profiles : s.loader.stored ≠ [] → profilesInRange s.loader.stored
  mould    : s.zone.mouldType ≤ 255 ∧ ∀ e, s.cmd.exec = some e → e.job.InRange
  ready    : ∀ cfg st, s.loader.phase = .ready cfg st → cfg.InRange
  running  : s.path.state = .running → s.gate.active ≠ none ∧ s.loader.stored ≠ []

/-! ## Hit Detectors (design invariant 7, R78) -/

/-- Four floors of a channel within 0 to 32767. -/
def floorsInRange (f : PerClass Nat) : Prop := f.a ≤ 32767 ∧ f.b ≤ 32767 ∧ f.c ≤ 32767 ∧ f.u ≤ 32767

/-- A channel's envelope never reaches 32767, and its floors and least envelope stay within 0 to 32767. -/
def Channel.InRange (ch : Channel) : Prop := ch.env ≤ 32766 ∧ ch.minEnv ≤ 32767 ∧ floorsInRange ch.floors

/-- Every channel is in range. -/
def State.ChannelsInRange (s : State) : Prop := ∀ ch ∈ s.det.chans.toList, ch.InRange

/-- A threshold in use under the ladder code: at least 128 × (code + 1) and at most 32767. -/
def thresholdOk (code t : Nat) : Prop := ladder code ≤ t ∧ t ≤ 32767

/-- The latched threshold of a channel, if it has one. -/
def ChanState.latched? : ChanState → Option Nat
  | .active t _ => some t
  | .holdoff t _ => some t
  | _ => none

/-- The sample sets of the frame under analysis have begun and not ended. -/
def Phase.inSets : Phase → Bool
  | .sets _ => true
  | .due _ _ _ => true
  | .window _ => true
  | _ => false

/-- While the Image Loader is at work the part is quiet: it is not RUNNING, no frame is queued or under analysis, no write
in progress is snooped, and every channel is IDLE (R13, R34, R57). -/
def State.QuietWhileLoading (s : State) : Prop :=
  s.loader.phase ≠ .idle →
    s.path.state ≠ .running ∧ s.aq.work = none ∧ (∀ f, AQEntry.frame f ∉ s.aq.entries)
      ∧ (∀ b, s.path.bus = some b → b.snooped = false) ∧ ∀ c : Fin 4, s.det.chans[c].state = .idle

/-- Every threshold in use is in range: the latched one of a channel in ACTIVE or HOLDOFF, and the frame threshold of
every channel while the sample sets of a frame are processed (design invariant 7, R56, R62). -/
def State.ThresholdsInUse (s : State) : Prop :=
  s.QuietWhileLoading
    ∧ (∀ (c : Fin 4) t, s.det.chans[c].state.latched? = some t → thresholdOk s.det.settings.code t)
    ∧ ∀ w, s.aq.work = some w → w.phase.inSets = true → ∀ c : Fin 4, thresholdOk s.det.settings.code s.det.chans[c].frameTh

/-! ## Events and the report ring (design invariants 6 and 8) -/

/-- At most 4 events are open, and each has at most one member per channel (R82, R84). -/
def State.EventsBounded (s : State) : Prop :=
  s.ev.openEvents.length ≤ openMax ∧ ∀ e ∈ s.ev.openEvents, (e.members.map (·.ch)).Nodup

/-- Under a window table in force the producer index and the consumer index, also one that waits to be taken, lie below R
(R138). -/
def State.RingInRange (s : State) : Prop :=
  ∀ t, s.path.windows = some t → s.report.p < t.r ∧ s.report.c < t.r ∧ ∀ n, s.report.pendingC = some n → n < t.r

/-! ## Zones (design invariant 1, R98) -/

/-- The fields of a zone record lie in their ranges. -/
def ZoneRecord.InRange (r : ZoneRecord) : Prop :=
  r.score ≤ 1023 ∧ r.streak ≤ 255 ∧ r.hitsCycle ≤ 255 ∧ r.totalHits ≤ 65535 ∧ r.maskedHits ≤ 65535

/-- Every zone record is in range. -/
def State.ZonesInRange (s : State) : Prop := ∀ z r, s.zone.record? z = some r → r.InRange

/-! ## Slots and captures (design invariants 2 to 4, R27, R121, R123) -/

/-- The places of the physical slots: the map, the spare list, the frame lists. -/
def CaptureUnit.places (u : CaptureUnit) : List (Fin 48) :=
  u.map.toList ++ u.spare ++ u.table.toList.flatMap fun e => e.frames.map (·.2)

/-- Each of the 48 physical slots is in exactly one place (R121). -/
def CaptureUnit.Partitioned (u : CaptureUnit) : Prop := u.places.Nodup ∧ u.places.length = 48

/-- At most one capture is OPEN, and none while a trigger's run waits (R123, R125). -/
def CaptureUnit.OneOpen (u : CaptureUnit) : Prop :=
  (∀ c d : Fin 4, u.table[c].state = .opened → u.table[d].state = .opened → c = d)
    ∧ (u.run.isSome = true → ∀ c : Fin 4, u.table[c].state ≠ .opened)

/-- A FREE entry holds no frame, unless a trigger's run that waits is filling it (R123). -/
def CaptureUnit.FreeEmpty (u : CaptureUnit) : Prop :=
  ∀ c : Fin 4, u.table[c].state = .free → (u.run.map (·.cap)) ≠ some c → u.table[c].frames = []

/-- No frame list is longer than 12 entries, nor can a trigger's run that waits or an OPEN capture make it so (R123). -/
def CaptureUnit.FramesBounded (u : CaptureUnit) : Prop :=
  (∀ c : Fin 4, u.table[c].frames.length ≤ frameListMax ∧ (u.table[c].state = .opened → u.table[c].frames.length < frameListMax))
    ∧ ∀ r, u.run = some r → u.table[r.cap].frames.length + r.wanted.length ≤ frameListMax

/-- Spare slots are EMPTY, frozen slots hold their frames, and the slot of an assembly, and of a snooped sample write in
progress, stays mapped (R4, R27, R121). -/
def State.TagsAgree (s : State) : Prop :=
  (∀ p ∈ s.cap.spare, s.asm.tags[p] = .empty)
    ∧ (∀ c : Fin 4, ∀ f ∈ s.cap.table[c].frames, s.asm.tags[f.2] = .complete f.1)
    ∧ (∀ x, s.asm.assembly = some x → s.cap.map[x.slot] = x.phys ∧ s.asm.tags[x.phys] = .assembling)
    ∧ (∀ b l p i, s.path.bus = some b → b.snooped = true → b.place = .sample l p i → s.cap.map[l] = p)

/-- The slots and captures are in order. -/
def State.SlotsInOrder (s : State) : Prop :=
  s.cap.Partitioned ∧ s.cap.OneOpen ∧ s.cap.FreeEmpty ∧ s.cap.FramesBounded ∧ s.TagsAgree

/-! ## Commands (design invariant 12, R152) -/

/-- A slot that is EXECUTING is the one that the Command Unit executes; so at most one slot is EXECUTING. -/
def State.OneExecuting (s : State) : Prop :=
  ∀ i : Fin 8, s.cmd.slots[i].state = .executing → ∃ e, s.cmd.exec = some e ∧ e.slot = i

/-- The words of RELOAD, and of the commands that it discards, never wait: RELOAD places them all as one action (R157). -/
def State.WaitsOrdinary (s : State) : Prop := ∀ x ∈ s.cmd.waits, x.2 ≠ .accepted ∧ x.2 ≠ .discarded

/-- The command queue and the EXECUTING slot before and after a step that keeps the order of commands (R152): both as they
were; a command taken at the tail; or the one at the head begun, while no slot was EXECUTING. -/
def CommandUnit.OrderKept (u v : CommandUnit) : Prop :=
  (v.queue = u.queue ∧ v.exec.map (·.slot) = u.exec.map (·.slot))
    ∨ (∃ i, v.queue = u.queue ++ [i] ∧ v.exec = u.exec)
    ∨ (∃ i, u.queue = i :: v.queue ∧ u.exec = none ∧ v.exec.map (·.slot) = some i)

end Sys2Proof.Machine
end

