-- ==== Sys2Proof/Certificates/Slice0/Obligations.lean ====
section
/-! DEFINITION. The statements for the provers. Each obligation formalises rules of spec/ over every state, or over every state that meets the premises it names. A conclusion of the form `exec c s = .next (s.settle t)` says that the command completes, what it leaves, and that every field `t` does not name is unchanged, up to the marks and the grant of `State.settle`, which have a statement of their own. -/

namespace Sys2Proof.Machine

/-! ## Vocabulary of the statements -/

/-- The state after the present command, with the queue front `c` taken off. -/
def State.popped (s : State) (rest : List Instr) : State := { s with pending := rest }

/-- What a cold reset leaves in the fields for which the spec states a value (R11, R16, R19, R32, R33, R35, R39, R43, R57,
R77, R80, R100, R121, R123, R136, R138, R142 to R147, R158). The 0 in a capture entry's first zone and first cycle is the
model's (DESIGN CHOICE, log 10). -/
structure Cold (t : State) : Prop where
  path : t.path.state = .starting ∧ t.path.windows = none ∧ t.path.bus = none ∧ t.path.port = none
    ∧ t.path.lastGrant = .busSide ∧ t.path.copy62 = 0 ∧ t.path.copy63 = 0
  queue : t.iq = []
  frames : t.asm.assembly = none ∧ t.asm.lastAccepted = none ∧ t.asm.pendingLost = 0 ∧ t.asm.position = 0
    ∧ t.asm.analysed = 0 ∧ t.asm.lost = 0 ∧ t.asm.accounts = [] ∧ t.aq.entries = [] ∧ t.aq.work = none
  tags : ∀ p : Fin 48, t.asm.tags[p] = .empty
  lines : ∀ i : Fin 5, t.lines[i].level = false ∧ t.lines[i].agree = 0
  tacho : t.tacho.level = false ∧ t.tacho.agree = 0 ∧ t.tacho.count = 0 ∧ t.tacho.reference = false
    ∧ t.tacho.stalled = false ∧ t.tacho.last = 0
  gate : t.gate.state = .stopped ∧ t.gate.cycle = 0 ∧ t.gate.active = none ∧ t.gate.staged = none
    ∧ t.gate.gates = ⟨false, false, false, false⟩
  channels : ∀ c : Fin 4, t.det.chans[c].state = .idle ∧ t.det.chans[c].env = 0 ∧ t.det.chans[c].prev = 0
    ∧ t.det.chans[c].floors = ⟨0, 0, 0, 0⟩
  events : t.ev.openEvents = [] ∧ t.ev.nextId = 0 ∧ t.ev.profile = none ∧ ∀ c : Fin 4, t.ev.assign[c] = .none
  noPending : t.det.pending = none ∧ t.ev.pending = none
  zones : t.zone.serial = 0 ∧ t.zone.firstCycle = 1 ∧ t.zone.started = false ∧ ∀ z, t.zone.record? z = none
  slots : (∀ l : Fin 32, (t.cap.map[l]).val = l.val) ∧ t.cap.spare.map (·.val) = (List.range 16).map (32 + ·)
    ∧ t.cap.latest = none
  captures : ∀ c : Fin 4, t.cap.table[c] = ⟨.free, [], 0, 0, 0, [], 0, 0, false⟩
  ring : t.report.p = 0 ∧ t.report.c = 0 ∧ t.report.seq = 0 ∧ t.report.gap = 0 ∧ t.status.mirror = 0
  notices : t.notice.pending = 0 ∧ t.notice.mask = 0 ∧ t.notice.batchEvent.counter = 1 ∧ t.notice.batchCycle.counter = 1
    ∧ t.notice.latch = false ∧ t.notice.pulse = none
  pins : t.noticeN = true ∧ t.stopReq = false ∧ t.nvmCsN = true ∧ t.nvmSck = false
  commands : t.cmd.queue = [] ∧ t.cmd.exec = none
    ∧ ∀ i : Fin 8, t.cmd.slots[i].state = .free ∧ t.cmd.slots[i].disturbed = false ∧ ∀ k : Fin 16, t.cmd.slots[i].shadow[k] = 0

/-- The invariants that the statements say every step keeps. -/
structure Sound (s : State) : Prop where
  memory : s.MemoryCanonical
  queue : s.QueueBounded
  settings : s.SettingsInRange
  channels : s.ChannelsInRange
  zones : s.ZonesInRange
  slots : s.SlotsInOrder
  oneExecuting : s.OneExecuting
  waits : s.WaitsOrdinary
  thresholds : s.ThresholdsInUse
  events : s.EventsBounded
  ring : s.RingInRange
  position : s.asm.position ≤ positionTop

/-- The address to which a command's SRAM write goes, computed as its meaning computes it: that of the granted bus-side write
that the command completes, or of the granted internal write. A command that performs no write has none. -/
def storeAddress (c : Instr) (s : State) : Option Nat :=
  let snooped (owner : Place → Bool) : Option Nat :=
    s.grantedSnoop.bind fun b => if owner b.1.place then some b.1.memAddr else none
  match c with
  | .busAccessComplete => s.granted.bind fun b => if isWrite b.op && !b.snooped then some b.memAddr else none
  | .sampleWrite _ => snooped fun q => match q with
    | .sample _ p _ => !s.freezeFirst p
    | _ => false
  | .commandWindowWrite => snooped fun q => match q with
    | .command _ _ => true
    | _ => false
  | .noticeControlWord => snooped (· == .noticeWord)
  | .consumerIndex => snooped (· == .consumerWord)
  | .internalAccessComplete _ => s.internalHead.bind fun r => match r.1.act with
    | .tableRead => none
    | _ => some r.1.addr
  | .coldReset => s.granted.bind fun b => if isWrite b.op then some b.memAddr else none
  | _ => none

/-- The four bytes at consecutive addresses as a word, the byte at the lowest address in bits 7 to 0 (R163). -/
def bytesWord (m : Memory) (a : Nat) : Word :=
  BitVec.ofNat 32 ((m.read a).toNat + 256 * (m.read (a + 1)).toNat + 65536 * (m.read (a + 2)).toNat
    + 16777216 * (m.read (a + 3)).toNat)

/-- A bus-side access that goes to the memory side, as it stands from its receipt on. -/
def State.inProgress (s : State) (op : BusOp) (m : Nat) (place : Place) (snooped : Bool) : State :=
  { s with path := { s.path with bus := some ⟨op, m, place, snooped⟩ } }

/-- A bus-side access answered or acknowledged at once. -/
def State.replied (s : State) (r : Reply) : State := { s with path := { s.path with reply := r } }

/-- The bus-side write of `w` on `lanes` at `m` performed: the SRAM written, the access acknowledged and the port free. -/
def State.written (s : State) (m : Nat) (lanes : Lanes) (w : Word) : State :=
  { s with
    mem := Memory.writeWord s.mem m lanes w
    path := { s.path with bus := none, port := none, reply := .ack } }

/-- A snooped write of `w` on `lanes` has the memory-side port: it goes to `m`, and its place is `place`. -/
def State.Snoops (s : State) (place : Place) (m : Nat) (lanes : Lanes) (w : Word) : Prop :=
  s.path.port = some .busSide ∧ s.path.bus = some ⟨.write lanes w, m, place, true⟩

/-- A sample write with the logical slot, physical slot and word found at receipt, while no freeze of a post-frame is still to
be made for another slot. -/
def State.SnoopsSample (s : State) (l : Fin 32) (p : Fin 48) (i : Fin 128) (m : Nat) (lanes : Lanes) (w : Word) : Prop :=
  s.Snoops (.sample l p i) m lanes w ∧ ∀ f, s.cap.post = some f → f.phys = p

/-- The command in slot `i` can begin: the part is RUNNING, no slot is EXECUTING, slot `i` heads the queue, and its function
code is `fn` (R152). That it can begin also while the word of a command refused with REFUSED_UNKNOWN waits for room is the
model's choice (log 59). -/
def State.Begins (s : State) (fn : Nat) (i : Fin 8) (rest : List (Fin 8)) : Prop :=
  s.path.state = .running ∧ s.cmd.exec = none ∧ s.cmd.queue = i :: rest
    ∧ (s.cmd.slots[i].shadow[0]).toNat % 256 = fn

/-- Slot `i` has left the queue and is EXECUTING, doing `job` (R152). -/
def State.begun (s : State) (i : Fin 8) (rest : List (Fin 8)) (job : Job) : State :=
  { s with cmd := { s.cmd with
      slots := s.cmd.slots.set i { s.cmd.slots[i] with state := .executing }
      queue := rest
      exec := some ⟨i, job⟩ } }

/-- Argument `n` of the command in slot `i` (R153). -/
def State.arg (s : State) (i : Fin 8) (n : Fin 16) : Nat := (s.cmd.slots[i].shadow[n]).toNat

/-- Byte `b` of argument `n` (section 11.3). -/
def State.argByte (s : State) (i : Fin 8) (n : Fin 16) (b : Nat) : Nat := s.arg i n / 256 ^ b % 256

/-- The command in slot `i` has done all its work, leaving `s`, and its completion word is ready with a code (R152). -/
def State.answered (s : State) (i : Fin 8) (rest : List (Fin 8)) (code : Code) : State :=
  (s.begun i rest .completing).queueCompletion i code

/-- A number brought within limits. -/
def limited (lo hi v : Nat) : Nat := if v < lo then lo else if hi < v then hi else v

/-- The completion code of an accepted command whose arguments are listed as `(lo, hi, value)` (R153). -/
def codeFor (args : List (Nat × Nat × Nat)) : Code :=
  if args.all fun x => x.1 ≤ x.2.2 && x.2.2 ≤ x.2.1 then .done else .doneClamped

/-- All four gates closed. -/
def closedGates : Gates := ⟨false, false, false, false⟩

/-- The account of a cycle that has none open: every count 0 (R52). -/
def emptyAccount (n : Word) : Account := ⟨n, ⟨0, 0, 0, 0⟩, 0, 0, ⟨0, 0, 0, 0⟩, 0, 0⟩

/-- Capture `c` is the OPEN one, found as the lowest-numbered. -/
def State.OpenCapture (s : State) (c : Fin 4) : Prop :=
  s.cap.table[c].state = .opened ∧ ∀ b : Fin 4, b < c → s.cap.table[b].state ≠ .opened

/-- The bits of a word from `lo`, `width` of them. -/
def fieldOf (w : Word) (lo width : Nat) : Nat := w.toNat / 2 ^ lo % 2 ^ width

/-- The frame under analysis stands in phase `p`, and nothing holds the analysis up. -/
def State.Analyses (s : State) (f : QFrame) (p : Phase) : Prop := s.aq.work = some ⟨f, p⟩ ∧ s.analysisHeld = false

/-- The position of a channel's new state in the vector of channels. -/
def State.withChan (s : State) (c : Fin 4) (ch : Channel) : State :=
  { s with det := { s.det with chans := s.det.chans.set c ch } }

/-- The step of channel `c` at sample set `n` of frame `f`. -/
def State.chanStep (s : State) (f : QFrame) (n : Nat) (c : Fin 4) : Channel × ChanOut :=
  s.det.chans[c].step s.det.settings s.asm.position (f.sample n c) f.seq f.cls f.tag.cycle

/-- Two bytes of an image, the most significant first (R164). -/
def imagePair (bs : List Byte) (i : Nat) : Nat := 256 * imageByte bs i + imageByte bs (i + 1)

/-- Three bytes of an image, the most significant first (R164). -/
def imageTriple (bs : List Byte) (i : Nat) : Nat := 256 * imagePair bs i + imageByte bs (i + 2)

/-- Step word `i` of an image (section 11.6). -/
def imageStep (bs : List Byte) (i : Nat) : Word :=
  BitVec.ofNat 32 (65536 * imagePair bs (64 + 4 * i) + imagePair bs (66 + 4 * i))

/-- The link answers, and the image passes the five checks of R160: markers, CRC, window table (R3), orders, and program. -/
structure ImagePasses (status : Byte) (bs : List Byte) : Prop where
  answers : status ≠ 0xFF
  markers : imageByte bs 0 = 0xC3 ∧ imageByte bs 1 = 0x3C ∧ imageByte bs 1022 = 0x3C ∧ imageByte bs 1023 = 0xC3
  crc     : (crc16 ((bs.drop 2).take 1018)).toNat = imagePair bs 1020
  slots   : 16 ≤ imagePair bs 17 ∧ imagePair bs 17 ≤ 512
  aligned : imageTriple bs 2 % 4096 = 0 ∧ imageTriple bs 5 % 4096 = 0 ∧ imageTriple bs 8 % 256 = 0
    ∧ imageTriple bs 11 % 256 = 0 ∧ imageTriple bs 14 % 256 = 0
  windows :
    let extents : List (Nat × Nat) := [(imageTriple bs 2, 24576), (imageTriple bs 5, 24576), (imageTriple bs 8, 512),
      (imageTriple bs 11, 256), (imageTriple bs 14, 128 * imagePair bs 17)]
    (∀ e ∈ extents, e.1 + e.2 ≤ 2 ^ 24) ∧ extents.Pairwise fun x y => x.1 + x.2 ≤ y.1 ∨ y.1 + y.2 ≤ x.1
  order   : limited 1 1023 (imagePair bs 40) < limited 1 1023 (imagePair bs 42)
    ∧ limited 1 1023 (imagePair bs 42) < limited 1 1023 (imagePair bs 44)
    ∧ limited 1 65535 (imagePair bs 53) ≤ limited 1 65535 (imagePair bs 55)
  program : 1 ≤ imageByte bs 63 ∧ imageByte bs 63 ≤ 12 ∧ ∀ i < imageByte bs 63, stepOfWord (imageStep bs i) ≠ none

/-- Profile slot `p` of an image is not ignored: its type is not 0, its zone count is 1 to 24, every location entry is 0 to 23
or 31, and no earlier slot has its type (R160). -/
def imageKeepsSlot (bs : List Byte) (p : Nat) : Bool :=
  let b (i : Nat) : Nat := imageByte bs (136 + 202 * p + i)
  b 0 != 0 && 1 ≤ b 1 && b 1 ≤ 24 && (List.range 196).all (fun i => b (3 + i) ≤ 23 || b (3 + i) == 31)
    && (List.range p).all fun j => imageByte bs (136 + 202 * j) != b 0

/-- The stored profile of profile slot `p`: q at its nearest limit, mask set members at or above the zone count dropped
(R160). -/
structure ImageSlotGives (bs : List Byte) (p : Nat) (x : Profile) : Prop where
  type      : x.type = imageByte bs (136 + 202 * p)
  zoneCount : x.zoneCount = imageByte bs (137 + 202 * p)
  q         : x.q = limited 0 7 (imageByte bs (138 + 202 * p))
  table     : ∀ i : Fin 196, (x.table[i]).toNat = imageByte bs (139 + 202 * p + i)
  mask      : ∀ z : Nat, x.mask.getLsbD z = (decide (z < x.zoneCount) && (imageTriple bs (335 + 202 * p)).testBit z)

/-- The values of an image that passes: every number at its nearest limit, an unknown code at its default, tacho edge mode
BOTH as RISING, and the stored profiles (R160, R161, R164). Bit 7 of a line byte and bits 6 to 3 of a factor byte are not
read (log 47). -/
structure ImageGives (bs : List Byte) (c : ImageConfig) : Prop where
  windows : c.windows = { bs := imageTriple bs 2, be := imageTriple bs 5, bc := imageTriple bs 8, bt := imageTriple bs 11,
                          br := imageTriple bs 14, r := imagePair bs 17 }
  det : c.det =
    { kEnv := limited 1 6 (imageByte bs 19), kUp := limited 4 10 (imageByte bs 20), f := limited 16 255 (imageByte bs 21)
      code := limited 0 31 (imageByte bs 22), hdt := limited 8 1023 (imagePair bs 23)
      lockout := limited 0 1023 (imagePair bs 25), dMax := limited 64 4095 (imagePair bs 27) }
  event : c.event =
    { w := limited 1 4095 (imagePair bs 29), wCap := limited 0 63 (imageByte bs 31), suspect := imageByte bs 32 != 0
      pre := limited 0 5 (imageByte bs 33), post := limited 0 6 (imageByte bs 34), gA := limited 0 15 (imageByte bs 35)
      gB := limited 0 15 (imageByte bs 36), gC := limited 0 15 (imageByte bs 37), slope := limited 0 7 (imageByte bs 38)
      octFloor := limited 0 14 (imageByte bs 39) }
  policy : c.policy =
    { tWatch := limited 1 1023 (imagePair bs 40), tSuspect := limited 1 1023 (imagePair bs 42)
      tCrack := limited 1 1023 (imagePair bs 44)
      h := limited 0 (limited 1 1023 (imagePair bs 40) - 1) (imagePair bs 46)
      n := limited 1 255 (imageByte bs 48), d := limited 0 63 (imageByte bs 49), b := limited 0 63 (imageByte bs 50)
      blindLimit := imageByte bs 51, offBlind := imageByte bs 52 != 0 }
  band : c.pmin = limited 1 65535 (imagePair bs 53) ∧ c.pmax = limited 1 65535 (imagePair bs 55)
  lines : ∀ i : Fin 5,
    let v := imageByte bs (57 + i)
    c.lines[i] =
      { polarity := if v.testBit 4 then .inverted else .normal
        filter := limited 1 8 (v % 16)
        mode := if v / 32 % 4 = 1 then .falling else if v / 32 % 4 = 2 then .both else .rising }
  tacho : c.tacho =
    { polarity := if (imageByte bs 62).testBit 4 then .inverted else .normal
      filter := limited 1 8 (imageByte bs 62 % 16)
      edge := if imageByte bs 62 / 32 % 4 = 1 then .falling else .rising }
  program : c.program.map some = (List.range (imageByte bs 63)).map fun i => stepOfWord (imageStep bs i)
  factors : ∀ f : Fin 16,
    c.enables.getLsbD f = (imageByte bs (112 + f)).testBit 7 ∧ c.levels[f] = imageByte bs (112 + f) % 8
  batches : c.batchEvent = limited 1 255 (imageByte bs 128) ∧ c.batchCycle = limited 1 255 (imageByte bs 129)
  clearMode : c.clearMode = if imageByte bs 130 = 1 then .replace else .clearOnOne
  stop : c.sources = BitVec.ofNat 16 (imagePair bs 131) ∧ c.stopMode = (if imageByte bs 133 = 1 then .pulse else .latch)
    ∧ c.stopK = limited 0 15 (imageByte bs 134)
  mould : c.initialType = imageByte bs 135
  profiles :
    let kept := (List.range 4).filter (imageKeepsSlot bs)
    (kept = [] → c.profiles = [defaultProfile])
      ∧ (kept ≠ [] → List.Forall₂ (ImageSlotGives bs) kept c.profiles)

/-- An image that passes is CLAMPED: a number lies outside its range, a code is unknown, or the tacho's edge mode is
BOTH (R160). That q counts in every profile slot, and the initial type and the masks do not, is the model's reading (log
17). -/
def ImageIsClamped (bs : List Byte) : Prop :=
  let b := imageByte bs
  let h := imagePair bs
  let numbers : List (Nat × Nat × Nat) :=
    [(1, 6, b 19), (4, 10, b 20), (16, 255, b 21), (0, 31, b 22), (8, 1023, h 23), (0, 1023, h 25), (64, 4095, h 27),
      (1, 4095, h 29), (0, 63, b 31), (0, 5, b 33), (0, 6, b 34), (0, 15, b 35), (0, 15, b 36), (0, 15, b 37), (0, 7, b 38),
      (0, 14, b 39), (1, 1023, h 40), (1, 1023, h 42), (1, 1023, h 44), (0, limited 1 1023 (h 40) - 1, h 46), (1, 255, b 48),
      (0, 63, b 49), (0, 63, b 50), (1, 65535, h 53), (1, 65535, h 55), (1, 8, b 57 % 16), (1, 8, b 58 % 16),
      (1, 8, b 59 % 16), (1, 8, b 60 % 16), (1, 8, b 61 % 16), (1, 8, b 62 % 16), (1, 255, b 128), (1, 255, b 129),
      (0, 15, b 134), (0, 7, b 138), (0, 7, b 340), (0, 7, b 542), (0, 7, b 744)]
  (∃ x ∈ numbers, x.2.2 < x.1 ∨ x.2.1 < x.2.2) ∨ 1 < b 32 ∨ 1 < b 52 ∨ 1 < b 130 ∨ 1 < b 133
    ∨ (∃ i : Fin 5, b (57 + i) / 32 % 4 = 3) ∨ 2 ≤ b 62 / 32 % 4

/-- MOULD CHANGE in slot `i` can act, and names the stored profile `p` (R117). -/
def State.TakesMould (s : State) (i : Fin 8) (rest : List (Fin 8)) (p : Profile) : Prop :=
  s.mouldMustWait = false ∧ s.Begins 0x0B i rest ∧ 1 ≤ s.arg i 1 ∧ s.arg i 1 ≤ 255
    ∧ (s.loader.stored.find? fun q => q.type == s.arg i 1) = some p

/-- What a MOULD CHANGE of `s` that owes no evaluation leaves in `t`: with no open event the new mould is in force and the
record handed over; with open events every one is picked to complete or to be abandoned, and mould and record wait for
them (R72, R88, R118). -/
def State.MouldSettled (s t : State) (i : Fin 8) (p : Profile) (serial : Word) : Prop :=
  (s.ev.openEvents = [] → t.zone.mouldType = p.type ∧ t.zone.serial = serial ∧ t.ev.profile = some p
      ∧ t.report.handed.length = s.report.handed.length + 1 ∧ t.cmd.exec = some ⟨i, .mould p serial .record⟩)
    ∧ (s.ev.openEvents ≠ [] → t.zone = s.zone ∧ t.report = s.report ∧ t.ev.profile = s.ev.profile
      ∧ t.ev.openEvents.length = s.ev.openEvents.length ∧ (∀ e ∈ t.ev.openEvents, e.fate ≠ .stays)
      ∧ t.cmd.exec = some ⟨i, .mould p serial .events⟩)

end Sys2Proof.Machine

open Sys2Proof Sys2Proof.Machine

/-! ## The step, reset and the invariants -/

/-- A step executes the command at the front of the queue on the state with the queue's rest; with no command waiting the
block idles (the model's choice, log 1). -/
def Obligations.StepRunsFrontCommand : Prop :=
  (∀ (c : Instr) (rest : List Instr) (s : State), s.pending = c :: rest → step s = exec c (s.popped rest))
    ∧ ∀ s : State, s.pending = [] → step s = .next s

/-- The state right after reset, and the state that COLD_RESET leaves from every state, hold the values that the spec
states for a cold reset; COLD_RESET completes from every state. A write not yet granted is not performed, and a read
not yet granted returns FFFFFFFFH (R11). That the SRAM and the waiting commands stand outside the reset is the model's
reading (log 33), and the 0 in a capture entry's first zone and first cycle is its choice (log 10). -/
def Obligations.ColdResetLeavesColdState : Prop :=
  Cold State.reset
    ∧ ∀ s : State, ∃ t : State, exec .coldReset s = .next t ∧ Cold t ∧ t.pending = s.pending
      ∧ (∀ b, s.path.bus = some b → s.path.port ≠ some .busSide →
          t.mem = s.mem ∧ (b.op = .read → t.path.reply = .data 0xFFFFFFFF))
      ∧ (s.path.bus = none → t.mem = s.mem ∧ t.path.reply = s.path.reply)

/-- The state right after reset meets every invariant that the statements below say a step keeps. Its settings are those of
the model: the spec puts none in force before RUNNING, and the model has the built-in defaults there (DESIGN CHOICE,
log 10), so that part of the statement is about the model's choice. -/
def Obligations.ResetMeetsInvariants : Prop := Sound State.reset

/-- Every step keeps the SRAM in its canonical form. -/
def Obligations.StepKeepsMemoryCanonical : Prop :=
  ∀ s t : State, s.MemoryCanonical → step s = .next t → t.MemoryCanonical

/-- Every step keeps the slots and captures in order: the 48 physical slots partitioned among map, spare list and frame lists,
at most one OPEN capture, no frame list above 12 entries, spares EMPTY, and frozen slots COMPLETE (design invariants 2 to
4, R121, R123, R27). -/
def Obligations.StepKeepsSlotsInOrder : Prop :=
  ∀ s t : State, s.SlotsInOrder → step s = .next t → t.SlotsInOrder

/-- Every step keeps the settings in their ranges and orders: the window table, those in force, pending, staged and stored,
and a configuration that waits to be applied (R3, R37, R38, R42, R43, R55, R81, R99, R143, R144, R148, R160). In RUNNING
the configuration that SAVE CONFIGURATION saves is then in range (R156). -/
def Obligations.StepKeepsSettingsInRange : Prop :=
  (∀ s t : State, s.SettingsInRange → step s = .next t → t.SettingsInRange)
    ∧ ∀ s : State, s.SettingsInRange → s.path.state = .running → s.savedConfig.InRange

/-- Every step keeps the internal queue within 64 requests (R14), the ring indices below R (design invariant 6, R138), at
most one slot EXECUTING, which is the one whose command the Command Unit executes (design invariant 12, R152), and the
words that wait apart from those of a RELOAD (R157). Commands complete in the order in which their terminators were
taken (design invariant 12, R152): a step leaves queue and EXECUTING slot as they are, adds a command at the tail, begins
the one at the head while no slot is EXECUTING, or ends the EXECUTING one when its completion word has been written;
only a RELOAD that begins or has waited for room (R153), an entry to RUNNING and a cold reset empty both. That a RELOAD's
words never wait is the model's choice (log 46). -/
def Obligations.StepKeepsQueueRingAndCommandOrder : Prop :=
  (∀ s t : State, s.QueueBounded → step s = .next t → t.QueueBounded)
    ∧ (∀ s t : State, s.SettingsInRange → s.RingInRange → step s = .next t → t.RingInRange)
    ∧ (∀ s t : State, s.OneExecuting → step s = .next t → t.OneExecuting)
    ∧ (∀ s t : State, s.WaitsOrdinary → step s = .next t → t.WaitsOrdinary)
    ∧ ∀ (s t : State) (c : Instr) (rest : List Instr), s.pending = c :: rest → step s = .next t →
      s.cmd.OrderKept t.cmd
      ∨ ((c = .reload ∨ c = .runningEntry ∨ c = .coldReset ∨ ∃ i, s.cmd.exec = some ⟨i, .reloading⟩)
        ∧ t.cmd.queue = [] ∧ t.cmd.exec = none)
      ∨ ∃ first e r w, c = .internalAccessComplete first ∧ s.cmd.exec = some e ∧ s.iq.head? = some r
        ∧ r.act = .completion e.slot w ∧ t.cmd.queue = s.cmd.queue ∧ t.cmd.exec = none

/-- Every step keeps scores within 0 to 1023, streaks within 0 to 255 and the counts of a zone within their ranges (design
invariant 1, R98), and at most 4 events open, each with at most one member per channel (design invariant 8, R82, R84). -/
def Obligations.StepKeepsZonesAndEventsInRange : Prop :=
  (∀ s t : State, s.ZonesInRange → step s = .next t → t.ZonesInRange)
    ∧ ∀ s t : State, s.EventsBounded → step s = .next t → t.EventsBounded

/-- With settings in range, every step keeps each envelope below 32767 and each floor within 0 to 32767, and every threshold
in use at 128 × (code + 1) to 32767 (design invariant 7, R56, R62, R78). The thresholds rest on the channels being quiet
while the Image Loader is at work (R34, R57), which every step keeps too. -/
def Obligations.StepKeepsChannelsAndThresholdsInRange : Prop :=
  (∀ s t : State, s.SettingsInRange → s.ChannelsInRange → step s = .next t → t.ChannelsInRange)
    ∧ ∀ s t : State, s.SettingsInRange → s.ThresholdsInUse → step s = .next t → t.ThresholdsInUse

/-- The stream position never decreases and stays within 48 bits; COLD_RESET sets it to 0 (design invariant 11, R32). -/
def Obligations.StreamPositionNeverDecreases : Prop :=
  ∀ s t : State, s.asm.position ≤ positionTop → step s = .next t →
    t.asm.position ≤ positionTop
      ∧ (s.pending.head? ≠ some .coldReset → s.asm.position ≤ t.asm.position)
      ∧ (s.pending.head? = some .coldReset → t.asm.position = 0)

/-- A CRACKED zone leaves that state only by RESET ZONE, MASK ZONE, MOULD CHANGE, the entry to RUNNING after a RELOAD, or a
cold reset (design invariant 9): from any state, if a step takes a zone out of CRACKED, the command is one of these or a MOULD
CHANGE is executing. -/
def Obligations.CrackedLeavesOnlyByCommand : Prop :=
  ∀ (s t : State) (c : Instr) (rest : List Instr) (z : Nat) (r : ZoneRecord),
    s.pending = c :: rest → s.zone.record? z = some r → r.state = .cracked → step s = .next t →
    (∀ r', t.zone.record? z = some r' → r'.state ≠ .cracked) →
    c = .resetZone ∨ c = .maskZone ∨ c = .mouldChange ∨ c = .runningEntry ∨ c = .coldReset ∨ s.mouldBusy = true

/-- EVERY BYTE OF SRAM that no command of this step stores to is unchanged: a command changes at most the four bytes of the
word to which the granted access writes, and a command that performs no access changes none (R1, R2, R7, R14). It covers
COLD_RESET, a power-on included, and says that the SRAM survives it but for the word of a write that had been granted. That is
the model's reading: the SRAM is outside the part and keeps what it held (log 33), and a write cut off by a cold reset changes
no byte outside its word (log 11). -/
def Obligations.SramChangesOnlyAtGrantedWrites : Prop :=
  ∀ (c : Instr) (s t : State), exec c s = .next t →
    ∀ a : Nat, (∀ m, storeAddress c s = some m → a < m - m % 4 ∨ m - m % 4 + 4 ≤ a) →
      Memory.read t.mem a = Memory.read s.mem a

/-! ## The configuration image -/

/-- SAVE CONFIGURATION's image and the image read agree: for every configuration in range, the image built from it is accepted
by a link that answers, gives back exactly that configuration, and clamps nothing (R156, R160, R164). The image has 1,024
bytes; 0 stands in bytes 944 to 1019, which belong to no field (R164), in the step words beyond the step count, and in every
byte of a profile slot with no stored profile (R156). -/
def Obligations.SavedImageReadsBack : Prop :=
  (∀ (c : ImageConfig) (status : Byte), c.InRange → status ≠ 0xFF → judgeRead status (buildImage c) = some (c, false))
    ∧ ∀ c : ImageConfig, c.InRange →
      let bs := buildImage c
      bs.length = 1024
        ∧ (∀ i : Nat, 944 ≤ i → i ≤ 1019 → bs[i]? = some 0)
        ∧ (∀ n k : Nat, c.program.length ≤ n → n < 12 → k < 4 → bs[64 + 4 * n + k]? = some 0)
        ∧ ∀ p k : Nat, c.profiles.length ≤ p → p < 4 → k < 202 → bs[136 + 202 * p + k]? = some 0

/-- An image read is judged by R160. It is rejected exactly if the link does not answer or one of the five checks
fails: markers, CRC, window table, orders, program. An image that passes gives every number at its nearest limit, an
unknown code at its default, and the profile slots that are not ignored with their masks trimmed, or else the default
profile; it shows CLAMPED exactly if a number was clamped or a code took its default. So whatever bytes the link
delivers, the configuration is in range (R3). What counts for CLAMPED beyond the rule's words is the model's reading
(log 17). -/
def Obligations.AcceptedImageIsInRange : Prop :=
  ∀ (status : Byte) (bs : List Byte),
    (¬ ImagePasses status bs → judgeRead status bs = none)
      ∧ (ImagePasses status bs → ∃ c clamped, judgeRead status bs = some (c, clamped)
        ∧ c.InRange ∧ ImageGives bs c ∧ (clamped = true ↔ ImageIsClamped bs))

/-- Gate step words and steps agree: a step that passes the checks of R43 is read back from its word; a word is refused
exactly when its wait kind is 2 or 3 or it is an EDGE step whose line is not 1 to 4; and an accepted word is the word of
its step, bits outside the fields apart (section 11.3). -/
def Obligations.GateStepWordsAgree : Prop :=
  (∀ g : GateStep, g.InRange → stepOfWord (wordOfStep g) = some g)
    ∧ ∀ w : Word,
      (stepOfWord w = none ↔ 2 ≤ fieldOf w 0 2 ∨ (fieldOf w 0 2 = 1 ∧ ¬ (1 ≤ fieldOf w 8 3 ∧ fieldOf w 8 3 ≤ 4)))
      ∧ ∀ g, stepOfWord w = some g → g.InRange ∧ wordOfStep g = w &&& 0x1F7F3

/-! ## Memory path -/

/-- The Memory-Side Arbiter's decision when the port is free (the table of R16; a bus-side access is held at a count of
64, R17), and no decision while it is not. What ends every command's work: outside STARTING exactly the status words
among 1, 3 to 16 and 20 to 29 whose value has changed are marked beside those marked already, in rising order, and the
Arbiter decides. Nothing else changes (R16, R141). That marks are found by comparison and that the decision falls at
the end of a command is the model's choice (log 24, log 31). Within a command that hands several changes on, the words
are marked after each of them in the same way. -/
def Obligations.ArbiterGrantsAndSettleMarks : Prop :=
  (∀ s : State,
    let grant (c : Claimant) : State := { s with path := { s.path with port := some c, lastGrant := c } }
    let n := s.iq.length
    (s.path.port ≠ none → s.arbitrate = s)
      ∧ (s.path.port = none →
        (n = 0 → s.path.bus = none → s.arbitrate = s)
        ∧ (n = 0 → s.path.bus ≠ none → s.arbitrate = grant .busSide)
        ∧ (0 < n → s.path.bus = none → s.arbitrate = grant .internal)
        ∧ (1 ≤ n → n ≤ 47 → s.path.bus ≠ none → s.arbitrate = grant .busSide)
        ∧ (48 ≤ n → n ≤ 63 → s.path.bus ≠ none → s.path.lastGrant = .busSide → s.arbitrate = grant .internal)
        ∧ (48 ≤ n → n ≤ 63 → s.path.bus ≠ none → s.path.lastGrant = .internal → s.arbitrate = grant .busSide)
        ∧ (64 ≤ n → s.path.bus ≠ none → s.arbitrate = grant .internal)))
    ∧ (∀ before after : State,
    let t := before.settle after
    let changed (w : Nat) : Prop :=
      (w = 1 ∨ (3 ≤ w ∧ w ≤ 16) ∨ (20 ≤ w ∧ w ≤ 29)) ∧ after.statusWord w ≠ before.statusWord w
    t = { after with path := after.arbitrate.path, status := { after.status with marks := t.status.marks } }
      ∧ (after.path.state = .starting → t.status.marks = after.status.marks)
      ∧ (after.path.state ≠ .starting →
        t.status.marks.Pairwise (· < ·)
          ∧ ∀ w, w ∈ t.status.marks ↔ (1 ≤ w ∧ w ≤ 61) ∧ (w ∈ after.status.marks ∨ changed w))
      ∧ after.noteChanges before = { after with status := { after.status with marks := t.status.marks } })

/-- A bus-side access received while none is in progress completes its receipt by the table of R4: translated through
the Slot Map (R5), translated through the capture table or answered (R6), answered or swallowed (R7), or forwarded;
writes to the sample window, the command window and status words 62 and 63 are snooped in RUNNING only. In STARTING
every access is forwarded (R11). While an access is in progress the bus master is held and nothing is received (R1). -/
def Obligations.BusAccessIsTreatedByWindow : Prop :=
  (∀ (s : State) (a : Addr) (op : BusOp), s.path.bus ≠ none → exec (.busAccess a op) s = .next (s.settle s))
    ∧ (∀ (s : State) (a : Addr) (op : BusOp), s.path.bus = none → s.path.state = .starting →
        exec (.busAccess a op) s = .next (s.settle (s.inProgress op a.toNat .other false)))
    ∧ ∀ (s : State) (t : WindowTable) (a : Addr) (op : BusOp),
      s.path.bus = none → s.path.state ≠ .starting → s.path.windows = some t → windowsOk t = true →
      let live := isWrite op && s.path.state == .running
      let at' := a.toNat
      let gives (u : State) : Prop := exec (.busAccess a op) s = .next (s.settle u)
      (∀ (l : Fin 32) (i : Fin 128), t.bs ≤ at' → at' < t.bs + 16384 → l.val = (at' - t.bs) / 512 →
          i.val = (at' - t.bs) % 512 / 4 →
          gives (s.inProgress op (t.bs + 512 * (s.cap.map[l]).val + (at' - t.bs) % 512) (.sample l s.cap.map[l] i) live))
        ∧ (t.bs + 16384 ≤ at' → at' < t.bs + 24576 → gives (s.replied (if isWrite op then .ack else .data 0xFFFFFFFF)))
        ∧ (t.be ≤ at' → at' < t.be + 24576 → isWrite op = true → gives (s.replied .ack))
        ∧ (∀ c : Fin 4, t.be ≤ at' → at' < t.be + 24576 → isWrite op = false → c.val = (at' - t.be) / 6144 →
          ((s.cap.table[c].state = .free ∨ s.cap.table[c].frames.length ≤ (at' - t.be) % 6144 / 512) →
            gives (s.replied (.data 0xFFFFFFFF)))
          ∧ (∀ q p, s.cap.table[c].state ≠ .free → s.cap.table[c].frames[(at' - t.be) % 6144 / 512]? = some (q, p) →
            gives (s.inProgress op (t.bs + 512 * p.val + (at' - t.be) % 512) .other false)))
        ∧ (∀ (i : Fin 8) (k : Fin 16), t.bc ≤ at' → at' < t.bc + 512 → i.val = (at' - t.bc) / 64 →
          k.val = (at' - t.bc) % 64 / 4 → gives (s.inProgress op at' (.command i k) live))
        ∧ (t.bt ≤ at' → at' < t.bt + 248 → gives (if isWrite op then s.replied .ack else s.inProgress op at' .other false))
        ∧ (t.bt + 248 ≤ at' → at' < t.bt + 252 → gives (s.inProgress op at' .noticeWord live))
        ∧ (t.bt + 252 ≤ at' → at' < t.bt + 256 → gives (s.inProgress op at' .consumerWord live))
        ∧ (t.br ≤ at' → at' < t.br + 128 * t.r →
          gives (if isWrite op then s.replied .ack else s.inProgress op at' .other false))
        ∧ ((at' < t.bs ∨ t.bs + 24576 ≤ at') → (at' < t.be ∨ t.be + 24576 ≤ at') → (at' < t.bc ∨ t.bc + 512 ≤ at') →
          (at' < t.bt ∨ t.bt + 256 ≤ at') → (at' < t.br ∨ t.br + 128 * t.r ≤ at') →
          gives (s.inProgress op at' .other false))

/-- A granted bus-side access that is not a snooped write completes: a read returns the word of four bytes, lane 0 lowest, and
changes nothing in SRAM; a write replaces exactly the bytes of its enabled lanes. In both the port is free (R1, R2, R163). A
granted snooped write of status word 62 completes: the copy takes the merged value, the mask level is taken, and the factor
field acts by the clear mode; in REPLACE a source factor that becomes pending sets a clear stop latch (R10, R146, R147,
R148). A granted snooped write of status word 63 completes: the copy takes the merged value, and a value below R becomes the
consumer index, at once or when the record being placed has been placed (R10, R138). -/
def Obligations.GrantedAccessesComplete : Prop :=
  (∀ (s : State) (b : BusAccess), s.path.port = some .busSide → s.path.bus = some b → b.snooped = false →
    (b.op = .read →
      exec .busAccessComplete s = .next (s.settle
        { s with path := { s.path with bus := none, port := none, reply := .data (bytesWord s.mem (b.memAddr - b.memAddr % 4)) } }))
      ∧ (∀ lanes w, b.op = .write lanes w → exec .busAccessComplete s = .next (s.settle (s.written b.memAddr lanes w))))
    ∧ (∀ (m : Memory) (a : Nat) (lanes : Lanes) (w : Word) (n : Fin 4), m.wf = true →
      Memory.read (Memory.writeWord m a lanes w) (a - a % 4 + n) =
        if lanes.getLsbD n then BitVec.ofNat 8 (fieldOf w (8 * n) 8) else Memory.read m (a - a % 4 + n))
    ∧ (∀ (old new : Word) (lanes : Lanes) (n : Fin 4),
      fieldOf (mergeLanes old new lanes) (8 * n) 8 = if lanes.getLsbD n then fieldOf new (8 * n) 8 else fieldOf old (8 * n) 8)
    ∧ (∀ (s : State) (m : Nat) (lanes : Lanes) (w : Word), s.Snoops .noticeWord m lanes w →
      let v := mergeLanes s.path.copy62 w lanes
      let field : Half := BitVec.ofNat 16 v.toNat
      let u := s.written m lanes w
      let level := fieldOf v 16 3
      let base (n : NoticeUnit) : State := { u with path := { u.path with copy62 := v }, notice := n }
      (s.notice.clearMode = .clearOnOne →
        exec .noticeControlWord s = .next (s.settle (base { s.notice with mask := level, pending := s.notice.pending &&& ~~~field })))
      ∧ (s.notice.clearMode = .replace → (field &&& ~~~s.notice.pending &&& s.notice.sources = 0 ∨ s.notice.latch = true) →
        exec .noticeControlWord s = .next (s.settle (base { s.notice with mask := level, pending := field })))
      ∧ (s.notice.clearMode = .replace → field &&& ~~~s.notice.pending &&& s.notice.sources ≠ 0 → s.notice.latch = false →
        exec .noticeControlWord s = .next (s.settle (base { s.notice with
          mask := level
          pending := field ||| 0x4000
          latch := true
          pulse := if s.notice.mode = .pulse then some s.clock else none }))))
    ∧ ∀ (s : State) (t : WindowTable) (m : Nat) (lanes : Lanes) (w : Word), s.Snoops .consumerWord m lanes w →
      s.path.windows = some t →
      let v := mergeLanes s.path.copy63 w lanes
      let u := s.written m lanes w
      let base (r : ReportWriter) : State := { u with path := { u.path with copy63 := v }, report := r }
      (t.r ≤ v.toNat → exec .consumerIndex s = .next (s.settle (base s.report)))
        ∧ (v.toNat < t.r → s.report.placing = none →
          exec .consumerIndex s = .next (s.settle (base { s.report with c := v.toNat })))
        ∧ (v.toNat < t.r → s.report.placing ≠ none →
          exec .consumerIndex s = .next (s.settle (base { s.report with pendingC := some v.toNat })))

/-- The access of the oldest internal entry completes: the entry leaves and the port is free; a write has all four
lanes; a completion word's write makes its slot DONE, raises COMMAND_DONE and lets the next command begin (R14, R152);
a table word joins the staging copy, and with the 196th entry the copy replaces the table in force and the stored one
of its type, or the command is refused (R155). A source named in `first` has its waiting requests placed before the
Arbiter decides (R17). The operand `first` is the model's choice (log 32), as is that a completion word which arises
here goes before a source that waits (log 54). -/
def Obligations.InternalAccessCompletes : Prop :=
  ∀ (s : State) (r : Request) (rest : List Request), s.path.port = some .internal → s.iq = r :: rest →
    let left : State := { s with iq := rest, path := { s.path with port := none } }
    let gives (u : State) : Prop :=
      exec (.internalAccessComplete none) s = .next (s.settle u)
        ∧ ∀ src, exec (.internalAccessComplete (some src)) s = .next (s.settle (u.pump src))
    (∀ w, r.act = .write w → gives { left with mem := Memory.writeWord s.mem r.addr 0xF w })
      ∧ (∀ i w, r.act = .completion i w →
        gives { left with
          mem := Memory.writeWord s.mem r.addr 0xF w
          notice := s.notice.raise 10 s.clock
          cmd := { s.cmd with
            slots := s.cmd.slots.set i { s.cmd.slots[i] with state := .done }
            exec := if s.cmd.exec.map (·.slot) = some i then none else s.cmd.exec } })
      ∧ (∀ i got, r.act = .tableRead → s.cmd.exec = some ⟨i, .loading got⟩ →
        let w := bytesWord s.mem (r.addr - r.addr % 4)
        let all := got ++ (List.range 4).map fun n => BitVec.ofNat 8 (fieldOf w (8 * n) 8)
        (all.length < 196 → gives { left with cmd := { s.cmd with exec := some ⟨i, .loading all⟩ } })
        ∧ (196 ≤ all.length → (∀ b ∈ all, b.toNat ≤ 23 ∨ b.toNat = 31) →
          gives ((left.modTable fun _ => tableOf fun n => all[n]?.getD 0).complete .done))
        ∧ (196 ≤ all.length → ¬ (∀ b ∈ all, b.toNat ≤ 23 ∨ b.toNat = 31) → gives (left.complete .refusedValue)))
      ∧ (r.act = .tableRead → (∀ i got, s.cmd.exec ≠ some ⟨i, .loading got⟩) → gives left)

/-- Waiting requests are placed in order as room allows, and no request is lost: the completion words, table reads, record
words and status words that fit are placed at the tail of the queue with the values they then have, and the others go
on waiting (R15). When the 32nd word of a record is placed, P and the record sequence advance, the gap count becomes 0
and a consumer index that waited takes effect, and the work that waited with the record goes on (R138, R139). A RELOAD that
remains EXECUTING while it waits for room goes on with the Command Unit's words (R15, R153). That all
requests that fit are placed in one step, and that the words of a RELOAD never wait, is the model's choice (log 32, log
46). -/
def Obligations.WaitingRequestsArePlacedInOrder : Prop :=
  ∀ s : State,
    let room := 64 - s.iq.length
    (s.WaitsOrdinary →
      let pumped : State := { s with
        iq := s.iq ++ (s.cmd.waits.take room).map fun x =>
          ⟨s.windows.bc + 64 * x.1.val, .completion x.1 (s.slotWordOf x.1 x.2)⟩
        cmd := { s.cmd with waits := s.cmd.waits.drop room } }
      ((∀ i, s.cmd.exec ≠ some ⟨i, .reloading⟩) →
        exec (.waitingRequestPlaced .commandUnit) s = .next (s.settle pumped))
      ∧ ((∃ i, s.cmd.exec = some ⟨i, .reloading⟩) →
        exec (.waitingRequestPlaced .commandUnit) s = .next (s.settle pumped.reloadOn)))
      ∧ exec (.waitingRequestPlaced .tableLoad) s = .next (s.settle { s with
        iq := s.iq ++ (s.cmd.loadWaits.take room).map fun a => ⟨a, .tableRead⟩
        cmd := { s.cmd with loadWaits := s.cmd.loadWaits.drop room } })
      ∧ (∀ pl, s.report.placing = some pl →
        let placed : State := { s with
          iq := s.iq ++ ((pl.words.take room).zipIdx.map fun x => ⟨pl.addr + 4 * x.2, .write x.1⟩) }
        (room < pl.words.length →
          exec (.waitingRequestPlaced .reportWriter) s = .next (s.settle { placed with
            report := { s.report with
              placing := some ⟨pl.kind, pl.addr + 4 * room, pl.words.drop room, pl.cont⟩ } }))
        ∧ (pl.words.length ≤ room →
          exec (.waitingRequestPlaced .reportWriter) s = .next (s.settle (State.runCont { placed with
            report := { s.report with
              p := (s.report.p + 1) % s.windows.r
              seq := s.report.seq + 1
              gap := 0
              c := s.report.pendingC.getD s.report.c
              pendingC := none
              placing := none } } pl.cont))))
      ∧ (∀ ws : List Nat, s.status.update = some (ws ++ [0]) → 0 ∉ ws →
        let word (w : Nat) : Request := ⟨s.windows.bt + 4 * w, .write (s.statusWord w)⟩
        (ws.length < room →
          exec (.waitingRequestPlaced .statusUpdate) s = .next (s.settle { s with
            iq := s.iq ++ ws.map word ++ [⟨s.windows.bt, .write (s.status.mirror + 1)⟩]
            status := { s.status with mirror := s.status.mirror + 1, update := none } }))
        ∧ (room ≤ ws.length →
          exec (.waitingRequestPlaced .statusUpdate) s = .next (s.settle { s with
            iq := s.iq ++ (ws.take room).map word
            status := { s.status with update := some (ws.drop room ++ [0]) } })))

/-! ## Sample frames -/

/-- A full-word write to word 0 starts an assembly in any slot: header fields, frame tag, cleared masks, and the tag
ASSEMBLING of its physical slot. An assembly in progress is TORN: charged to its own tag, pending lost incremented, its
slot DISTURBED (R20, R28). The frame tag is the cycle number and gate state as they stand or, at the instant of a
truncation and with the operand set, the old number with all gates closed (R50). A lost frame adds to the total, and to
the open account of its tag's cycle if its class is a listen class (R33). The premise on a waiting freeze and the
operand are the model's choice (log 19, log 41). -/
def Obligations.HeaderWriteStartsAssembly : Prop :=
  (∀ (s : State) (l : Fin 32) (p : Fin 48) (m : Nat) (w : Word) (later between : Bool) (tag : FrameTag),
    s.SnoopsSample l p 0 m 0xF w →
    (∀ n, between = true → s.gate.truncated = some (n, s.clock) → tag = ⟨n, closedGates⟩) →
    ((between = false ∨ ∀ n, s.gate.truncated ≠ some (n, s.clock)) → tag = ⟨s.gate.cycle, s.gate.gates⟩) →
    let u := s.written m 0xF w
    let fresh : Assembly :=
      { slot := l, phys := p, seq := BitVec.ofNat 16 (fieldOf w 0 16), valid := BitVec.ofNat 4 (fieldOf w 16 4),
        overload := w.getLsbD 20, buf := Vector.replicate 126 0, written := Vector.replicate 126 false, torn := false,
        tag := tag }
    (s.asm.assembly = none →
      exec (.sampleWrite ⟨later, between⟩) s = .next (s.settle { u with
        asm := { s.asm with assembly := some fresh, tags := s.asm.tags.set p .assembling } }))
    ∧ (∀ x, s.asm.assembly = some x →
      exec (.sampleWrite ⟨later, between⟩) s = .next (s.settle { u with
        asm := { s.asm.chargeLost x.tag 1 with
          assembly := some fresh
          pendingLost := min 65535 (s.asm.pendingLost + 1)
          tags := (s.asm.tags.set x.phys .disturbed).set p .assembling } })))
    ∧ ∀ (a : Assembler) (tag : FrameTag) (n : Nat),
      let listen := tag.gates.blank = false ∧ (tag.gates.a = true ∨ tag.gates.b = true ∨ tag.gates.c = true)
      (listen → a.chargeLost tag n = { a with
        lost := a.lost + BitVec.ofNat 32 n
        accounts := a.accounts.map fun x =>
          if x.cycle = tag.cycle then { x with lostListen := min 65535 (x.lostListen + n) } else x })
      ∧ (¬ listen → a.chargeLost tag n = { a with lost := a.lost + BitVec.ofNat 32 n })

/-- A full-word write to word 1 to 126 of the slot being assembled stores its data and marks the word written, whether or not
it was marked before, and has no other effect than the SRAM write of every sample write (R21). A partial sample write
anywhere sets the torn mark of the assembly in progress (R22), and a stray write, partial or full-word, leaves its
physical slot DISTURBED and counts in the running cycle's account (R23). A full-word header is never stray. Any sample write
is turned away while the freeze of a post-frame is still to be made for another slot: that is the model's choice (log 19), and
so is the premise that none is. -/
def Obligations.DataPartialAndStrayWrites : Prop :=
  (∀ (s : State) (x : Assembly) (p : Fin 48) (i : Fin 128) (j : Fin 126) (m : Nat) (w : Word) (later between : Bool),
    s.SnoopsSample x.slot p i m 0xF w → s.asm.assembly = some x → i.val = j.val + 1 →
    exec (.sampleWrite ⟨later, between⟩) s = .next (s.settle { s.written m 0xF w with
      asm := { s.asm with assembly := some { x with buf := x.buf.set j w, written := x.written.set j true } } }))
    ∧ ∀ (s : State) (l : Fin 32) (p : Fin 48) (i : Fin 128) (m : Nat) (lanes : Lanes) (w : Word) (later between : Bool),
    s.SnoopsSample l p i m lanes w → (lanes ≠ 0xF ∨ i ≠ 0) →
    let torn (a : Option Assembly) : Option Assembly :=
      if lanes = 0xF then a else a.map fun x => { x with torn := true }
    let counted (n : Word) : List Account :=
      s.asm.accounts.map fun x => if x.cycle = n then { x with strays := min 65535 (x.strays + 1) } else x
    let disturbed (accounts : List Account) : State :=
      { s.written m lanes w with
        asm := { s.asm with assembly := torn s.asm.assembly, tags := s.asm.tags.set p .disturbed, accounts := accounts } }
    let gives (u : State) : Prop := exec (.sampleWrite ⟨later, between⟩) s = .next (s.settle u)
    (∀ x, s.asm.assembly = some x → x.slot = l → lanes ≠ 0xF →
      gives { s.written m lanes w with asm := { s.asm with assembly := some { x with torn := true } } })
      ∧ ((∀ x, s.asm.assembly = some x → x.slot ≠ l) →
        (∀ r, s.gate.state = .inCycle r → gives (disturbed (counted r.summary.cycle)))
        ∧ ((∀ r, s.gate.state ≠ .inCycle r) → gives (disturbed s.asm.accounts)))
      ∧ ∀ (s : State) (l : Fin 32) (p : Fin 48) (i : Fin 128) (m : Nat) (lanes : Lanes) (w : Word) (moment : WriteMoment)
        (f : PostFreeze), s.Snoops (.sample l p i) m lanes w → s.cap.post = some f → f.phys ≠ p →
        exec (.sampleWrite moment) s = .next (s.settle s)

/-- The trailer of the slot being assembled (R24): the frame is complete if the low half repeats the sequence, the high
half is its complement, every data word is marked and the torn mark is clear; then its slot is COMPLETE, the latest
complete sequence moves (R124) and the sequence check follows; otherwise it is TORN. While a capture is OPEN the
complete frame is frozen for it first (R130), at once, or at a FREEZE row if the operand leaves the freeze for later
(R122; the operand is the model's choice, log 19). -/
def Obligations.TrailerClosesAssembly : Prop :=
  ∀ (s : State) (x : Assembly) (p : Fin 48) (m : Nat) (w : Word) (later between : Bool),
    s.SnoopsSample x.slot p 127 m 0xF w → s.asm.assembly = some x →
    let u := s.written m 0xF w
    let whole := fieldOf w 0 16 = x.seq.toNat ∧ fieldOf w 16 16 = 65535 - x.seq.toNat ∧ (∀ j : Fin 126, x.written[j] = true)
      ∧ x.torn = false
    let asm : Assembler := { s.asm with assembly := none, tags := s.asm.tags.set x.phys (.complete x.seq) }
    let complete (post : Option PostFreeze) : State := { u with asm := asm, cap := { s.cap with latest := some x.seq, post := post } }
    let gives (v : State) : Prop := exec (.sampleWrite ⟨later, between⟩) s = .next (s.settle v)
    (whole → (∀ c : Fin 4, s.cap.table[c].state ≠ .opened) → gives ((complete s.cap.post).sequenceCheck x))
      ∧ (whole → (∃ c : Fin 4, s.cap.table[c].state = .opened) →
        (later = true → gives ((complete (some ⟨x.slot, x.phys, x.seq⟩)).sequenceCheck x))
        ∧ (later = false → gives (((complete s.cap.post).freezePost x.slot x.seq).sequenceCheck x)))
      ∧ (¬ whole → gives { u with
        asm := { s.asm.chargeLost x.tag 1 with
          assembly := none
          pendingLost := min 65535 (s.asm.pendingLost + 1)
          tags := s.asm.tags.set x.phys .disturbed } })

/-- The sequence check of a complete frame (R25): in order, gap or STALE by the distance from the last accepted sequence;
and its joining the queue, or its overrun while 3 frames are queued, markers not counted (R26). The queued copy holds
the header fields, the tag, the missing count and the buffer. That the pending lost count returns to 0 at every frame
that joins is the model's reading (log 15). -/
def Obligations.SequenceCheckClassifiesFrames : Prop :=
  ∀ (s : State) (x : Assembly),
    let queued := (s.aq.entries.filterMap fun e => match e with
      | .frame f => some f
      | .marker _ => none).length
    let joins (m : Nat) (asm : Assembler) : State := { s with
      asm := { asm with lastAccepted := some x.seq, pendingLost := 0 }
      aq := { s.aq with entries := s.aq.entries ++
        [.frame { seq := x.seq, valid := x.valid, overload := x.overload, tag := x.tag, missing := m, data := x.buf }] } }
    let overrun : State := { s with
      asm := { s.asm.chargeLost x.tag 1 with pendingLost := min 65535 (s.asm.pendingLost + 1) } }
    (s.asm.lastAccepted = none → queued < 3 → s.sequenceCheck x = joins 0 s.asm)
      ∧ (s.asm.lastAccepted = none → 3 ≤ queued → s.sequenceCheck x = overrun)
      ∧ ∀ last, s.asm.lastAccepted = some last →
        let d := (x.seq.toNat + 65536 - last.toNat) % 65536
        (d = 1 → queued < 3 → s.sequenceCheck x = joins 0 s.asm)
        ∧ (2 ≤ d → d ≤ 32768 → queued < 3 →
          s.sequenceCheck x = (joins (d - 1) (s.asm.chargeLost x.tag (d - 1 - s.asm.pendingLost))).raise 11)
        ∧ (1 ≤ d → d ≤ 32768 → 3 ≤ queued → s.sequenceCheck x = overrun)
        ∧ ((d = 0 ∨ 32769 ≤ d) → s.sequenceCheck x = { s with asm := s.asm.chargeLost x.tag 1 })

/-! ## Press lines and the gate program -/

/-- At a 10 µs sample outside STARTING each conditioner filters its reading (R35); a change in the direction of the edge mode
is an edge event (R36), which is due until it is taken, and has no effect in STOPPED (R52). In STARTING only the model's
clock moves. LINE_SAMPLE samples the lines and takes the edge events that its order names, in that order, with the status
words that each changes marked before the next (R50, R141); with `more` it samples nothing and takes more edge events of the
instant, so that another happening of the instant can fall between two of them (R41, R44, R48). Before a new sample the
edge events still due are taken by number. The clock and the order operand are the model's choice (log 4, log 7). -/
def Obligations.LineSampleFiltersAndHandsEdges : Prop :=
  (∀ (s : State) (pins : Vector Bool 5) (lines : List (Fin 5)),
    exec (.lineSample pins ⟨false, lines⟩) s = .next (s.settle ((s.nextSample pins).takeEdges lines))
      ∧ exec (.lineSample pins ⟨true, lines⟩) s = .next (s.settle (s.takeEdges lines)))
    ∧ (∀ s : State, s.takeEdges [] = s ∧ ∀ (i : Fin 5) (rest : List (Fin 5)),
      (i ∉ s.gate.due → s.takeEdges (i :: rest) = s.takeEdges rest)
      ∧ (i ∈ s.gate.due → s.takeEdges (i :: rest) =
        ((State.edge { s with gate := { s.gate with due := s.gate.due.filter (· ≠ i) } } i).noteChanges s).takeEdges rest))
    ∧ ∀ (s : State) (pins : Vector Bool 5),
      let u := s.takeEdges [0, 1, 2, 3, 4]
      u.gate.due = [] ∧ u.lines = s.lines ∧ u.path = s.path ∧ u.clock = s.clock ∧ (s.gate.due = [] → u = s)
      ∧ (s.path.state = .starting → s.nextSample pins = { u with clock := s.clock + 1 })
      ∧ ∀ ls : Vector LineCond 5, s.path.state ≠ .starting →
        let reading (i : Fin 5) : Bool := if s.lines[i].settings.polarity = .inverted then !pins[i] else pins[i]
        let changes (i : Fin 5) : Bool :=
          reading i != s.lines[i].level && decide (s.lines[i].settings.filter ≤ s.lines[i].agree + 1)
        let edge (i : Fin 5) : Bool := changes i && match s.lines[i].settings.mode with
          | .rising => reading i
          | .falling => !reading i
          | .both => true
        (∀ i : Fin 5, ls[i].settings = s.lines[i].settings
          ∧ (reading i = s.lines[i].level → ls[i].level = s.lines[i].level ∧ ls[i].agree = 0)
          ∧ (changes i = true → ls[i].level = reading i ∧ ls[i].agree = 0)
          ∧ (reading i ≠ s.lines[i].level → changes i = false →
            ls[i].level = s.lines[i].level ∧ ls[i].agree = s.lines[i].agree + 1)) →
        s.nextSample pins = { u with
          clock := s.clock + 1
          lines := ls
          gate := { u.gate with due := if u.gate.state = .stopped then [] else [0, 1, 2, 3, 4].filter edge } }

/-- An edge event: a CYC edge starts a cycle from IDLE (R44), truncates and restarts IN_CYCLE (R50), and is not taken in
STOPPED (R52); an edge of lines 1 to 4 completes an EDGE step that waits on its line, and otherwise has no effect (R36,
R46). The note of the truncation, for a header of the same instant (R50), is the model's own (log 41). -/
def Obligations.EdgeEventsDriveTheCycle : Prop :=
  ∀ s : State,
    let starts (u : State) : State :=
      let n : Word := if u.gate.cycle = 0xFFFFFFFF then 1 else u.gate.cycle + 1
      { u with
        gate :=
          { state := .inCycle ⟨0, u.clock, u.clock, ⟨n, false, false, none, none⟩⟩
            gates := ⟨false, false, false, false⟩
            cycle := n
            active := if u.gate.staged = none then u.gate.active else u.gate.staged
            staged := none
            truncated := none
            due := u.gate.due }
        asm := { u.asm with accounts := u.asm.accounts ++ [⟨n, ⟨0, 0, 0, 0⟩, 0, 0, ⟨0, 0, 0, 0⟩, 0, 0⟩] }
        zone := { u.zone with started := u.zone.started || n == u.zone.firstCycle } }
    (s.gate.state = .stopped → s.edge 0 = s)
      ∧ (s.gate.state = .idle → s.edge 0 = starts s)
      ∧ (∀ r, s.gate.state = .inCycle r →
        let u := starts (s.endCycle .truncated s.clock)
        s.edge 0 = { u with gate := { u.gate with truncated := some (r.summary.cycle, s.clock) } })
      ∧ (∀ (i : Fin 5) r st, i ≠ 0 → s.gate.state = .inCycle r → (s.gate.active.getD [])[r.step]? = some st →
        (st.wait = .edge → st.line = i.val → s.edge i = s.stepDone r st s.clock)
        ∧ (¬ (st.wait = .edge ∧ st.line = i.val) → s.edge i = s))
      ∧ ∀ i : Fin 5, i ≠ 0 → (∀ r, s.gate.state ≠ .inCycle r) → s.edge i = s

/-- A DELAY step ends its wait when its ticks have passed (R45), and an EDGE step times out, which ends the cycle with
cause TIMEOUT (R46). A completed step sets LISTEN_OPENED if it opens a listen gate, and either applies its four gate
values and the next step begins, or ends the cycle with cause END, its values never applied (R48). The times are those
of the model's clock (log 5), and a deadline after the present sample instant does not come while an edge event is due (log
7). -/
def Obligations.StepWaitsEnd : Prop :=
  (∀ (s : State) r st, s.gate.state = .inCycle r → (s.gate.active.getD [])[r.step]? = some st →
    let t := r.stepStart + 10 * 2 ^ st.k
    let u : State := { s with clock := max s.clock (t - 1) }
    let comes := s.gate.due = [] ∨ t ≤ s.clock
    (st.wait = .delay → comes → exec .delayEnd s = .next (s.settle (u.stepDone r st t)))
      ∧ (st.wait = .edge → comes → exec .edgeTimeout s = .next (s.settle (u.endCycle .timeout t)))
      ∧ (¬ comes → exec .delayEnd s = .next (s.settle s) ∧ exec .edgeTimeout s = .next (s.settle s)))
    ∧ ∀ (s : State) (r : CycleRun) (st : GateStep) (t : Nat),
      let opened := r.summary.listenOpened || st.gates.a || st.gates.b || st.gates.c
      let r1 := { r with summary := { r.summary with listenOpened := opened } }
      (st.isEnd = false → r.step + 1 < (s.gate.active.getD []).length →
        s.stepDone r st t = { s with gate := { s.gate with
          state := .inCycle { r1 with step := r.step + 1, stepStart := t }
          gates := st.gates } })
      ∧ ((st.isEnd = true ∨ (s.gate.active.getD []).length ≤ r.step + 1) →
        s.stepDone r st t = State.endCycle { s with gate := { s.gate with state := .inCycle r1 } } .endStep t)

/-- A cycle end closes the gates, fixes the duration in whole ticks and leaves the Sequencer IDLE with its cycle number
(R49). The cycle end is handed over once: its marker goes directly behind the last queued frame that carries its
number, or to the head of the queue if only the frame under analysis carries it; with neither, the evaluation is due
at once (R31, R53). The account stays open until the evaluation has run (R33). -/
def Obligations.CycleEndIsHandedOver : Prop :=
  ∀ (s : State) (r : CycleRun) (cause : Cause) (t : Nat), s.gate.state = .inCycle r →
    let n := r.summary.cycle
    let m : CycleSummary := ⟨r.summary, cause, min 16777215 ((t - r.cycleStart) / 10)⟩
    let u : State := { s with gate := { s.gate with state := .idle, gates := ⟨false, false, false, false⟩ } }
    let carries (e : AQEntry) : Prop := ∃ f, e = .frame f ∧ f.tag.cycle = n
    (∀ pre f post, s.aq.entries = pre ++ .frame f :: post → f.tag.cycle = n → (∀ e ∈ post, ¬ carries e) →
      s.endCycle cause t = { u with aq := { s.aq with entries := pre ++ .frame f :: .marker m :: post } })
      ∧ (∀ w, (∀ e ∈ s.aq.entries, ¬ carries e) → s.aq.work = some w → w.frame.tag.cycle = n →
        s.endCycle cause t = { u with aq := { s.aq with entries := .marker m :: s.aq.entries } })
      ∧ ((∀ e ∈ s.aq.entries, ¬ carries e) → (∀ w, s.aq.work = some w → w.frame.tag.cycle ≠ n) →
        s.endCycle cause t = { u with zone := { s.zone with due := s.zone.due ++ [m] } })

/-- At a TACHO sample the running count advances by 10, saturating, and then the filter acts (R39). A measuring edge with
the reference present and no stall makes the count the last period and has it checked; every measuring edge starts the
timing afresh. A count that saturates while not stalled has its stall due before the filter; the stall makes the last
period 0, sets the stalled flag, makes the reference absent and is checked as a period of 0 (R40), its status words
marked before the filter (R141). That a TACHO sample
has no clock of its own is the model's choice (log 6). -/
def Obligations.TachoMeasuresAndStalls : Prop :=
  (∀ (s : State) (pin : Bool), s.path.state ≠ .starting → s.tacho.stallHeld = none →
    let reading := if s.tacho.settings.polarity = .inverted then !pin else pin
    let count := min 65535 (s.tacho.count + 10)
    let u (t : TachoCell) : State := { s with tacho := { t with count := count } }
    (count = 65535 → s.tacho.stalled = false →
      exec (.tachoSample pin) s = .next (s.settle (u { s.tacho with stallHeld := some reading })))
    ∧ ((count < 65535 ∨ s.tacho.stalled = true) →
      exec (.tachoSample pin) s = .next (s.settle ((u s.tacho).tachoFilter reading))))
    ∧ (∀ (s : State) (reading : Bool),
      (s.tacho.stallHeld = some reading →
        let stalled := State.bandCheck { s with tacho := { s.tacho with
          last := 0, stalled := true, reference := false, stallHeld := none } } 0
        exec .tachoStall s = .next (s.settle ((stalled.noteChanges s).tachoFilter reading)))
      ∧ (reading = s.tacho.level → s.tachoFilter reading = { s with tacho := { s.tacho with agree := 0 } })
      ∧ (reading ≠ s.tacho.level → s.tacho.agree + 1 < s.tacho.settings.filter →
        s.tachoFilter reading = { s with tacho := { s.tacho with agree := s.tacho.agree + 1 } })
      ∧ (reading ≠ s.tacho.level → s.tacho.settings.filter ≤ s.tacho.agree + 1 →
        let t := { s.tacho with level := reading, agree := 0 }
        let fresh := { t with reference := true, stalled := false, count := 0 }
        let measuring := reading = true ∧ s.tacho.settings.edge = .rising ∨ reading = false ∧ s.tacho.settings.edge = .falling
        (¬ measuring → s.tachoFilter reading = { s with tacho := t })
        ∧ (measuring → (s.tacho.reference = false ∨ s.tacho.stalled = true) → s.tachoFilter reading = { s with tacho := fresh })
        ∧ (measuring → s.tacho.reference = true → s.tacho.stalled = false →
          s.tachoFilter reading = State.bandCheck { s with tacho := { fresh with last := s.tacho.count } } s.tacho.count)))
    ∧ ∀ (s : State) (p : Nat),
      ((s.gate.gates.a = false ∧ s.gate.gates.b = false ∧ s.gate.gates.c = false) → s.bandCheck p = s)
      ∧ ∀ r, (s.gate.gates.a = true ∨ s.gate.gates.b = true ∨ s.gate.gates.c = true) → s.gate.state = .inCycle r →
        let off := p = 0 ∨ p < s.tacho.pmin ∨ s.tacho.pmax < p
        let lo := match r.summary.minPeriod with
          | none => p
          | some q => min p q
        let hi := match r.summary.maxPeriod with
          | none => p
          | some q => max p q
        let u (flag : Bool) : State := { s with gate := { s.gate with state := .inCycle { r with
          summary := { r.summary with minPeriod := some lo, maxPeriod := some hi, vibOff := flag } } } }
        (¬ off → s.bandCheck p = u r.summary.vibOff)
        ∧ (off → r.summary.vibOff = true → s.bandCheck p = u true)
        ∧ (off → r.summary.vibOff = false → s.bandCheck p = (u true).raise 12)

/-! ## Hit detection -/

/-- One channel's work at a sample set, in integers: the rectified value (R60), the envelope, its division rounding toward
minus infinity (R61), the start of a hit in IDLE (R63), the update of the hit record in ACTIVE (R64), and the counts
of HOLDOFF and LOCKOUT (R67, R68); and when a transition falls due (R65 to R68). At the start of an analysed frame
each channel's frame threshold comes from the floor of the frame's class (R62), and at its end a channel that was IDLE
at the first sample set and started no hit moves that floor toward the least envelope (R75, R76). The other floors are
kept (R74), and the new floor lies between the old floor and the least envelope. That whether a channel counts as IDLE for
its floor is fixed when the frame begins is the model's choice (log 42). -/
def Obligations.ChannelStepAndFloorArithmetic : Prop :=
  (∀ (d : DetSettings) (ch : Channel) (p : Nat) (x : BitVec 16) (seq : Half) (k : Cls) (n : Word),
    let a : Nat := if x.toInt = -32768 then 32767 else x.toInt.natAbs
    let clip : Bool := x.toInt = 32767 || x.toInt = -32768
    let e : Nat := ((ch.env : Int) + Int.fdiv ((a : Int) - ch.env) (2 ^ d.kEnv)).toNat
    let r := ch.step d p x seq k n
    let q : Nat := (a / 64) * (a / 64)
    (r.1.env = e ∧ r.1.prev = a ∧ r.1.frameTh = ch.frameTh ∧ r.1.floors = ch.floors ∧ r.1.minEnv = min ch.minEnv e)
      ∧ (ch.state = .idle →
        (ch.frameTh ≤ e → e ≤ a → r.2 = .started ∧ r.1.quiet = false
          ∧ r.1.state = .active ch.frameTh ⟨p, seq, k, n, a, 1, q, p, q, 0, clip⟩)
        ∧ ((e < ch.frameTh ∨ a < e) → r.2 = .quiet ∧ r.1.state = .idle ∧ r.1.quiet = ch.quiet))
      ∧ (∀ t h, ch.state = .active t h →
        let energy := min 0xFFFFFFFF (h.energy + q)
        let g : HitRecord := { h with
          peak := max h.peak a
          counts := if t ≤ a ∧ ch.prev < t then min 255 (h.counts + 1) else h.counts
          energy := energy
          lastAbove := if t ≤ e then p else h.lastAbove
          energyAtLast := if t ≤ e then energy else h.energyAtLast
          belowRun := if t ≤ e then 0 else h.belowRun + 1
          clipped := h.clipped || clip }
        r.1.state = .active t g
          ∧ (d.hdt ≤ g.belowRun → r.2 = .due .hitEnd)
          ∧ (g.belowRun < d.hdt → h.arrival + d.dMax - 1 ≤ p → r.2 = .due .longHit)
          ∧ (g.belowRun < d.hdt → p < h.arrival + d.dMax - 1 → r.2 = .quiet))
      ∧ (∀ t run, ch.state = .holdoff t run →
        let run1 := if e < t then run + 1 else 0
        r.1.state = .holdoff t run1 ∧ (d.hdt ≤ run1 → r.2 = .due .holdoffEnd) ∧ (run1 < d.hdt → r.2 = .quiet))
      ∧ ∀ c, ch.state = .lockout c →
        r.1.state = .lockout (c - 1) ∧ (c ≤ 1 → r.2 = .due .lockoutEnd) ∧ (1 < c → r.2 = .quiet))
    ∧ (∀ (d : DetSettings) (k : Cls) (ch : Channel),
    let n := ch.floors.get k
    let th := max (128 * (d.code + 1)) (n * d.f / 16)
    let fallen := n - (n - ch.minEnv) / 4
    let risen := n + (ch.minEnv - n) / 2 ^ d.kUp
    (ch.beginFrame d k = { ch with
        frameTh := if 32767 < th then 32767 else th, quiet := decide (ch.state = .idle), minEnv := 32767 })
      ∧ (ch.quiet = false → ch.endFrame d k = ch)
      ∧ (ch.quiet = true → ∃ f, ch.endFrame d k = { ch with floors := f }
        ∧ (∀ j, j ≠ k → f.get j = ch.floors.get j)
        ∧ (n < ch.minEnv → f.get k = risen ∧ n ≤ risen ∧ risen ≤ ch.minEnv)
        ∧ (ch.minEnv ≤ n → f.get k = fallen ∧ ch.minEnv ≤ fallen ∧ fallen ≤ n)))

/-- FRAME_TAKEN: with no frame under analysis, no evaluation and no completion check owed and nothing that holds the
analysis, the head frame leaves the queue and the pending settings become those in force, a latched threshold below
the new ladder value being raised (R29, R30, R55, R56, R81). Without a missing count, a frame that is not skipped
begins: every channel takes its frame threshold (R62), and the counts are left to the end of its analysis (log 39). A
skipped frame leaves every channel IDLE and the stream position as it was (R71). A missing count advances the position
by 63 for each missing frame, and leaves every channel IDLE before the frame goes on (R70). How a gap and a skip leave
one channel: an ACTIVE hit closes with GAP, ending at last-above with the energy there (R70), or is abandoned (R71);
HOLDOFF and LOCKOUT end without a hand-over; envelope, previous value and floors are kept. The class of a frame that is
not blanked follows from the gates of its tag in the order A, B, C, U (R28). What holds the analysis up is the model's
reading (log 26). -/
def Obligations.FrameTakenBeginsAnalysis : Prop :=
  (∀ (s : State) (f : QFrame) (rest : List AQEntry),
    s.aq.work = none → s.aq.entries = .frame f :: rest → s.evalOwed = false → s.checkBusy = false → s.analysisHeld = false →
    let d := s.det.pending.getD s.det.settings
    let e := s.ev.pending.getD s.ev.settings
    let raised (ch : Channel) : Channel :=
      if s.det.pending = none then ch else match ch.state with
        | .active t h => { ch with state := .active (max t (128 * (d.code + 1))) h }
        | .holdoff t r => { ch with state := .holdoff (max t (128 * (d.code + 1))) r }
        | _ => ch
    let skipped := f.overload = true ∨ f.tag.gates.blank = true
    (f.missing = 0 → ¬ skipped →
      let k := f.cls
      exec .frameTaken s = .next (s.settle { s with
        aq := ⟨rest, some ⟨f, .sets 0⟩⟩
        det := { settings := d, pending := none, chans := s.det.chans.map fun ch => (raised ch).beginFrame d k }
        ev := { s.ev with settings := e, pending := none } }))
      ∧ (f.missing = 0 → skipped → ∃ t, exec .frameTaken s = .next t
        ∧ t.aq.entries = rest ∧ t.asm = s.asm ∧ t.zone = s.zone ∧ t.cap = s.cap ∧ t.report = s.report ∧ t.mem = s.mem
        ∧ t.det.settings = d ∧ t.det.pending = none ∧ t.ev.settings = e ∧ t.ev.pending = none
        ∧ ∀ c : Fin 4, t.det.chans[c] = { s.det.chans[c] with state := .idle })
      ∧ (0 < f.missing → ∃ t, exec .frameTaken s = .next t
        ∧ t.aq.entries = rest ∧ t.asm.position = min positionTop (s.asm.position + 63 * f.missing)
        ∧ t.zone = s.zone ∧ t.cap = s.cap ∧ t.report = s.report ∧ t.mem = s.mem
        ∧ t.det.settings = d ∧ t.det.pending = none ∧ t.ev.settings = e ∧ t.ev.pending = none
        ∧ ∀ c : Fin 4, t.det.chans[c].state = .idle ∧ t.det.chans[c].env = s.det.chans[c].env
          ∧ t.det.chans[c].prev = s.det.chans[c].prev ∧ t.det.chans[c].floors = s.det.chans[c].floors))
    ∧ (∀ (s : State) (c : Fin 4),
    let idle : State := s.withChan c { s.det.chans[c] with state := .idle }
    (∀ t h, s.det.chans[c].state = .active t h →
      s.gapChannel c = idle.endMember c (.closed
        ⟨h.arrival, h.lastAbove, h.lastAbove - h.arrival + 1, h.peak, h.counts, h.energyAtLast, false, h.clipped, true⟩)
      ∧ s.abandonChannel c = idle.endMember c .abandoned)
      ∧ ((∀ t h, s.det.chans[c].state ≠ .active t h) → s.gapChannel c = idle ∧ s.abandonChannel c = idle))
    ∧ ∀ f : QFrame,
      let g := f.tag.gates
      g.blank = false →
        (g.a = true → f.cls = .a)
        ∧ (g.a = false → g.b = true → f.cls = .b)
        ∧ (g.a = false → g.b = false → g.c = true → f.cls = .c)
        ∧ (g.a = false → g.b = false → g.c = false → f.cls = .u)

/-- SAMPLE_SET at sample set `n` of the frame under analysis (R58). When every channel's step is quiet, each has taken
its step, the stream position has advanced by 1 (R32), and the frame stands before its next set, at the window's end if
the position has reached it (R86), or at its end. When a transition falls due on channel `c` and the channels before it
were quiet, the set stops there with the later channels untouched and the position unchanged. A hit start is handed to
the Event Builder at the position of the set (R59). In general the channels take their steps one after the other in
channel order, from state to state: a hit start is handed over before the next channel's step, so that of two of one set
the lower channel's comes first (R59, R82), and a transition that falls due stops the set until its row has come; after
it the later channels follow. The sample that a channel takes is 0 if its bit in the valid mask is clear (R30, R58,
R60); otherwise it is a halfword of the sample set's two words, words 1 + 2n and 2 + 2n of the frame: channels 0 and 1
are the low and the high half of the first, channels 2 and 3 those of the second (R18). Word i of the frame stands at
index i - 1 of the queued data. -/
def Obligations.SampleSetStepsTheChannels : Prop :=
  (∀ (s : State) (f : QFrame) (n : Nat), s.Analyses f (.sets n) → s.checkBusy = false →
    let out (c : Fin 4) := (s.chanStep f n c).2
    let stepped (upTo : Nat) : State := { s with det := { s.det with
      chans := Vector.ofFn fun c => if c.val < upTo then (s.chanStep f n c).1 else s.det.chans[c] } }
    ((∀ c, out c = .quiet) → exec .sampleSet s = .next (s.settle ((stepped 4).endSet f n)))
      ∧ (∀ c what, (∀ b : Fin 4, b < c → out b = .quiet) → out c = .due what →
        exec .sampleSet s = .next (s.settle { stepped (c.val + 1) with aq := { s.aq with work := some ⟨f, .due n c what⟩ } }))
      ∧ (∀ c, out c = .started → (∀ b, b ≠ c → out b = .quiet) →
        exec .sampleSet s = .next (s.settle
          (((stepped 4).hitStart c s.asm.position f.seq f.cls f.tag.cycle).endSet f n)))
      ∧ (∀ u : State, u.aq.work = some ⟨f, .sets n⟩ →
        let moved : State := { u with asm := { u.asm with position := min positionTop (u.asm.position + 1) } }
        let passed := ∃ e, u.ev.collecting? = some e ∧ e.windowEnd ≤ u.asm.position
        (passed → u.endSet f n = { moved with aq := { u.aq with work := some ⟨f, .window n⟩ } })
        ∧ (¬ passed → n < 62 → u.endSet f n = { moved with aq := { u.aq with work := some ⟨f, .sets (n + 1)⟩ } })
        ∧ (¬ passed → 62 ≤ n → u.endSet f n = moved.endFrame f))
      ∧ exec .sampleSet s = .next (s.settle (State.runChannels f n [0, 1, 2, 3] s))
      ∧ (∀ (u : State) (c : Fin 4), u.runAfter f n c = State.runChannels f n ([0, 1, 2, 3].filter (c < ·)) u)
      ∧ ∀ (u : State) (ph : Phase), u.aq.work = some ⟨f, ph⟩ →
        State.runChannels f n [] u = u.endSet f n
        ∧ ∀ (c : Fin 4) (later : List (Fin 4)),
          let r := u.chanStep f n c
          let v := u.withChan c r.1
          (r.2 = .quiet → State.runChannels f n (c :: later) u = State.runChannels f n later v)
          ∧ (r.2 = .started → State.runChannels f n (c :: later) u =
            State.runChannels f n later (v.hitStart c u.asm.position f.seq f.cls f.tag.cycle))
          ∧ ∀ what, r.2 = .due what → State.runChannels f n (c :: later) u =
            { v with aq := { u.aq with work := some ⟨f, .due n c what⟩ } })
    ∧ ∀ (f : QFrame) (n : Fin 63) (c : Fin 4),
      (f.valid.getLsbD c = false → f.sample n c = 0)
      ∧ (f.valid.getLsbD c = true →
        (f.sample n c).toNat = fieldOf (f.data[2 * n.val + c.val / 2]'(by omega)) (16 * (c.val % 2)) 16)

/-- The transitions of a channel within a sample set: a hit end closes the hit at last-above and enters LOCKOUT, or IDLE
if L is 0 (R65); a LONG hit closes at its position and enters HOLDOFF with run 0, keeping the latched threshold (R66); a
hold-off end enters LOCKOUT or IDLE (R67); a lockout end enters IDLE (R68). Then the later channels of the set follow. A
passed window stops the collecting event, and the frame goes on (R86). -/
def Obligations.ChannelTransitions : Prop :=
  ∀ (s : State) (f : QFrame) (n : Nat) (c : Fin 4),
    let moved (st : ChanState) : State := s.withChan c { s.det.chans[c] with state := st }
    let locked : ChanState := if s.det.settings.lockout = 0 then .idle else .lockout s.det.settings.lockout
    let p := s.asm.position
    (∀ t h, s.Analyses f (.due n c .hitEnd) → s.det.chans[c].state = .active t h →
      exec (.hitEnd c) s = .next (s.settle (((moved locked).endMember c (.closed
        ⟨h.arrival, h.lastAbove, h.lastAbove - h.arrival + 1, h.peak, h.counts, h.energyAtLast, false, h.clipped, false⟩)).runAfter
          f n c)))
      ∧ (∀ t h, s.Analyses f (.due n c .longHit) → s.det.chans[c].state = .active t h →
        exec (.longHit c) s = .next (s.settle (((moved (.holdoff t 0)).endMember c (.closed
          ⟨h.arrival, p, p - h.arrival + 1, h.peak, h.counts, h.energy, true, h.clipped, false⟩)).runAfter f n c)))
      ∧ (s.Analyses f (.due n c .holdoffEnd) → exec (.holdoffEnd c) s = .next (s.settle ((moved locked).runAfter f n c)))
      ∧ (s.Analyses f (.due n c .lockoutEnd) → exec (.lockoutEnd c) s = .next (s.settle ((moved .idle).runAfter f n c)))
      ∧ (s.Analyses f (.window n) →
        exec .windowPassed s = .next (s.settle (State.afterSet { s with ev := { s.ev with
          openEvents := s.ev.openEvents.map fun e => { e with collecting := false } } } f n)))

/-! ## Events -/

/-- A hit start joins the collecting event on a channel it does not have (R82), counts as its secondary on one it has
(R83), opens an event while fewer than 4 are open, with the fields of R84, or becomes an orphan, counted in its cycle's
open account (R84). A hit's end reaches the event of which the channel is a member and leaves the assignment NONE; any
other end is discarded (R85). -/
def Obligations.HitsAreGroupedIntoEvents : Prop :=
  (∀ (s : State) (c : Fin 4) (t : Nat) (q : Half) (k : Cls) (n : Word),
    let assigned (evs : List OpenEvent) (a : Assign) : State :=
      { s with ev := { s.ev with openEvents := evs, assign := s.ev.assign.set c a } }
    (∀ pre e post, s.ev.openEvents = pre ++ e :: post → (∀ x ∈ pre, x.collecting = false) → e.collecting = true →
      ((∀ m ∈ e.members, m.ch ≠ c) → s.hitStart c t q k n =
        assigned (pre ++ { e with members := e.members ++ [⟨c, t, .running⟩] } :: post) (.member e.id))
      ∧ ((∃ m ∈ e.members, m.ch = c) → s.hitStart c t q k n =
        assigned (pre ++ { e with secondary := min 15 (e.secondary + 1) } :: post) (.secondary e.id)))
    ∧ ((∀ x ∈ s.ev.openEvents, x.collecting = false) → s.ev.openEvents.length < 4 →
      s.hitStart c t q k n = { s with ev := { s.ev with
        openEvents := s.ev.openEvents ++
          [⟨s.ev.nextId, t, t + s.ev.settings.w, true, k, n, q, [⟨c, t, .running⟩], 0, .stays⟩]
        nextId := s.ev.nextId + 1
        assign := s.ev.assign.set c (.member s.ev.nextId) } })
    ∧ ((∀ x ∈ s.ev.openEvents, x.collecting = false) → 4 ≤ s.ev.openEvents.length →
      s.hitStart c t q k n = { s with
        ev := { s.ev with assign := s.ev.assign.set c .orphan }
        asm := { s.asm with accounts := s.asm.accounts.map fun x =>
          if x.cycle = n then { x with orphans := min 65535 (x.orphans + 1) } else x } }))
    ∧ ∀ (s : State) (c : Fin 4) (st : MemberState),
      (∀ id, s.ev.assign[c] = .member id →
        s.endMember c st = { s with ev := { s.ev with
          openEvents := s.ev.openEvents.map fun e =>
            if e.id = id then { e with members := e.members.map fun m => if m.ch = c then { m with state := st } else m } else e
          assign := s.ev.assign.set c .none } })
      ∧ ((∀ id, s.ev.assign[c] ≠ .member id) →
        s.endMember c st = { s with ev := { s.ev with assign := s.ev.assign.set c .none } })

/-- The location of an event (R90 to R92): members by arrival, ties by channel; one member looks up its single row, two or
more the pair row of the first two at the bucket of their delay; a value below the zone count is the zone. The weight
of an event (R94): gain of the class plus slope times the octaves above the floor, at most 63, with the octave of the
largest peak; 0 in class U and in each case of R94. The octave is the position of the highest set bit (R69). -/
def Obligations.EventsAreLocatedAndWeighed : Prop :=
  ((∀ ms : List Member, (locationOrder ms).Perm ms
    ∧ (locationOrder ms).Pairwise fun m n => m.arrival < n.arrival ∨ (m.arrival = n.arrival ∧ m.ch ≤ n.ch))
    ∧ ∀ (p : Profile),
      let entry (i : Nat) : Option Nat :=
        let v := ((p.table.toList[i]?).getD 0).toNat
        if v < p.zoneCount then some v else none
      locate p [] = none
        ∧ (∀ m, locate p [m] = entry (192 + m.ch.val))
        ∧ ∀ m n rest,
          let row := if n.ch < m.ch then 3 * m.ch.val + n.ch.val else 3 * m.ch.val + n.ch.val - 1
          m.ch ≠ n.ch → locate p (m :: n :: rest) = entry (16 * row + min 15 ((n.arrival - m.arrival) / 2 ^ p.q)))
    ∧ ((∀ (e : EventSettings) (k : Cls) (oct : Nat) (zero : Bool),
    let g : Nat := match k with
      | .a => e.gA
      | .b => e.gB
      | .c => e.gC
      | .u => 0
    ((k = .u ∨ zero = true) → weightOf e k oct zero = 0)
      ∧ (k ≠ .u → zero = false → weightOf e k oct zero = min 63 (g + e.slope * (if e.octFloor ≤ oct then oct - e.octFloor else 0)))
      ∧ weightOf e k oct zero ≤ 63)
    ∧ (∀ peak, 0 < peak → 2 ^ octave peak ≤ peak ∧ peak < 2 ^ (octave peak + 1))
    ∧ ∀ (f : Features) (fs : List Features) (free : Nat), ∃ g ∈ f :: fs,
      octaveOf (f :: fs) free = octave g.peak ∧ ∀ h ∈ f :: fs, h.peak ≤ g.peak)

/-- EVENT_COMPLETE: the next event that is due to complete leaves the open list and is counted (R89); it is located and
weighed (R90 to R94), handed to the Zone Table, which answers whether its zone is MASKED (R101, R102), and, if it
triggers (R96), waits for the Capture Unit's answer; otherwise its EVENT record is handed over with the work of item 5
(R95). An abandoned event keeps its CLOSED members only, and the RUNNING ones lose their assignments; it has weight 0 and
is counted in no event count (R88). With no CLOSED member the octave is a free value (log 13), and a counter of free
values advances. That a completion waits for an evaluation, and which members an event in the usual way is located from,
is the model's choice (log 14, log 26), and so is that the oldest open account, which takes the count of a LATE event, is
the one opened first (log 40). -/
def Obligations.EventCompletesInOrder : Prop :=
  ∀ (s : State) (p : Profile) (e : OpenEvent),
    s.ev.completion = none → s.evalBusy = false → s.outputWaits = false → s.ev.profile = some p → s.ev.nextDue = some e →
    let gone : Bool := e.fate == .abandons
    let closed (m : Member) : Bool := match m.state with
      | .closed _ => true
      | _ => false
    let ms := if gone then e.members.filter closed else e.members
    let fs := ms.filterMap Member.features?
    let zone := locate p (locationOrder ms)
    let oct := octaveOf fs s.free
    let w := weightOf s.ev.settings e.cls oct (gone || zone.isNone || fs.any (·.long))
    let late := e.cycle ≠ 0 ∧ ∀ a ∈ s.asm.accounts, a.cycle ≠ e.cycle
    let bump (v : Nat) : Nat := min 65535 (v + 1)
    let accounts : List Account :=
      if gone then s.asm.accounts
      else match decide late, s.asm.accounts with
      | true, a :: rest => { a with late := bump a.late } :: rest
      | true, [] => []
      | false, as => as.map fun a => if a.cycle = e.cycle then { a with events := a.events.mod e.cls bump } else a
    let dropped (c : Fin 4) : Bool := gone && e.members.any fun m => m.ch == c && m.state == .running
    let s1 : State := { s with
      ev := { s.ev with
        openEvents := s.ev.openEvents.filter fun x => x.id ≠ e.id
        assign := Vector.ofFn fun c => if dropped c then .none else s.ev.assign[c] }
      asm := { s.asm with accounts := accounts }
      free := if fs = [] then s.free + 1 else s.free }
    let s2 := s1.receiveEvent zone w e.cycle oct gone
    let z := zone.getD 31
    let c : Completion :=
      { event := { e with members := ms }, abandoned := gone, late := decide late, located := zone.isSome, zone := z,
        weight := w, masked := s1.answersMasked zone e.cycle, capture := none, stage := .record }
    let triggers := (0 < s.ev.settings.wCap ∧ s.ev.settings.wCap ≤ w)
      ∨ (s.ev.settings.suspect = true ∧ 0 < w ∧ ∃ r, s2.zone.record? z = some r ∧ (r.state = .suspect ∨ r.state = .cracked))
    (triggers → exec .eventComplete s = .next (s.settle { s2 with ev := { s2.ev with completion := some { c with
        stage := .trigger ⟨e.id, z, e.cycle, e.trigSeq, s.ev.settings.pre, s.ev.settings.post⟩ } } }))
      ∧ (¬ triggers → exec .eventComplete s = .next (s.settle { s2 with
        ev := { s2.ev with completion := some c }
        report := { s2.report with handed := s2.report.handed ++ [eventRecord c] } }))
      ∧ (gone = true → w = 0)

/-- Which events a completion check picks, and how the frame goes on (R86 to R88). A check picks to complete every event
that is not collecting and whose members have all ended; at a skipped frame and at MOULD CHANGE the remaining ones are
picked to be abandoned; the events picked come in list order, the abandoned ones last. At the gap step the window of the
collecting event has passed if the advanced position exceeds its end. At the end of an analysed frame it is counted in
its class and in the total (R30, R33; the moment is the model's choice, log 39), the floors are updated, and the check
follows; with nothing picked the frame is done. After a gap step, or a skip with open events, the completions come first,
and when the last one has ended the frame goes on from where it stood, or MOULD CHANGE does (R117), also while a status
block update waits for room, which is the model's choice (log 62). -/
def Obligations.CompletionChecksPickEvents : Prop :=
  (∀ b : EventBuilder,
    let ready (e : OpenEvent) : Bool := !e.collecting && e.members.all fun m => m.state != .running
    (b.check = { b with openEvents := b.openEvents.map fun e => { e with fate := if ready e then .completes else .stays } })
      ∧ (b.settleAll = { b with openEvents := b.openEvents.map fun e => { e with fate := if ready e then .completes else .abandons } })
      ∧ (∀ q, (∃ e, b.collecting? = some e ∧ e.windowEnd < q) →
        b.gapPosition q = { b with openEvents := b.openEvents.map fun e => { e with collecting := false } })
      ∧ (∀ q, (∀ e, b.collecting? = some e → q ≤ e.windowEnd) → b.gapPosition q = b)
      ∧ (∀ pre e post, b.openEvents = pre ++ e :: post →
        ((∀ x ∈ pre, x.fate ≠ .completes) → e.fate = .completes → b.nextDue = some e)
        ∧ ((∀ x ∈ b.openEvents, x.fate ≠ .completes) → (∀ x ∈ pre, x.fate ≠ .abandons) → e.fate = .abandons → b.nextDue = some e))
      ∧ ((∀ x ∈ b.openEvents, x.fate = .stays) → b.nextDue = none))
    ∧ (∀ (s : State) (f : QFrame) (ph : Phase), s.aq.work = some ⟨f, ph⟩ → s.ev.completion = none →
      let picked (b : EventBuilder) : Prop := ∃ e ∈ b.openEvents, e.fate ≠ .stays
      let at' (u : State) (work : Option FrameWork) : State := { u with aq := { u.aq with work := work } }
      let k := f.cls
      let ended : State := { s with
        asm := { s.asm with
          analysed := s.asm.analysed + 1
          accounts := s.asm.accounts.map fun x =>
            if x.cycle = f.tag.cycle then { x with analysed := x.analysed.mod k fun v => min 65535 (v + 1) } else x }
        det := { s.det with chans := s.det.chans.map (Channel.endFrame s.det.settings k) }
        ev := s.ev.check }
      let skipped : State :=
        let u := (List.finRange 4).foldl State.abandonChannel s
        { u with ev := u.ev.settleAll }
      (picked s.ev.check → s.endFrame f = at' ended (some ⟨f, .check⟩))
        ∧ (¬ picked s.ev.check → s.endFrame f = at' ended none)
        ∧ (f.overload = true ∨ f.tag.gates.blank = true →
          (s.ev.openEvents ≠ [] → s.skipOrAnalyse f = at' skipped (some ⟨f, .skip⟩))
          ∧ (s.ev.openEvents = [] → s.skipOrAnalyse f = at' skipped none))
        ∧ ((∀ x ∈ s.ev.openEvents, x.fate = .stays) → (∀ i p n, s.cmd.exec ≠ some ⟨i, .mould p n .events⟩) →
          (ph = .gap → s.afterCompletion = s.skipOrAnalyse f)
          ∧ (ph = .skip ∨ ph = .check → s.afterCompletion = at' s none)
          ∧ (ph.inSets = true → s.afterCompletion = s)))
    ∧ (∀ s : State, ((∃ e ∈ s.ev.openEvents, e.fate ≠ .stays) ∨ s.ev.completion ≠ none → s.afterCompletion = s)
      ∧ ((∀ x ∈ s.ev.openEvents, x.fate = .stays) → s.ev.completion = none →
        ∀ i p n, s.cmd.exec = some ⟨i, .mould p n .events⟩ → s.afterCompletion = s.mouldHandRecord p n))
    ∧ ∀ (s : State) (f : QFrame) (rest : List AQEntry), s.aq.work = none → s.aq.entries = .frame f :: rest →
      s.evalOwed = false → s.checkBusy = false → s.analysisHeld = false → 0 < f.missing →
      let taken := State.applyPending { s with aq := ⟨rest, some ⟨f, .gap⟩⟩ }
      let moved : State := { taken with asm := { s.asm with position := min positionTop (s.asm.position + 63 * f.missing) } }
      let closed := (List.finRange 4).foldl State.gapChannel moved
      let gap : State := { closed with ev := (closed.ev.gapPosition closed.asm.position).check }
      ((∃ e ∈ gap.ev.openEvents, e.fate ≠ .stays) → exec .frameTaken s = .next (s.settle gap))
        ∧ ((∀ e ∈ gap.ev.openEvents, e.fate = .stays) → exec .frameTaken s = .next (s.settle (gap.skipOrAnalyse f)))

/-- The body words and flags of the six record kinds (section 11.5). EVENT: the event's own fields, its flags, and
three words for each CLOSED member in location order (R97), with every bit outside the fields 0 (R163). CYCLE: the
account, the summary, the changed zones, and the flags BLIND and VIB_OFF_BAND (R110). ZONE_CHANGE (R109). CAPTURE, with
the flag TRUNCATED (R133). MOULD: the outgoing serial, type and zones, the high bits of their hits apart (R118).
ZONE_DETAIL (R116). The capture id 0 without CAPTURED is the model's choice (log 18). -/
def Obligations.RecordLayouts : Prop :=
  (∀ c : Completion,
    let ms := (locationOrder c.event.members).filterMap fun m => match m.state with
      | .closed f => some (m, f)
      | _ => none
    let r := eventRecord c
    let w (i : Nat) : Word := (r.body[i]?).getD 0
    r.kind = .event ∧ r.kind.code = 1 ∧ r.body.length = 3 + 3 * ms.length ∧ r.cont = .eventDone
      ∧ (c.weight ≤ 63 → c.zone ≤ 31 →
        fieldOf (w 0) 0 16 = c.event.id.toNat ∧ fieldOf (w 0) 16 6 = c.weight ∧ fieldOf (w 0) 22 2 = c.event.cls.code
        ∧ fieldOf (w 0) 24 5 = c.zone)
      ∧ (ms.length ≤ 4 → c.event.secondary ≤ 15 → fieldOf (w 1) 0 3 = ms.length ∧ fieldOf (w 1) 4 4 = c.event.secondary
        ∧ fieldOf (w 1) 8 2 = (c.capture.map (·.val)).getD 0 ∧ fieldOf (w 1) 16 16 = fieldOf c.event.cycle 0 16)
      ∧ w 2 = BitVec.ofNat 32 c.event.t1
      ∧ fieldOf (w 0) 29 3 = 0 ∧ fieldOf (w 1) 3 1 = 0 ∧ fieldOf (w 1) 10 6 = 0 ∧ r.flags < 256
      ∧ (∀ i, i < ms.length → fieldOf (w (3 + 3 * i)) 5 3 = 0 ∧ fieldOf (w (4 + 3 * i)) 28 4 = 0)
      ∧ r.flags.testBit 0 = c.late ∧ r.flags.testBit 1 = ms.any (·.2.gap) ∧ r.flags.testBit 2 = ms.any (·.2.long)
      ∧ r.flags.testBit 3 = ms.any (·.2.clipped) ∧ r.flags.testBit 4 = c.capture.isSome ∧ r.flags.testBit 5 = !c.located
      ∧ r.flags.testBit 6 = c.masked ∧ r.flags.testBit 7 = c.abandoned
      ∧ ∀ (i : Nat) (m : Member) (f : Features), ms[i]? = some (m, f) →
        f.peak ≤ 32767 → f.dur ≤ 4095 → f.counts ≤ 255 → m.arrival - c.event.t1 ≤ 4095 → 0 < f.peak →
        fieldOf (w (3 + 3 * i)) 0 2 = m.ch.val ∧ (w (3 + 3 * i)).getLsbD 2 = f.long ∧ (w (3 + 3 * i)).getLsbD 3 = f.clipped
        ∧ (w (3 + 3 * i)).getLsbD 4 = f.gap ∧ fieldOf (w (3 + 3 * i)) 8 4 = octave f.peak
        ∧ fieldOf (w (3 + 3 * i)) 12 12 = m.arrival - c.event.t1 ∧ fieldOf (w (3 + 3 * i)) 24 8 = f.counts
        ∧ fieldOf (w (4 + 3 * i)) 0 16 = f.peak ∧ fieldOf (w (4 + 3 * i)) 16 12 = f.dur
        ∧ w (5 + 3 * i) = BitVec.ofNat 32 f.energy)
    ∧ (∀ e : EvalWork,
      let r := cycleRecord e
      let a := e.account
      let m := e.summary
      let cause : Nat := match m.cause with
        | .endStep => 0 | .timeout => 1 | .truncated => 2 | .mould => 3 | .reload => 4
      let pair (x y : Nat) : Word := BitVec.ofNat 32 (x % 65536 + 65536 * (y % 65536))
      let period (p : Option Nat) : Nat := match p with
        | some v => v
        | none => 0xFFFF
      r.kind.code = 2 ∧ r.cont = .evalDone
        ∧ r.flags = (if e.blind = true then 1 else 0) + (if m.run.vibOff = true then 2 else 0)
        ∧ r.body = [m.run.cycle, BitVec.ofNat 32 (cause + 256 * (e.changed % 32)), BitVec.ofNat 32 m.duration,
            pair a.analysed.a a.analysed.b, pair a.analysed.c a.analysed.u, pair a.lostListen a.strays,
            pair a.events.a a.events.b, pair a.events.c a.events.u, pair a.late a.orphans,
            pair (period m.run.minPeriod) (period m.run.maxPeriod)])
    ∧ (∀ (c : Fin 4) (e : Capture),
      let r := captureRecord c e
      let id (i : Nat) : Nat := match e.triggers[i]? with
        | some x => x.toNat
        | none => 0
      r.kind.code = 4 ∧ r.cont = .nothing ∧ r.flags = (if e.truncated = true then 1 else 0) ∧ r.body.length = 5
        ∧ r.body[0]? = some (BitVec.ofNat 32 (c.val + 16 * (e.triggers.length % 8) + 256 * (e.frames.length % 16)
            + 4096 * (e.missed % 16) + 65536 * (e.zone % 32) + 16777216 * (e.extra % 256)))
        ∧ (e.frames = [] → r.body[1]? = some 0)
        ∧ (∀ f mid l, (e.frames = f :: (mid ++ [l]) ∨ (e.frames = [f] ∧ mid = [] ∧ l = f)) →
          r.body[1]? = some (BitVec.ofNat 32 (f.1.toNat + 65536 * l.1.toNat)))
        ∧ r.body[2]? = some e.cycle
        ∧ r.body[3]? = some (BitVec.ofNat 32 (id 0 + 65536 * id 1))
        ∧ r.body[4]? = some (BitVec.ofNat 32 (id 2 + 65536 * id 3)))
    ∧ (let code : ZoneState → Nat := fun x => match x with
        | .clear => 0 | .watch => 1 | .suspect => 2 | .cracked => 3 | .masked => 4
      (∀ (z : Nat) (old new : ZoneState) (score streak : Nat) (n : Word) (k : Cont),
        let r := zoneChangeRecord z old new score streak n k
        r.kind.code = 3 ∧ r.flags = 0 ∧ r.cont = k
          ∧ r.body = [BitVec.ofNat 32 (z % 32 + 256 * code old + 4096 * code new + 65536 * (streak % 256)),
              BitVec.ofNat 32 (score % 1024), n])
      ∧ (∀ (z : Nat) (x : ZoneRecord) (k : Cont),
        let r := zoneDetailRecord z x k
        r.kind.code = 6 ∧ r.flags = 0 ∧ r.cont = k
          ∧ r.body = [BitVec.ofNat 32 (z % 32 + 256 * code x.state + 65536 * (x.streak % 256)),
              BitVec.ofNat 32 (x.score % 1024 + 65536 * (x.hitsCycle % 256)),
              BitVec.ofNat 32 (x.totalHits % 65536 + 65536 * (x.maskedHits % 65536)),
              (match x.lastHit with
                | some n => n
                | none => 0),
              BitVec.ofNat 32 ((match x.peakOctave with
                | some o => o
                | none => 0) % 16)])
      ∧ ∀ s : State,
        let r := s.mouldRecord
        let w (i : Nat) : Word := (r.body[i]?).getD 0
        r.kind.code = 5 ∧ r.flags = 0 ∧ r.cont = .mouldPut ∧ r.body.length = 30 ∧ w 0 = s.zone.serial ∧ w 1 = s.gate.cycle
          ∧ (∀ j : Fin 4, fieldOf (w (2 + j)) 30 2 = s.zone.mouldType / 4 ^ (3 - j.val) % 4)
          ∧ (∀ z : Fin 24,
            (s.zone.record? z = none → fieldOf (w (2 + z.val / 6)) (5 * (z.val % 6)) 5 = 0 ∧ w (6 + z.val) = 7)
            ∧ ∀ x, s.zone.record? z = some x →
              fieldOf (w (2 + z.val / 6)) (5 * (z.val % 6)) 5 = x.totalHits / 2048 % 32
              ∧ w (6 + z.val) = BitVec.ofNat 32 (code x.state + 8 * (x.score % 1024) + 8192 * (x.streak % 256)
                  + 2097152 * (x.totalHits % 2048))))

/-! ## Zone evidence -/

/-- A cycle is outgoing when it is 0, when no cycle of the mould has started, or when counting forward from the mould's
first cycle, wrapping from FFFFFFFFH to 1, reaches the running number before it (R101). A located event of weight above
0 that is neither outgoing nor abandoned changes its zone's record whole: an unmasked zone as R101 gives, a MASKED one
in masked_hits only (R102). Any other event changes nothing. The answer is MASKED exactly for an event that is not
outgoing in a MASKED zone. -/
def Obligations.EvidenceReachesTheZone : Prop :=
  (∀ (s : State) (n : Word), s.zone.firstCycle ≠ 0 → s.gate.cycle ≠ 0 → n ≠ 0 →
    let count (i : Nat) : Word := (List.range i).foldl (fun x _ => if x = 0xFFFFFFFF then 1 else x + 1) s.zone.firstCycle
    (s.outgoing n = true ↔ s.zone.started = false ∨ ∃ j, count j = s.gate.cycle ∧ ∀ i ≤ j, count i ≠ n))
    ∧ (∀ s : State, s.outgoing 0 = true)
    ∧ ∀ (s : State) (zone : Option Nat) (w : Nat) (n : Word) (oct : Nat) (abandoned : Bool),
      let t := s.receiveEvent zone w n oct abandoned
      (s.answersMasked zone n = true ↔
        s.outgoing n = false ∧ ∃ z r, zone = some z ∧ s.zone.record? z = some r ∧ r.state = .masked)
      ∧ ((s.outgoing n = true ∨ abandoned = true ∨ w = 0 ∨ zone.bind s.zone.record? = none) → t = s)
      ∧ ∀ z r, zone = some z → s.zone.record? z = some r → s.outgoing n = false → abandoned = false → 0 < w →
        t = { s with zone := { s.zone with records := t.zone.records } }
        ∧ (∀ y, y ≠ z → t.zone.record? y = s.zone.record? y)
        ∧ (r.state = .masked → t.zone.record? z = some { r with maskedHits := min 65535 (r.maskedHits + 1) })
        ∧ (r.state ≠ .masked → t.zone.record? z = some { r with
            score := min 1023 (r.score + w)
            hitsCycle := min 255 (r.hitsCycle + 1)
            totalHits := min 65535 (r.totalHits + 1)
            lastHit := some n
            peakOctave := some (match r.peakOctave with
              | none => oct
              | some o => max o oct) })

/-- The arithmetic of the cycle-end evaluation on one zone: when a cycle is BLIND (R105), the streak and score (R106),
the target and the step of the state (R107, R108). -/
def Obligations.ZoneEvaluationArithmetic : Prop :=
  ∀ (p : Policy) (a : Account) (m : RunSummary) (r : ZoneRecord) (blind : Bool),
    (blindCycle p a m = true ↔ p.blindLimit < a.lostListen ∨ (m.vibOff = true ∧ p.offBlind = true)
      ∨ (m.listenOpened = true ∧ a.analysed.a = 0 ∧ a.analysed.b = 0 ∧ a.analysed.c = 0))
    ∧ (0 < r.hitsCycle → r.updated p blind = { r with
        streak := min 255 (r.streak + 1)
        score := if 2 ≤ min 255 (r.streak + 1) then min 1023 (r.score + p.b) else r.score })
    ∧ (r.hitsCycle = 0 → blind = false → r.updated p blind = { r with
        streak := 0, score := if p.d ≤ r.score then r.score - p.d else 0 })
    ∧ (r.hitsCycle = 0 → blind = true → r.updated p blind = r)
    ∧ (p.tWatch < p.tSuspect → p.tSuspect < p.tCrack →
      (p.tCrack ≤ r.score ∧ p.n ≤ r.streak → r.target p = .cracked)
      ∧ (p.tSuspect ≤ r.score ∧ ¬ (p.tCrack ≤ r.score ∧ p.n ≤ r.streak) → r.target p = .suspect)
      ∧ (p.tWatch ≤ r.score ∧ r.score < p.tSuspect → r.target p = .watch)
      ∧ (r.score < p.tWatch → r.target p = .clear))
    ∧ (r.state = .cracked → r.judged p = .cracked)
    ∧ (r.state = .clear → r.judged p = r.target p)
    ∧ (r.state = .watch →
      ((r.target p = .suspect ∨ r.target p = .cracked) → r.judged p = r.target p)
      ∧ (r.target p = .watch → r.judged p = .watch)
      ∧ (r.target p = .clear → r.judged p = if r.score < p.tWatch - p.h then .clear else .watch))
    ∧ (r.state = .suspect →
      (r.target p = .cracked → r.judged p = .cracked)
      ∧ (r.target p = .suspect → r.judged p = .suspect)
      ∧ ((r.target p = .watch ∨ r.target p = .clear) →
        r.judged p = if r.score < p.tSuspect - p.h then r.target p else .suspect))

/-- CYCLE_END_EVALUATION begins the evaluation that is due at once, or that of the marker at the head of the queue (R29,
R31, R104); that the one due at once goes first, and that either can begin while the record of a zone command is held
(log 53) or an output waits for room (log 60), is the model's choice (log 52). An evaluation in progress is not
interrupted. It receives the account of its cycle as it stands, every count 0 if none is open (R33, R52), and keeps the
policy then in force to its end (R104). A stale evaluation takes no zone and hands over its CYCLE record (R111).
Otherwise every present zone that is not MASKED is taken from zone 0 upward: while no state changes, each record is
brought up to date with hits_cycle cleared, and the CYCLE record is handed over at the end (R110); the first zone whose
state changes hands over its ZONE_CHANGE record, and the zones above it wait (R109). The work that waited with a record
of an evaluation: after a ZONE_CHANGE record a rise raises the factor of the state entered, hits_cycle is cleared and
the change counted, and the zones above follow (R109); after the CYCLE record the CYCLE batch counter is served,
BLIND_CYCLE and CYCLE_FAULT are raised by R110, the account closes, and the evaluation ends. That the account is
received at the begin and closes at the end is the model's choice between R33 and R110 (log 25), and that the counter
words are marked at the begin its choice too (log 51). After an EVENT record the EVENT batch counter is served and the
completion ends (R95), also while a status block update waits for room (the model's choice, log 62). -/
def Obligations.CycleEndEvaluationTakesZones : Prop :=
  ((∀ s : State, s.zone.eval ≠ none → exec .cycleEndEvaluation s = .next (s.settle s))
    ∧ (∀ (s : State) m rest, s.zone.eval = none → s.mouldPast = false → s.zone.due = m :: rest →
      exec .cycleEndEvaluation s = .next (s.settle (State.beginEval { s with zone := { s.zone with due := rest } } m)))
    ∧ (∀ (s : State) m rest, s.zone.eval = none → s.mouldBusy = false → s.zone.due = [] →
      s.aq.work = none → s.checkBusy = false → s.aq.entries = .marker m :: rest →
      exec .cycleEndEvaluation s = .next (s.settle (State.beginEval { s with aq := { s.aq with entries := rest } } m)))
    ∧ (∀ (s : State) (e : EvalWork) (z : Nat), s.zone.eval = some e →
      s.evalFrom z = State.evalZones e.policy e.blind e.summary.run.cycle ((List.range 24).drop z) s)
    ∧ ∀ (s : State) (m : CycleSummary),
      let t := s.beginEval m
      let p := s.zone.policy
      let a := (s.asm.accounts.find? fun x => x.cycle == m.run.cycle).getD (emptyAccount m.run.cycle)
      let blind := blindCycle p a m.run
      let work (stale : Bool) : EvalWork := ⟨a, m, p, blind, stale, 0⟩
      let taken (r : ZoneRecord) : Prop := r.state ≠ .masked
      let steady (r : ZoneRecord) : Prop := (r.updated p blind).judged p = r.state
      let done (r : ZoneRecord) : ZoneRecord := if r.state = .masked then r else { r.updated p blind with hitsCycle := 0 }
      t = { s with zone := t.zone, status := { s.status with marks := t.status.marks }, report := t.report }
      ∧ (∀ w, w ∈ t.status.marks ↔ (1 ≤ w ∧ w ≤ 61) ∧ (w ∈ s.status.marks ∨ w = 17 ∨ w = 18 ∨ w = 19))
      ∧ (s.outgoing m.run.cycle = true →
        t.zone = { s.zone with eval := some (work true) }
        ∧ t.report = { s.report with handed := s.report.handed ++ [cycleRecord (work true)] })
      ∧ (s.outgoing m.run.cycle = false → (∀ z r, s.zone.record? z = some r → taken r → steady r) →
        t.zone = { s.zone with eval := some (work false), records := t.zone.records }
        ∧ (∀ z, t.zone.record? z = (s.zone.record? z).map done)
        ∧ t.report = { s.report with handed := s.report.handed ++ [cycleRecord (work false)] })
      ∧ ∀ z r, s.outgoing m.run.cycle = false → s.zone.record? z = some r → taken r → ¬ steady r →
        (∀ y q, y < z → s.zone.record? y = some q → taken q → steady q) →
        let u := r.updated p blind
        let new := u.judged p
        t.zone = { s.zone with eval := some (work false), records := t.zone.records }
        ∧ (∀ y, y < z → t.zone.record? y = (s.zone.record? y).map done)
        ∧ t.zone.record? z = some { u with state := new }
        ∧ (∀ y, z < y → t.zone.record? y = s.zone.record? y)
        ∧ t.report = { s.report with handed := s.report.handed ++
            [zoneChangeRecord z r.state new u.score u.streak m.run.cycle (.evalZone z (r.state.rank < new.rank))] })
    ∧ ((∀ (s : State) (z : Nat) (r : ZoneRecord) (e : EvalWork) (rose : Bool),
    s.zone.record? z = some r → s.zone.eval = some e →
    let cleared (u : State) : State := State.evalFrom { u with zone := { s.zone with
      records := vmod s.zone.records z fun _ => some { r with hitsCycle := 0 }
      eval := some { e with changed := e.changed + 1 } } } (z + 1)
    (rose = true → r.state = .watch → s.runCont (.evalZone z rose) = cleared (s.raise 1))
      ∧ (rose = true → r.state = .suspect → s.runCont (.evalZone z rose) = cleared (s.raise 2))
      ∧ (rose = true → r.state = .cracked → s.runCont (.evalZone z rose) = cleared (s.raise 3))
      ∧ (rose = false → s.runCont (.evalZone z rose) = cleared s))
    ∧ (∀ (s : State) (e : EvalWork), s.zone.eval = some e → s.mouldBusy = false →
      let served := s.serveBatch .cycle
      let s2 := if e.blind = true then served.raise 5 else served
      let s3 := if e.summary.cause = .timeout ∨ e.summary.cause = .truncated then s2.raise 6 else s2
      s.runCont .evalDone = { s3 with
        zone := { s.zone with eval := none }
        asm := { s.asm with accounts := s.asm.accounts.filter fun x => x.cycle ≠ e.summary.run.cycle } })
    ∧ ∀ s : State,
      s.runCont .eventDone = State.afterCompletion { s.serveBatch .event with ev := { s.ev with completion := none } })

/-! ## Evidence capture -/

/-- CAPTURE_TRIGGER, when no CAPTURE record waits (R133): with a capture OPEN the trigger joins it (R131); with none
OPEN and none FREE it is refused and CAPTURE_REFUSED raised (R125); otherwise the lowest FREE entry is set up and the
oldest wanted frame is taken. While its run is in progress the command takes the next wanted frame, by the tags as they
then stand (R127), unless the freeze of that frame waits (R122). The wanted frames are a run of at most 12 sequences
from the pre-frames to the newest complete frame (R126). In each case the answer goes into the EVENT record that the
completion then hands over (R95, R96). That the answer is given at once is the model's reading (log 34), and that the
entry stays FREE until its state is decided (log 43), that each command takes one frame of a run (log 58) and that an
output that waits for room does not hold it up (log 62) its choice. -/
def Obligations.CaptureTriggerIsTaken : Prop :=
  (∀ (s : State) (x : Completion) (t : Trigger),
    s.cap.run = none → s.recordOutstanding .capture = false → s.ev.completion = some x → x.stage = .trigger t →
    let answer (u : State) (id : Option (Fin 4)) : State :=
      { u with
        ev := { u.ev with completion := some { x with capture := id, stage := .record } }
        report := { u.report with handed := u.report.handed ++ [eventRecord { x with capture := id, stage := .record }] } }
    (∀ c : Fin 4, s.cap.table[c].state = .opened → (∀ b : Fin 4, b < c → s.cap.table[b].state ≠ .opened) →
      let e := s.cap.table[c]
      let e1 := if e.triggers.length < 4 then { e with triggers := e.triggers ++ [t.id] }
        else { e with extra := min 255 (e.extra + 1) }
      exec .captureTrigger s = .next (s.settle (answer { s with cap := { s.cap with
        table := s.cap.table.set c { e1 with remaining := max e.remaining (min t.post (12 - e.frames.length)) } } } (some c))))
    ∧ ((∀ c : Fin 4, s.cap.table[c].state = .held) → exec .captureTrigger s = .next (s.settle (answer (s.raise 9) none)))
    ∧ ∀ c : Fin 4, (∀ b : Fin 4, s.cap.table[b].state ≠ .opened) → s.cap.table[c].state = .free →
      (∀ b : Fin 4, b < c → s.cap.table[b].state ≠ .free) →
      let r := State.takeWanted c t.post (wantedFrames t s.cap.latest) { s with cap := { s.cap with
        table := s.cap.table.set c ⟨.free, [t.id], 0, t.zone, t.cycle, [], 0, 0, false⟩ } }
      (r.2 = true → exec .captureTrigger s = .next (s.settle (answer r.1 (some c))))
        ∧ (r.2 = false → exec .captureTrigger s = .next (s.settle r.1)))
    ∧ (∀ (s : State) (r : CaptureRun), s.cap.run = some r →
      let x := State.takeWanted r.cap r.post r.wanted { s with cap := { s.cap with run := none } }
      (r.waits ≠ none → exec .captureTrigger s = .next (s.settle s))
        ∧ (r.waits = none → x.2 = true → exec .captureTrigger s = .next (s.settle (x.1.answerTrigger (some r.cap))))
        ∧ (r.waits = none → x.2 = false → exec .captureTrigger s = .next (s.settle x.1)))
    ∧ (∀ (s : State) (x : Completion) (t : Trigger) (c : Fin 4), s.ev.completion = some x → x.stage = .trigger t →
      s.answerTrigger (some c) = { s with
        ev := { s.ev with completion := some { x with capture := some c, stage := .record } }
        report := { s.report with
          handed := s.report.handed ++ [eventRecord { x with capture := some c, stage := .record }] } })
    ∧ ∀ (t : Trigger) (latest : Option Half),
      let first := (t.seq.toNat + 65536 - t.pre) % 65536
      let last := match latest with
        | some l => if 32767 < (l.toNat + 65536 - t.seq.toNat) % 65536 then t.seq.toNat else l.toNat
        | none => t.seq.toNat
      t.pre ≤ 5 →
      (wantedFrames t latest).length = min 12 ((last + 65536 - first) % 65536 + 1)
        ∧ ∀ i (q : Half), (wantedFrames t latest)[i]? = some q → q.toNat = (first + i) % 65536

/-- The wanted frames of a run are taken one at a time, oldest first (R127): a sequence that no mapped slot holds
COMPLETE is missed; a frame found while no spare is left makes the capture HELD and TRUNCATED at once (R128); a frame
whose slot has an access in progress waits (R122); any other is frozen. With frames still wanted the run goes on later,
and after the last one the state is decided (R129). To freeze takes the head spare into the map and appends the slot to
the frame list (R122). An access to a slot is in progress exactly when the bus-side access in progress is a
sample-window access that was translated to it (R122). A capture that becomes HELD hands over its record and raises
CAPTURE_DONE (R133). That CAPTURE_DONE is raised at the hand-over is the model's reading (log 34), and that the run
stands still after each frame until the next command the form it chose (log 58). -/
def Obligations.WantedFramesAreFrozen : Prop :=
  (∀ (s : State) (c : Fin 4) (post : Nat) (w : Half) (ws : List Half),
    let e := s.cap.table[c]
    let entry (x : Capture) : State := { s with cap := { s.cap with table := s.cap.table.set c x } }
    let held (trunc : Bool) : State :=
      let x : Capture := { e with state := .held, truncated := e.truncated || trunc }
      State.raise { entry x with report := { s.report with handed := s.report.handed ++ [captureRecord c x] } } 8
    let holds (l : Fin 32) : Prop := s.asm.tags[s.cap.map[l]] = .complete w
    let goesOn (u : State) (r : State × Bool) : Prop :=
      (ws = [] → r = (u.decideCapture c post, true))
        ∧ (ws ≠ [] → r = ({ u with cap := { u.cap with run := some ⟨c, ws, post, none⟩ } }, false))
    ((∀ l, ¬ holds l) → goesOn (entry { e with missed := e.missed + 1 }) (State.takeWanted c post (w :: ws) s))
      ∧ (∀ l, holds l → (∀ k, k < l → ¬ holds k) →
        (s.cap.spare = [] → State.takeWanted c post (w :: ws) s = (held true, true))
        ∧ (s.cap.spare ≠ [] → s.accessTo s.cap.map[l] = true →
          State.takeWanted c post (w :: ws) s =
            ({ s with cap := { s.cap with run := some ⟨c, w :: ws, post, some (l, s.cap.map[l])⟩ } }, false))
        ∧ ∀ q rest, s.cap.spare = q :: rest → s.accessTo s.cap.map[l] = false →
          goesOn { s with cap := { s.cap with
              map := s.cap.map.set l q
              spare := rest
              table := s.cap.table.set c { e with frames := e.frames ++ [(w, s.cap.map[l])] } } }
            (State.takeWanted c post (w :: ws) s))
      ∧ ((post = 0 ∨ 12 ≤ e.frames.length) → s.decideCapture c post = held false)
      ∧ (0 < post → e.frames.length < 12 → s.cap.spare = [] → s.decideCapture c post = held true)
      ∧ (0 < post → e.frames.length < 12 → s.cap.spare ≠ [] →
        s.decideCapture c post = entry { e with state := .opened, remaining := min post (12 - e.frames.length) }))
    ∧ ∀ (s : State) (p : Fin 48), s.accessTo p = true ↔ ∃ b l i, s.path.bus = some b ∧ b.place = .sample l p i

/-- FREEZE makes or gives up a freeze that had to wait, once no access to its slot is in progress (R122): a post-frame
still COMPLETE is frozen for the OPEN capture, and given up if a write has changed its tag (R130); a waiting frame of a
trigger's run is frozen or counted as missed, and the run goes on, or its state is decided after the last frame (R127,
R129). With no freeze that waits nothing happens. After a post-frame's freeze remaining decrements, and the capture
becomes HELD at remaining 0 or 12 frames, or HELD and TRUNCATED with no spare left (R130); with no spare to begin with
it becomes HELD and TRUNCATED and nothing is frozen. An access to a slot is in progress exactly when the bus-side access
in progress is a sample-window access that was translated to it (R122). A MOULD CHANGE that waits for the freeze of a
post-frame goes on once it has been made or given up: an OPEN capture closes, and the command completes (R134; that it waits
is the model's reading, log 20). That a post-frame's freeze can stand unmade is the model's choice (log 19), and that the run
then stands still until CAPTURE_TRIGGER takes its next frame the form it chose (log 58). That an output that waits for room
does not hold up a freeze is its choice too (log 62). -/
def Obligations.WaitingFreezesAreMade : Prop :=
  (∀ (s : State) (f : PostFreeze), s.cap.post = some f →
    let u : State := { s with cap := { s.cap with post := none } }
    let kept := s.asm.tags[f.phys] = .complete f.seq ∧ s.cap.map[f.slot] = f.phys
    (s.accessTo f.phys = true → exec .freeze s = .next (s.settle s))
      ∧ (s.accessTo f.phys = false → kept →
        exec .freeze s = .next (s.settle (u.freezePost f.slot f.seq).mouldAfterFreeze))
      ∧ (s.accessTo f.phys = false → ¬ kept → exec .freeze s = .next (s.settle u.mouldAfterFreeze)))
    ∧ (∀ s : State,
      ((∃ i p serial, s.cmd.exec = some ⟨i, .mould p serial .capture⟩) →
        s.mouldAfterFreeze = s.closeOpenCapture.complete .done)
      ∧ ((∀ i p serial, s.cmd.exec ≠ some ⟨i, .mould p serial .capture⟩) → s.mouldAfterFreeze = s))
    ∧ (∀ (s : State) (p : Fin 48), s.accessTo p = true ↔ ∃ b l i, s.path.bus = some b ∧ b.place = .sample l p i)
    ∧ (∀ s : State, s.cap.post = none → (∀ r, s.cap.run = some r → r.waits = none) → exec .freeze s = .next (s.settle s))
    ∧ (∀ (s : State) (r : CaptureRun) (l : Fin 32) (p : Fin 48) (w : Half) (ws : List Half),
      s.cap.post = none → s.cap.run = some r → r.waits = some (l, p) → r.wanted = w :: ws →
      let u : State := { s with cap := { s.cap with run := none } }
      let kept := s.asm.tags[p] = .complete w ∧ s.cap.map[l] = p
      let goesOn (v : State) : Prop :=
        (ws = [] → exec .freeze s = .next (s.settle ((v.decideCapture r.cap r.post).answerTrigger (some r.cap))))
          ∧ (ws ≠ [] →
            exec .freeze s = .next (s.settle { v with cap := { v.cap with run := some ⟨r.cap, ws, r.post, none⟩ } }))
      (s.accessTo p = true → exec .freeze s = .next (s.settle s))
        ∧ (s.accessTo p = false → ¬ kept → goesOn (u.missFrame r.cap))
        ∧ (s.accessTo p = false → kept → s.cap.spare ≠ [] → goesOn (u.freezeSlot r.cap l w))
        ∧ (s.accessTo p = false → kept → s.cap.spare = [] →
          exec .freeze s = .next (s.settle ((u.holdCapture r.cap true).answerTrigger (some r.cap)))))
    ∧ (∀ (s : State) (c : Fin 4) (l : Fin 32) (seq : Half), s.OpenCapture c → s.cap.spare = [] →
      s.freezePost l seq = s.holdCapture c true)
    ∧ (∀ (s : State) (l : Fin 32) (seq : Half), (∀ c : Fin 4, s.cap.table[c].state ≠ .opened) → s.freezePost l seq = s)
    ∧ ∀ (s : State) (c : Fin 4) (l : Fin 32) (seq : Half) (q : Fin 48) (rest : List (Fin 48)),
      s.OpenCapture c → s.cap.spare = q :: rest →
      let e := s.cap.table[c]
      let e1 : Capture := { e with frames := e.frames ++ [(seq, s.cap.map[l])], remaining := e.remaining - 1 }
      let frozen : State := { s with cap := { s.cap with
        map := s.cap.map.set l q, spare := rest, table := s.cap.table.set c e1 } }
      ((e1.remaining = 0 ∨ 12 ≤ e1.frames.length) → s.freezePost l seq = frozen.holdCapture c false)
        ∧ (0 < e1.remaining → e1.frames.length < 12 → rest = [] → s.freezePost l seq = frozen.holdCapture c true)
        ∧ (0 < e1.remaining → e1.frames.length < 12 → rest ≠ [] → s.freezePost l seq = frozen)

/-! ## Report ring, status block, notices -/

/-- RECORD_TAKEN, with a window table in force and no record being placed: in a full ring the record is suppressed, the
gap count increments, and RING_FULL is raised if it was 0 (R140); otherwise its 32 words go to slot P in word order,
with the header completed, and P, the record sequence and the gap count advance (R139). Then the work that waited with
the record goes on. With room for fewer words the rest wait (R15). That all words that fit are placed in one step is
the model's choice (log 32). -/
def Obligations.RecordIsWrittenOrSuppressed : Prop :=
  ∀ (s : State) (t : WindowTable) (r : Record) (rest : List Record),
    s.path.state ≠ .starting → s.path.windows = some t → s.report.placing = none → s.report.handed = r :: rest →
    r.body.length ≤ 30 →
    let base : State := { s with report := { s.report with handed := rest } }
    let h0 : Word := BitVec.ofNat 32 (r.kind.code + 256 * (r.body.length + 2) + 65536 * s.report.seq.toNat)
    let h1 : Word := BitVec.ofNat 32
      (s.report.gap % 65536 + 65536 * (s.zone.mouldType % 256) + 16777216 * (r.flags % 256))
    let words : List Word := h0 :: h1 :: r.body ++ List.replicate (30 - r.body.length) 0
    let room := 64 - s.iq.length
    let addr := t.br + 128 * s.report.p
    let requests (n : Nat) : List Request := (words.take n).zipIdx.map fun x => ⟨addr + 4 * x.2, .write x.1⟩
    ((s.report.p + 1) % t.r = s.report.c →
      let u : State := { base with report := { base.report with gap := min 65535 (s.report.gap + 1) } }
      exec .recordTaken s = .next (s.settle ((if s.report.gap = 0 then u.raise 7 else u).runCont r.cont)))
      ∧ ((s.report.p + 1) % t.r ≠ s.report.c → 32 ≤ room →
        exec .recordTaken s = .next (s.settle (State.runCont { base with
          iq := s.iq ++ requests 32
          report := { base.report with
            p := (s.report.p + 1) % t.r
            seq := s.report.seq + 1
            gap := 0
            c := s.report.pendingC.getD s.report.c
            pendingC := none } } r.cont)))
      ∧ ((s.report.p + 1) % t.r ≠ s.report.c → room < 32 →
        exec .recordTaken s = .next (s.settle { base with
          iq := s.iq ++ requests room
          report := { base.report with placing := some ⟨r.kind, addr + 4 * room, words.drop room, r.cont⟩ } }))

/-- The contents of the status register block, word by word, each from the block that owns it (section 11.4, R141): words 1
to 16, the counter words 17 to 19, the configuration words 20 to 29, which show the settings in force and not a pending
set, and 0 in words 30 to 61. Every bit outside the fields is 0. The version is an unstated constant (log 12); the cause
field of 0 without a current cause, and the zone count of 0 before a profile is in force, are the model's choice (log 44,
log 35). -/
def Obligations.StatusWordLayout : Prop :=
  ∀ s : State,
    let w (i : Nat) (v : Nat) : Prop := s.statusWord i = BitVec.ofNat 32 v
    let n := s.notice
    let d := s.det.settings
    let e := s.ev.settings
    let z := s.zone.policy
    let on (b : Bool) : Nat := if b = true then 1 else 0
    let path : Nat := match s.path.state with
      | .starting => 0 | .running => 1 | .reloading => 2
    let cycle : Nat × Nat := match s.gate.state with
      | .stopped => (0, 0) | .idle => (1, 0) | .inCycle r => (2, r.step)
    let zone (i : Nat) : Nat := match s.zone.record? i with
      | none => 7
      | some r => match r.state with
        | .clear => 0 | .watch => 1 | .suspect => 2 | .cracked => 3 | .masked => 4
    let cap (c : Fin 4) : Nat := (match s.cap.table[c].state with
      | .free => 0 | .opened => 1 | .held => 2) + 16 * (s.cap.table[c].frames.length % 16)
    let slot (i : Fin 8) : Nat := match s.cmd.slots[i].state with
      | .free => 0 | .pending => 1 | .executing => 2 | .done => 3
    let count : Nat := match s.ev.profile with
      | none => 0
      | some p => p.zoneCount
    let replaces : Nat := match n.clearMode with
      | .clearOnOne => 0 | .replace => 1
    let pulses : Nat := match n.mode with
      | .latch => 0 | .pulse => 1
    w 1 (path + 256 * on s.loader.status.defaults + 512 * on s.loader.status.retried + 1024 * on s.loader.status.clamped)
      ∧ w 2 Config.version.toNat
      ∧ (∀ f, n.cause = some f → w 3 (n.pending.toNat + 65536 * (f % 16) + 16777216 * (n.mask % 8) + 268435456 * replaces))
      ∧ (n.cause = none → w 3 (n.pending.toNat + 1048576 + 16777216 * (n.mask % 8) + 268435456 * replaces))
      ∧ w 4 (on n.latch + 2 * pulses + 16 * (n.k % 16) + 65536 * n.sources.toNat)
      ∧ s.statusWord 5 = s.gate.cycle
      ∧ w 6 (cycle.1 + 256 * (cycle.2 % 16) + 65536 * on s.gate.gates.a + 131072 * on s.gate.gates.b
          + 262144 * on s.gate.gates.c + 524288 * on s.gate.gates.blank)
      ∧ w 7 (s.zone.mouldType % 256 + 256 * (count % 32))
      ∧ s.statusWord 8 = s.zone.serial
      ∧ w 9 (s.tacho.last % 65536 + 65536 * on s.tacho.stalled)
      ∧ w 10 (s.report.p % 512)
      ∧ w 11 (s.report.seq.toNat + 65536 * (s.report.gap % 65536))
      ∧ (∀ i : Fin 3, w (12 + i) (((List.range 8).map fun j => zone (8 * i + j) * 16 ^ j).sum))
      ∧ w 15 (((List.finRange 4).map fun c => cap c * 256 ^ c.val).sum)
      ∧ w 16 (((List.finRange 8).map fun i => slot i * 16 ^ i.val).sum)
      ∧ w 17 s.asm.position ∧ s.statusWord 18 = s.asm.analysed ∧ s.statusWord 19 = s.asm.lost
      ∧ w 20 (d.kEnv % 8 + 16 * (d.kUp % 16) + 256 * (d.f % 256) + 65536 * (d.code % 32))
      ∧ w 21 (d.hdt % 1024 + 65536 * (d.lockout % 1024))
      ∧ w 22 (d.dMax % 4096)
      ∧ w 23 (e.w % 4096 + 65536 * (e.wCap % 64) + 16777216 * on e.suspect)
      ∧ w 24 (e.pre % 8 + 16 * (e.post % 8) + 256 * on z.offBlind)
      ∧ w 25 (e.gA % 16 + 16 * (e.gB % 16) + 256 * (e.gC % 16) + 65536 * (e.slope % 8) + 16777216 * (e.octFloor % 16))
      ∧ w 26 (z.tWatch % 1024 + 65536 * (z.tSuspect % 1024))
      ∧ w 27 (z.tCrack % 1024 + 65536 * (z.h % 1024))
      ∧ w 28 (z.n % 256 + 256 * (z.d % 64) + 65536 * (z.b % 64) + 16777216 * (z.blindLimit % 256))
      ∧ w 29 (s.tacho.pmin % 65536 + 65536 * (s.tacho.pmax % 65536))
      ∧ ∀ i, 30 ≤ i → s.statusWord i = 0

/-- STATUS_BLOCK_UPDATE takes the marked words and the counter words, clears the marks, and places one write for each in
word order, with word 0 and the next mirror sequence last; the words that find no room wait (R141, R142, R15). That
all words that fit are placed in one step is the model's choice (log 32). -/
def Obligations.StatusBlockUpdatePlacesMarkedWords : Prop :=
  ∀ s : State, s.status.marks ≠ [] → s.status.update = none → s.path.state ≠ .starting →
    let ws := ((List.range 62).drop 1).filter fun w => s.status.marks.contains w || w == 17 || w == 18 || w == 19
    let word (w : Nat) : Request := ⟨s.windows.bt + 4 * w, .write (s.statusWord w)⟩
    let room := 64 - s.iq.length
    (ws.length < room →
      exec .statusBlockUpdate s = .next (s.settle { s with
        iq := s.iq ++ ws.map word ++ [⟨s.windows.bt, .write (s.status.mirror + 1)⟩]
        status := { marks := [], update := none, mirror := s.status.mirror + 1 } }))
      ∧ (room ≤ ws.length →
        exec .statusBlockUpdate s = .next (s.settle { s with
          iq := s.iq ++ (ws.take room).map word
          status := { s.status with marks := [], update := some (ws.drop room ++ [0]) } }))

/-- A raise sets the pending flag whatever enable and level; a source factor that becomes pending sets a clear stop
latch and raises STOP_ASSERTED, starting the pulse timer in PULSE (R143, R147, R148). The current cause is the pending,
enabled factor of the highest level above 0, the lower number among equals, and NOTICE_N is active while its level is
above the mask level (R145); with no current cause it is inactive; STOP_REQ is active exactly while the latch is set
(R147). A batch counter at 0 raises its factor and is loaded, at BATCH_COUNTER, and a service decrements it (R144); a
service that finds the counter at 0 makes that raise first. STOP_PULSE_EXPIRY clears the latch (R148). The times are
those of the model's clock (log 5), which does not pass an edge event that is due (log 7), and the moment of a batch
raise is its reading (log 29). -/
def Obligations.NoticeFactorsAndStopLatch : Prop :=
  (∀ (n : NoticeUnit) (f now : Nat), f < 16 →
    let flagged : Half := n.pending ||| (1#16 <<< f)
    (n.pending.getLsbD f = true → n.raise f now = n)
      ∧ (n.pending.getLsbD f = false → (n.sources.getLsbD f = false ∨ n.latch = true) →
        n.raise f now = { n with pending := flagged })
      ∧ (n.pending.getLsbD f = false → n.sources.getLsbD f = true → n.latch = false →
        n.raise f now = { n with
          pending := flagged ||| 0x4000, latch := true, pulse := if n.mode = .pulse then some now else none }))
    ∧ (∀ (n : NoticeUnit),
      let can (f : Fin 16) : Prop := n.pending.getLsbD f = true ∧ n.enables.getLsbD f = true ∧ 0 < n.levels[f]
      ((∀ f, ¬ can f) → n.cause = none ∧ n.noticeActive = false)
        ∧ ∀ f : Fin 16, can f → (∀ g, can g → n.levels[g] ≤ n.levels[f]) →
          (∀ g, can g → n.levels[g] = n.levels[f] → f ≤ g) →
          n.cause = some f.val ∧ (n.noticeActive = true ↔ n.mask < n.levels[f]))
    ∧ (∀ (s : State) (k : BatchKind), (s.notice.batch k).counter = 0 →
      let b := s.notice.batch k
      let f := match k with
        | .event => 0
        | .cycle => 4
      exec (.batchCounter k) s =
        .next (s.settle (State.raise { s with notice := s.notice.setBatch k ⟨b.count, b.count⟩ } f)))
    ∧ (∀ (s : State) (k : BatchKind) (count n : Nat), s.notice.batch k = ⟨count, n + 1⟩ →
      s.serveBatch k = { s with notice := s.notice.setBatch k ⟨count, n⟩ })
    ∧ (∀ (s : State) (k : BatchKind), (s.notice.batch k).counter = 0 →
      let count := (s.notice.batch k).count
      let f := match k with
        | .event => 0
        | .cycle => 4
      let u := State.raise { s with notice := s.notice.setBatch k ⟨count, count⟩ } f
      s.serveBatch k = { u with notice := u.notice.setBatch k ⟨count, count - 1⟩ })
    ∧ (∀ s : State, s.stopReq = s.notice.latch ∧ s.noticeN = !s.notice.noticeActive)
    ∧ ∀ (s : State) (start : Nat), s.notice.pulse = some start →
      let t := start + 10 * 2 ^ s.notice.k
      let comes := s.gate.due = [] ∨ t ≤ s.clock
      (comes → exec .stopPulseExpiry s = .next (s.settle { s with
        clock := max s.clock (t - 1)
        notice := { s.notice with latch := false, pulse := none } }))
      ∧ (¬ comes → exec .stopPulseExpiry s = .next (s.settle s))

/-! ## Start-up -/

/-- RESET_RELEASE begins the image read while the part is held in reset; IMAGE_READ ends an attempt: a usable image is
ready with status IMAGE, RETRIED if it was the second attempt and CLAMPED if anything was clamped; a first failure
waits 10 ms and IMAGE_RETRY begins the second attempt; a second failure leaves the built-in defaults ready with
DEFAULTS and RETRIED (R161). An attempt sends the status poll and the read of R159. On the NVM link an instruction holds
NVM_CS_N low and gives each bit of its bytes, most significant first, before the rising edge of NVM_SCK; then NVM_CS_N is
high again. Between operations NVM_CS_N is high and NVM_SCK is low (R159). The times are those of the model's clock (log
5); that an IMAGE_READ ends the second attempt too, and which moment of an operation in progress the levels show, is its
choice (log 30, log 38). -/
def Obligations.ImageReadRetriesOnce : Prop :=
  (∀ s : State,
    let phase (p : LoaderPhase) : State := { s with loader := { s.loader with phase := p } }
    let attempt (second : Bool) : State :=
      { s with loader := { s.loader with phase := .reading second, sent := [[0x05], [0x03, 0x00, 0x00]] } }
    (s.loader.phase = .held → exec .resetRelease s = .next (s.settle (attempt false)))
      ∧ (∀ second status bytes cfg clamped, s.loader.phase = .reading second → judgeRead status bytes = some (cfg, clamped) →
        exec (.imageRead status bytes) s = .next (s.settle (phase (.ready cfg ⟨false, second, clamped⟩))))
      ∧ (∀ status bytes, s.loader.phase = .reading false → judgeRead status bytes = none →
        exec (.imageRead status bytes) s = .next (s.settle (phase (.retryWait s.clock))))
      ∧ (∀ status bytes, s.loader.phase = .reading true → judgeRead status bytes = none →
        exec (.imageRead status bytes) s = .next (s.settle (phase (.ready builtInDefaults ⟨true, true, false⟩))))
      ∧ (∀ since, s.loader.phase = .retryWait since →
        exec .imageRetry s = .next (s.settle { attempt true with clock := max s.clock (since + 1000 - 1) })))
    ∧ (∀ s : State,
      let working := (∃ second, s.loader.phase = .reading second) ∨ (∃ i image p since, s.cmd.exec = some ⟨i, .saving image p since⟩)
        ∨ ∃ i image, s.cmd.exec = some ⟨i, .verifying image⟩
      (¬ working → s.nvmCsN = true ∧ s.nvmSck = false)
        ∧ (working → s.loader.sent ≠ [] → ∃ instr ∈ s.loader.sent, s.linkLevels ∈ instrLevels instr))
    ∧ ∀ (b : Byte) (bytes : List Byte),
      let instr := b :: bytes
      let taken := if b = 0x05 then 1 else if b = 0x03 then 1024 else 0
      let levels := instrLevels instr
      levels.length = 16 * (instr.length + taken) + 2
        ∧ (∀ (j k : Nat) (x : Byte), instr[j]? = some x → k < 8 →
          levels[16 * j + 2 * k]? = some ⟨false, false, some (x.getLsbD (7 - k))⟩
          ∧ levels[16 * j + 2 * k + 1]? = some ⟨false, true, some (x.getLsbD (7 - k))⟩)
        ∧ (∀ i < 16 * (instr.length + taken) + 1, ∃ sck dout, levels[i]? = some ⟨false, sck, dout⟩)
        ∧ levels.getLast? = some ⟨true, false, none⟩

/-- RUNNING_ENTRY, once the loader is ready and no record, status block update or evaluation is in hand, completes: every
block takes the configuration, as its rule gives; the ring starts afresh, every slot is FREE with shadow 0, and every word
from 1 to 61 is marked (R12, R37, R42, R43, R55, R80, R99, R138, R141, R157). The Notice Unit keeps its pending flags, its
mask level and its latch, loads its batch counters, and the stop mode applies as a SET STOP does: with the latch set PULSE
starts the timer, and LATCH stops it (R143, R144, R148); IMAGE is then raised if the status shows DEFAULTS, RETRIED or CLAMPED
(R161). The zone table is kept if the new stored profiles have the type in force with the zone count in force, and otherwise
every present zone is cleared under the mould type chosen (R100, R119). The internal queue keeps its entries with their data
(R14). Every other field is unchanged; what a RELOAD keeps is so. That it waits for an evaluation too, and for a stall that is
due, is the model's choice (log 23, log 48), as are that a completion word still queued is written as a plain word (log 22)
and that the raise of a batch counter at 0 comes before it is loaded (log 29). -/
def Obligations.RunningEntryAppliesConfiguration : Prop :=
  ∀ (s : State) (cfg : ImageConfig) (st : ImageStatus), s.loader.phase = .ready cfg st → s.report.placing = none →
    s.status.update = none → s.zone.eval = none → s.zone.due = [] → s.tacho.stallHeld = none →
    let n0 := s.notice
    let n1 := if n0.batchEvent.counter = 0 then n0.raise 0 s.clock else n0
    let n2 := if n0.batchCycle.counter = 0 then n1.raise 4 s.clock else n1
    let configured : NoticeUnit := { n2 with
      enables := cfg.enables
      levels := cfg.levels
      batchEvent := ⟨cfg.batchEvent, cfg.batchEvent⟩
      batchCycle := ⟨cfg.batchCycle, cfg.batchCycle⟩
      clearMode := cfg.clearMode
      sources := cfg.sources
      mode := cfg.stopMode
      k := cfg.stopK
      pulse := if cfg.stopMode = .pulse ∧ n2.latch = true then some s.clock else none }
    let notable := st.defaults = true ∨ st.retried = true ∨ st.clamped = true
    let applied (p : Profile) (zone : ZoneTable) : State := { s with
      path := { s.path with state := .running, windows := some cfg.windows, copy63 := 0 }
      iq := s.iq.map fun r => match r.act with
        | .completion _ w => ⟨r.addr, .write w⟩
        | _ => r
      loader := { s.loader with phase := .idle, status := st, stored := cfg.profiles }
      lines := Vector.ofFn fun i => ⟨cfg.lines[i], s.lines[i].level, 0⟩
      tacho := { s.tacho with settings := cfg.tacho, agree := 0, pmin := cfg.pmin, pmax := cfg.pmax }
      gate := ⟨.idle, closedGates, s.gate.cycle, some cfg.program, none, none, []⟩
      det := ⟨cfg.det, none, s.det.chans⟩
      ev := { s.ev with settings := cfg.event, pending := none, profile := some p }
      zone := zone
      report := { s.report with p := 0, c := 0, seq := 0, gap := 0, pendingC := none }
      notice := if notable then configured.raise 13 s.clock else configured
      status := { s.status with marks := (List.range 62).drop 1 }
      cmd := ⟨Vector.replicate 8 ⟨.free, Vector.replicate 16 0, false⟩, [], none, [], []⟩ }
    (∀ cur p, s.ev.profile = some cur →
      (cfg.profiles.find? fun q => q.type == s.zone.mouldType && q.zoneCount == cur.zoneCount) = some p →
      exec .runningEntry s = .next (s.settle (applied p { s.zone with policy := cfg.policy })))
    ∧ ((∀ cur, s.ev.profile = some cur →
        ∀ q ∈ cfg.profiles, ¬ (q.type = s.zone.mouldType ∧ q.zoneCount = cur.zoneCount)) →
      ∀ p, (if cfg.profiles.any (fun q => q.type == cfg.initialType)
        then cfg.profiles.find? fun q => q.type == cfg.initialType else cfg.profiles.head?) = some p →
      exec .runningEntry s = .next (s.settle (applied p { s.zone with
        policy := cfg.policy
        mouldType := p.type
        serial := 0
        firstCycle := if s.gate.cycle = 0xFFFFFFFF then 1 else s.gate.cycle + 1
        started := false
        records := Vector.ofFn fun z => if z.val < p.zoneCount then
          some ⟨if p.mask.getLsbD z then .masked else .clear, 0, 0, 0, 0, 0, none, none⟩ else none })))

/-! ## Command slots -/

/-- A snooped command-window write acts by the state of its slot (R149): in FREE the merged value is stored, and a
full-word FFFFFFFFH to word 1 to 15 is tested as a terminator by the table of R150, taken at the place the function
expects, plain data elsewhere, or refused at once with REFUSED_UNKNOWN; in PENDING and EXECUTING it sets the DISTURBED
mark only; in DONE a write to word 0 returns the slot to FREE with the mark clear, and any other is not acted on (R151).
That the word of an unknown command can go behind words that wait is the model's choice (log 59). -/
def Obligations.CommandWindowWritesActOnSlots : Prop :=
  ∀ (s : State) (i : Fin 8) (k : Fin 16) (m : Nat) (lanes : Lanes) (w : Word), s.Snoops (.command i k) m lanes w →
    let x := s.cmd.slots[i]
    let shadow := x.shadow.set k (mergeLanes x.shadow[k] w lanes)
    let u := s.written m lanes w
    let slot (y : Slot) : State := { u with cmd := { s.cmd with slots := s.cmd.slots.set i y } }
    let gives (v : State) : Prop := exec .commandWindowWrite s = .next (s.settle v)
    let terminator := lanes = 0xF ∧ w = 0xFFFFFFFF ∧ k ≠ 0
    let code := fieldOf shadow[0] 0 8
    let count := shadow[1].toNat
    let fixed : Option Nat := ([(0x01, 0), (0x02, 7), (0x03, 5), (0x04, 5), (0x05, 9), (0x07, 3), (0x08, 2), (0x09, 3), (0x0A, 1),
      (0x0B, 2), (0x0C, 1), (0x0D, 1), (0x0E, 1), (0x0F, 1), (0x10, 0), (0x11, 3), (0x12, 2), (0x13, 0), (0x14, 0), (0x15, 0)]
        : List (Nat × Nat)).lookup code
    let stored : State := slot { x with shadow := shadow }
    let taken : State := { u with cmd := { s.cmd with
      slots := s.cmd.slots.set i { x with shadow := shadow, state := .pending }, queue := s.cmd.queue ++ [i] } }
    (x.state = .free → ¬ terminator → gives stored)
      ∧ (x.state = .free → terminator → code ≠ 0x06 →
        (∀ n, fixed = some n → k.val = n + 1 → gives taken) ∧ (∀ n, fixed = some n → k.val ≠ n + 1 → gives stored)
        ∧ (fixed = none → gives ((slot { x with shadow := shadow, state := .pending }).queueCompletion i .refusedUnknown)))
      ∧ (x.state = .free → terminator → code = 0x06 →
        ((1 ≤ count ∧ count ≤ 12) → (k.val = count + 2 → gives taken) ∧ (k.val ≠ count + 2 → gives stored))
        ∧ (¬ (1 ≤ count ∧ count ≤ 12) → (2 ≤ k.val → gives taken) ∧ (k.val < 2 → gives stored)))
      ∧ ((x.state = .pending ∨ x.state = .executing) → gives (slot { x with disturbed := true }))
      ∧ (x.state = .done → k = 0 → gives (slot { x with shadow := shadow, state := .free, disturbed := false }))
      ∧ (x.state = .done → k ≠ 0 → gives u)

/-- NOP completes with DONE and has no other effect. SET LOCATION ENTRY with a row above 15, a bucket above 15 or not 0
in rows 12 to 15, or a zone that is not 0 to 23 or 31 is refused with REFUSED_VALUE; otherwise it writes the entry at
once into the table of the profile in force and of the stored profile of its type, and completes with DONE. A zone value
at or above the zone count is accepted, and reads as unlocated when it is used (R154). -/
def Obligations.NopAndSetLocationEntry : Prop :=
  (∀ (s : State) (i : Fin 8) (rest : List (Fin 8)), s.Begins 0x01 i rest →
    exec .nop s = .next (s.settle (s.answered i rest .done)))
    ∧ (∀ (s : State) (i : Fin 8) (rest : List (Fin 8)), s.Begins 0x09 i rest →
      let row := s.arg i 1
      let bucket := s.arg i 2
      let zone := s.arg i 3
      let ok := row ≤ 15 ∧ bucket ≤ 15 ∧ (12 ≤ row → bucket = 0) ∧ (zone ≤ 23 ∨ zone = 31)
      let at' := if row < 12 then 16 * row + bucket else 180 + row
      let edit (p : Profile) : Profile := { p with table := p.table.setIfInBounds at' (BitVec.ofNat 8 zone) }
      (¬ ok → exec .setLocationEntry s = .next (s.settle (s.answered i rest .refusedValue)))
      ∧ (∀ p, ok → s.ev.profile = some p →
        exec .setLocationEntry s = .next (s.settle (State.answered { s with
          ev := { s.ev with profile := some (edit p) }
          loader := { s.loader with stored := s.loader.stored.map fun q => if q.type = p.type then edit q else q } }
          i rest .done))))
    ∧ ∀ (p : Profile) (ms : List Member) (v : Nat), lookup p ms = some v → p.zoneCount ≤ v → locate p ms = none

/-- A completion word ready for a slot goes behind those that wait and is placed as room allows; it is a write of word 0
of the slot, and carries the function code and tag of shadow word 0, the completion code, and the DISTURBED mark (R152,
R15, section 11.3). A command that is turned away, because another slot is EXECUTING or another function heads the
queue, changes nothing. That such a command is turned away, and that all words that fit are placed in one step, is the
model's choice (log 3, log 32). That a command begins also while the completion word of an unknown one waits for room is
the model's choice (log 59). -/
def Obligations.CompletionWordsArePlaced : Prop :=
  (∀ (s : State) (i : Fin 8) (code : Code), (∀ x ∈ s.cmd.waits ++ [(i, code)], x.2 ≠ .accepted ∧ x.2 ≠ .discarded) →
    let room := 64 - s.iq.length
    let words := s.cmd.waits ++ [(i, code)]
    s.queueCompletion i code = { s with
      iq := s.iq ++ (words.take room).map fun x => ⟨s.windows.bc + 64 * x.1.val, .completion x.1 (s.slotWordOf x.1 x.2)⟩
      cmd := { s.cmd with waits := words.drop room } })
    ∧ (∀ (s : State) (i : Fin 8) (code : Code),
      let w := s.slotWordOf i code
      let fn := s.cmd.slots[i].shadow[0]
      fieldOf w 0 8 = fieldOf fn 0 8 ∧ fieldOf w 8 8 = fieldOf fn 8 8 ∧ w.getLsbD 24 = s.cmd.slots[i].disturbed
        ∧ fieldOf w 25 7 = 0
        ∧ fieldOf w 16 8 = match code with
          | .done => 0x01 | .doneClamped => 0x02 | .accepted => 0x03 | .refusedUnknown => 0x10 | .refusedLength => 0x11
          | .refusedValue => 0x12 | .refusedOrder => 0x13 | .refusedBusy => 0x14 | .refusedNoProfile => 0x15
          | .nvmFault => 0x20 | .discarded => 0x21)
    ∧ ∀ (s : State) (fn : Nat) (work : Vector Word 16 → State → State),
      (s.path.state ≠ .running ∨ s.cmd.exec ≠ none ∨ s.cmd.queue = []
        ∨ ∃ i rest, s.cmd.queue = i :: rest ∧ fieldOf s.cmd.slots[i].shadow[0] 0 8 ≠ fn) →
      s.command fn work = s

/-- SET DETECTOR, SET EVENT and SET WEIGHTS put their clamped values into the pending sets, each over the pending set if
one exists and else the set in force; SET EVENT with an unknown suspect code is refused (R55, R81). SET ZONE POLICY
checks its off-band code, then the order of its clamped thresholds, and takes effect at once (R99). SET TACHO BAND
clamps its limits and refuses a reversed pair (R42). Each completes with DONE, or DONE_CLAMPED if an argument was
clamped. -/
def Obligations.SettingsCommandsClampOrRefuse : Prop :=
  ∀ (s : State) (i : Fin 8) (rest : List (Fin 8)),
    let a := s.arg i
    let base := s.ev.pending.getD s.ev.settings
    let event (e : EventSettings) (code : Code) : State :=
      State.answered { s with ev := { s.ev with pending := some e } } i rest code
    (s.Begins 0x02 i rest → exec .setDetector s = .next (s.settle (State.answered { s with det := { s.det with
        pending := some ⟨limited 1 6 (a 1), limited 4 10 (a 2), limited 16 255 (a 3), limited 0 31 (a 4), limited 8 1023 (a 5),
          limited 0 1023 (a 6), limited 64 4095 (a 7)⟩ } } i rest
        (codeFor [(1, 6, a 1), (4, 10, a 2), (16, 255, a 3), (0, 31, a 4), (8, 1023, a 5), (0, 1023, a 6), (64, 4095, a 7)]))))
      ∧ (s.Begins 0x03 i rest →
        (2 ≤ a 3 → exec .setEvent s = .next (s.settle (s.answered i rest .refusedValue)))
        ∧ (a 3 ≤ 1 → exec .setEvent s = .next (s.settle (event { base with
            w := limited 1 4095 (a 1), wCap := limited 0 63 (a 2), suspect := decide (a 3 = 1), pre := limited 0 5 (a 4),
            post := limited 0 6 (a 5) } (codeFor [(1, 4095, a 1), (0, 63, a 2), (0, 5, a 4), (0, 6, a 5)])))))
      ∧ (s.Begins 0x04 i rest → exec .setWeights s = .next (s.settle (event { base with
          gA := limited 0 15 (a 1), gB := limited 0 15 (a 2), gC := limited 0 15 (a 3), slope := limited 0 7 (a 4),
          octFloor := limited 0 14 (a 5) }
          (codeFor [(0, 15, a 1), (0, 15, a 2), (0, 15, a 3), (0, 7, a 4), (0, 14, a 5)]))))
      ∧ (s.Begins 0x05 i rest →
        let tw := limited 1 1023 (a 1)
        let ts := limited 1 1023 (a 2)
        let tc := limited 1 1023 (a 3)
        (2 ≤ a 9 → exec .setZonePolicy s = .next (s.settle (s.answered i rest .refusedValue)))
        ∧ (a 9 ≤ 1 → ¬ (tw < ts ∧ ts < tc) → exec .setZonePolicy s = .next (s.settle (s.answered i rest .refusedOrder)))
        ∧ (a 9 ≤ 1 → tw < ts → ts < tc → exec .setZonePolicy s = .next (s.settle (State.answered { s with zone := { s.zone with
            policy := ⟨tw, ts, tc, limited 0 (tw - 1) (a 4), limited 1 255 (a 5), limited 0 63 (a 6), limited 0 63 (a 7),
              limited 0 255 (a 8), decide (a 9 = 1)⟩ } } i rest
            (codeFor [(1, 1023, a 1), (1, 1023, a 2), (1, 1023, a 3), (0, tw - 1, a 4), (1, 255, a 5), (0, 63, a 6), (0, 63, a 7),
              (0, 255, a 8)])))))
      ∧ (s.Begins 0x08 i rest →
        let lo := limited 1 65535 (a 1)
        let hi := limited 1 65535 (a 2)
        (hi < lo → exec .setTachoBand s = .next (s.settle (s.answered i rest .refusedOrder)))
        ∧ (lo ≤ hi → exec .setTachoBand s = .next (s.settle (State.answered { s with
            tacho := { s.tacho with pmin := lo, pmax := hi } } i rest (codeFor [(1, 65535, a 1), (1, 65535, a 2)])))))

/-- LOAD GATE PROGRAM stages its steps if every one passes the step checks, and is refused with REFUSED_LENGTH or
REFUSED_VALUE otherwise (R43, R152). SET LINE replaces the settings of lines 0 to 4 or of the tacho, keeping the level
and clearing the agreement count; an unknown line, polarity or edge mode, or BOTH for the tacho, is refused (R37, R38).
While a stall is due from the last TACHO sample, SET LINE waits, so that the sample keeps its settings (the model's
choice, log 48). That argument 1 is the line number and argument 2 the filter length is its choice too (log 50). -/
def Obligations.ProgramAndLineCommands : Prop :=
  ∀ (s : State) (i : Fin 8) (rest : List (Fin 8)),
    let a := s.arg i
    (s.Begins 0x06 i rest →
      let steps : List (Option GateStep) := (List.range (a 1)).map fun j => stepOfWord ((s.cmd.slots[i].shadow[j + 2]?).getD 0)
      (¬ (1 ≤ a 1 ∧ a 1 ≤ 12) → exec .loadGateProgram s = .next (s.settle (s.answered i rest .refusedLength)))
      ∧ (1 ≤ a 1 → a 1 ≤ 12 → none ∈ steps → exec .loadGateProgram s = .next (s.settle (s.answered i rest .refusedValue)))
      ∧ (∀ p : List GateStep, 1 ≤ a 1 → a 1 ≤ 12 → steps = p.map some →
        exec .loadGateProgram s = .next (s.settle (State.answered { s with gate := { s.gate with staged := some p } }
          i rest .done))))
    ∧ (s.tacho.stallHeld ≠ none → exec .setLine s = .next (s.settle s))
    ∧ (s.Begins 0x07 i rest → s.tacho.stallHeld = none →
      let pol : Polarity := if s.argByte i 3 0 = 0 then .normal else .inverted
      let mode : EdgeMode := if s.argByte i 3 1 = 0 then .rising else if s.argByte i 3 1 = 1 then .falling else .both
      let f := limited 1 8 (a 2)
      let code := codeFor [(1, 8, a 2)]
      let known := s.argByte i 3 0 ≤ 1 ∧ s.argByte i 3 1 ≤ 2
      (¬ (known ∧ a 1 ≤ 5 ∧ (a 1 = 5 → s.argByte i 3 1 ≤ 1)) →
        exec .setLine s = .next (s.settle (s.answered i rest .refusedValue)))
      ∧ (∀ n : Fin 5, known → a 1 = n.val → exec .setLine s = .next (s.settle (State.answered { s with
          lines := s.lines.set n ⟨⟨pol, f, mode⟩, s.lines[n].level, 0⟩ } i rest code)))
      ∧ (∀ e : MeasEdge, known → a 1 = 5 → (s.argByte i 3 1 = 0 ∧ e = .rising ∨ s.argByte i 3 1 = 1 ∧ e = .falling) →
        exec .setLine s = .next (s.settle (State.answered { s with
          tacho := { s.tacho with settings := ⟨pol, f, e⟩, agree := 0 } } i rest code))))

/-- RELEASE CAPTURE gives a HELD capture's slots back to the tail of the spare list, EMPTY, and the entry becomes FREE;
it is refused with REFUSED_BUSY for an OPEN entry and with REFUSED_VALUE for a FREE one or an id above 3 (R135). STOP
RELEASE clears the latch and any timer; SET STOP takes sources, mode and exponent at once, its timer starting if it
selects PULSE while the latch is set (R148). SET NOTICE sets enable and level, and for factors 0 and 4 the batch count,
loading its counter (R143, R144). A counter at 0 makes its raise first, under the new enable and level and the old
count; that moment is the model's reading (log 29), and that the batch count is clamped for every factor (log 16). -/
def Obligations.CaptureStopAndNoticeCommands : Prop :=
  ∀ (s : State) (i : Fin 8) (rest : List (Fin 8)),
    let a := s.arg i
    (s.Begins 0x0F i rest →
      (4 ≤ a 1 → exec .releaseCapture s = .next (s.settle (s.answered i rest .refusedValue)))
      ∧ ∀ c : Fin 4, a 1 = c.val →
        (s.cap.table[c].state = .free → exec .releaseCapture s = .next (s.settle (s.answered i rest .refusedValue)))
        ∧ (s.cap.table[c].state = .opened → exec .releaseCapture s = .next (s.settle (s.answered i rest .refusedBusy)))
        ∧ (s.cap.table[c].state = .held →
          let ps := s.cap.table[c].frames.map (·.2)
          exec .releaseCapture s = .next (s.settle (State.answered { s with
            asm := { s.asm with tags := Vector.ofFn fun p => if p ∈ ps then .empty else s.asm.tags[p] }
            cap := { s.cap with spare := s.cap.spare ++ ps, table := s.cap.table.set c ⟨.free, [], 0, 0, 0, [], 0, 0, false⟩ } }
            i rest .done))))
    ∧ (s.Begins 0x10 i rest → exec .stopRelease s = .next (s.settle (State.answered { s with
        notice := { s.notice with latch := false, pulse := none } } i rest .done)))
    ∧ (s.Begins 0x12 i rest →
      let mode : StopMode := if s.argByte i 2 0 = 0 then .latch else .pulse
      (2 ≤ s.argByte i 2 0 → exec .setStop s = .next (s.settle (s.answered i rest .refusedValue)))
      ∧ (s.argByte i 2 0 ≤ 1 → exec .setStop s = .next (s.settle (State.answered { s with notice := { s.notice with
          sources := BitVec.ofNat 16 (a 1), mode := mode, k := limited 0 15 (s.argByte i 2 1)
          pulse := if mode = .pulse ∧ s.notice.latch = true then some s.clock else none } }
          i rest (codeFor [(0, 15, s.argByte i 2 1)])))))
    ∧ (s.Begins 0x11 i rest →
      let en := s.argByte i 2 0
      let count := limited 1 255 (a 3)
      (¬ (a 1 ≤ 15 ∧ en ≤ 1) → exec .setNotice s = .next (s.settle (s.answered i rest .refusedValue)))
      ∧ ∀ f : Fin 16, a 1 = f.val → en ≤ 1 →
        let bit' : Half := 1#16 <<< f.val
        let n : NoticeUnit := { s.notice with
          enables := if en = 1 then s.notice.enables ||| bit' else s.notice.enables &&& ~~~bit'
          levels := s.notice.levels.set f (limited 0 7 (s.argByte i 2 1)) }
        let code := codeFor [(0, 7, s.argByte i 2 1), (1, 255, a 3)]
        let out (n : NoticeUnit) : Prop :=
          exec .setNotice s = .next (s.settle (State.answered { s with notice := n } i rest code))
        (f ≠ 0 → f ≠ 4 → out n)
          ∧ (f = 0 →
            (0 < s.notice.batchEvent.counter → out { n with batchEvent := ⟨count, count⟩ })
            ∧ (s.notice.batchEvent.counter = 0 → out { n.raise 0 s.clock with batchEvent := ⟨count, count⟩ }))
          ∧ (f = 4 →
            (0 < s.notice.batchCycle.counter → out { n with batchCycle := ⟨count, count⟩ })
            ∧ (s.notice.batchCycle.counter = 0 → out { n.raise 4 s.clock with batchCycle := ⟨count, count⟩ })))

/-- MASK ZONE, UNMASK ZONE and RESET ZONE set the fields of R113 to R115 and keep the others; they refuse an absent zone
with REFUSED_VALUE, UNMASK ZONE also one that is not MASKED and RESET ZONE one that is. If the state changes, a
ZONE_CHANGE record with score 0, streak 0 and the current cycle number is handed over first, with which the command
waits. ZONE REPORT hands over the record of the lowest present zone and goes on from the next with it; with no present
zone left, or none at all, it completes with DONE (R116). A zone command that waits with its record completes with DONE
once the record has been dealt with (R153). The first three wait while an evaluation is in progress (R104); that they
wait PENDING at the head of the queue is the model's choice (log 45). ZONE REPORT does not wait for an evaluation; that
its record shows a zone as it stands while the evaluation waits with that zone's own record is the model's choice too
(log 61). -/
def Obligations.ZoneCommandsChangeOneZone : Prop :=
  (∀ (s : State) (i : Fin 8) (rest : List (Fin 8)),
    let z := s.arg i 1
    let put (r : ZoneRecord) : State := { s with zone := { s.zone with records := vmod s.zone.records z fun _ => some r } }
    let refused := s.settle (s.answered i rest .refusedValue)
    let outcome (old new : ZoneRecord) : State :=
      if old.state = new.state then (put new).answered i rest .done
      else { (put new).begun i rest .records with report := { s.report with handed := s.report.handed ++
        [zoneChangeRecord z old.state new.state 0 0 s.gate.cycle .zoneCommand] } }
    (s.zone.eval = none → s.Begins 0x0C i rest →
      (s.zone.record? z = none → exec .maskZone s = .next refused)
      ∧ ∀ r, s.zone.record? z = some r → exec .maskZone s = .next (s.settle
        (outcome r { r with state := .masked, score := 0, streak := 0, hitsCycle := 0 })))
    ∧ (s.zone.eval = none → s.Begins 0x0D i rest →
      (s.zone.record? z = none → exec .unmaskZone s = .next refused)
      ∧ ∀ r, s.zone.record? z = some r →
        (r.state ≠ .masked → exec .unmaskZone s = .next refused)
        ∧ (r.state = .masked → exec .unmaskZone s = .next (s.settle
          (outcome r { r with state := .clear, score := 0, streak := 0 }))))
    ∧ (s.zone.eval = none → s.Begins 0x0E i rest →
      (s.zone.record? z = none → exec .resetZone s = .next refused)
      ∧ ∀ r, s.zone.record? z = some r →
        (r.state = .masked → exec .resetZone s = .next refused)
        ∧ (r.state ≠ .masked → exec .resetZone s = .next (s.settle
          (outcome r { r with state := .clear, score := 0, streak := 0, hitsCycle := 0 }))))
    ∧ (s.zone.eval ≠ none → exec .maskZone s = .next (s.settle s) ∧ exec .unmaskZone s = .next (s.settle s)
      ∧ exec .resetZone s = .next (s.settle s))
    ∧ (∀ (y : Nat) (r : ZoneRecord), s.Begins 0x13 i rest → s.zone.record? y = some r → (∀ x < y, s.zone.record? x = none) →
      exec .zoneReport s = .next (s.settle { s.begun i rest .records with report := { s.report with handed := s.report.handed ++
        [zoneDetailRecord y r (.zoneReport (y + 1))] } }))
    ∧ (s.Begins 0x13 i rest → (∀ y, s.zone.record? y = none) →
      exec .zoneReport s = .next (s.settle (s.answered i rest .done))))
    ∧ ∀ (s : State) (i : Fin 8) (job : Job), s.cmd.exec = some ⟨i, job⟩ →
      let doing (j : Job) : State := { s with cmd := { s.cmd with exec := some ⟨i, j⟩ } }
      s.runCont .zoneCommand = (doing .completing).queueCompletion i .done
        ∧ (∀ (z y : Nat) (r : ZoneRecord), z ≤ y → s.zone.record? y = some r → (∀ x, z ≤ x → x < y → s.zone.record? x = none) →
          s.runCont (.zoneReport z) = { doing .records with report := { s.report with handed := s.report.handed ++
            [zoneDetailRecord y r (.zoneReport (y + 1))] } })
        ∧ ∀ z : Nat, (∀ y, z ≤ y → s.zone.record? y = none) →
          s.runCont (.zoneReport z) = (doing .completing).queueCompletion i .done

/-- MOULD CHANGE to a type of 0, above 255 or without a stored profile is refused with REFUSED_NO_PROFILE and changes
nothing else. An accepted one ends a running cycle with cause MOULD (R51), and an evaluation due at once goes first
(R112). Then the channels abandon their hits. With open events every one is picked to complete or to be abandoned, and
the record waits for them (R72, R88). With none the MOULD record of the outgoing mould is handed over, and the new type,
serial and profile are in force with every present zone cleared, the first cycle the next one and no cycle started
(R117, R118). Once the record has been dealt with, a frame that has completed and whose freeze has not been made is
frozen as a post-frame, unless a write has changed its slot, and then an OPEN capture becomes HELD and TRUNCATED and the
command completes; while an access to that slot is in progress, the closing waits with the freeze (R122, R130, R134).
The command waits while an evaluation or a completion check is in progress or owed, or the frame under analysis stands
within a sample set (R72, R87, R104). The order of the record and the new mould, and that the closing waits with a
freeze, are the model's reading (log 20, log 27), the time at which a running cycle ends (log 28) and that a MOULD
CHANGE that must wait does so PENDING at the head of the queue (log 45), that it goes before a marker at the head (log
56), that the capture closes only then (log 57) and that an output that waits for room does not hold the command up (log
62) its choice. -/
def Obligations.MouldChangeActsInOrder : Prop :=
  (∀ (s : State) (i : Fin 8) (rest : List (Fin 8)), s.mouldMustWait = false → s.Begins 0x0B i rest →
    (s.arg i 1 = 0 ∨ 256 ≤ s.arg i 1 ∨ ∀ p ∈ s.loader.stored, p.type ≠ s.arg i 1) →
    exec .mouldChange s = .next (s.settle (s.answered i rest .refusedNoProfile)))
    ∧ (∀ (s : State) (i : Fin 8) (rest : List (Fin 8)) (p : Profile), s.TakesMould i rest p →
      let serial : Word := s.cmd.slots[i].shadow[2]
      let x := s.begun i rest .completing
      let settles (u : State) : Prop := exec .mouldChange s = .next (s.settle (u.mouldSettle p serial))
      ((∀ r, s.gate.state ≠ .inCycle r) → settles x
        ∧ ∃ t : State, exec .mouldChange s = .next t ∧ s.MouldSettled t i p serial)
      ∧ ∀ r, s.gate.state = .inCycle r →
        let u := x.endCycle .mould (max s.clock r.stepStart)
        let carries (f : QFrame) : Prop := f.tag.cycle = r.summary.cycle
        let marks (m : CycleSummary) : Prop := m.run = r.summary ∧ m.cause = .mould
        ((∃ f, (.frame f) ∈ s.aq.entries ∧ carries f) → settles u
          ∧ ∃ t : State, exec .mouldChange s = .next t ∧ t.gate.state = .idle ∧ t.zone.due = [] ∧ s.MouldSettled t i p serial
            ∧ ∃ m, (.marker m) ∈ t.aq.entries ∧ marks m)
        ∧ (∀ w, (∀ f, (.frame f) ∈ s.aq.entries → ¬ carries f) → s.aq.work = some w → carries w.frame → settles u
          ∧ ∃ t : State, exec .mouldChange s = .next t ∧ t.gate.state = .idle ∧ t.zone.due = [] ∧ s.MouldSettled t i p serial
            ∧ t.aq.work = some w ∧ ∃ m, t.aq.entries = .marker m :: s.aq.entries ∧ marks m)
        ∧ ((∀ f, (.frame f) ∈ s.aq.entries → ¬ carries f) → (∀ w, s.aq.work = some w → ¬ carries w.frame) →
          exec .mouldChange s =
              .next (s.settle { u with cmd := { u.cmd with exec := some ⟨i, .mould p serial .evaluation⟩ } })
            ∧ ∃ t : State, exec .mouldChange s = .next t ∧ t.gate.state = .idle ∧ t.zone.mouldType = s.zone.mouldType
              ∧ t.zone.records = s.zone.records ∧ (∃ m, t.zone.due = [m] ∧ marks m)
              ∧ t.cmd.exec = some ⟨i, .mould p serial .evaluation⟩))
    ∧ (∀ (s : State) (i : Fin 8) (rest : List (Fin 8)) (p : Profile), s.TakesMould i rest p →
      (∀ r, s.gate.state ≠ .inCycle r) → s.ev.openEvents = [] →
      ∃ t : State, exec .mouldChange s = .next t
        ∧ t.ev.openEvents = [] ∧ t.zone.started = false
        ∧ t.zone.firstCycle = (if s.gate.cycle = 0xFFFFFFFF then 1 else s.gate.cycle + 1)
        ∧ (∀ z : Fin 24, t.zone.record? z = if z.val < p.zoneCount then
            some ⟨if p.mask.getLsbD z then .masked else .clear, 0, 0, 0, 0, 0, none, none⟩ else none)
        ∧ (∀ c : Fin 4, t.det.chans[c] = { s.det.chans[c] with state := .idle })
        ∧ t.report = { s.report with handed := s.report.handed ++ [s.mouldRecord] }
        ∧ t.cap = s.cap ∧ t.asm = s.asm ∧ t.aq = s.aq ∧ t.gate = s.gate ∧ t.notice = s.notice ∧ t.mem = s.mem)
    ∧ (∀ (s : State) i (job : Job) p serial, s.cmd.exec = some ⟨i, job⟩ → s.ev.completion = none →
      let u := (List.finRange 4).foldl State.abandonChannel s
      let abandoned : State := { u with ev := u.ev.settleAll }
      (s.ev.openEvents ≠ [] → s.mouldSettle p serial =
        { abandoned with cmd := { s.cmd with exec := some ⟨i, .mould p serial .events⟩ } })
      ∧ (s.ev.openEvents = [] → s.mouldSettle p serial = abandoned.mouldHandRecord p serial))
    ∧ (∀ (s : State) i p serial, s.cmd.exec = some ⟨i, .mould p serial .evaluation⟩ → ∀ e, s.zone.eval = some e →
      s.runCont .evalDone = s.afterCycleRecord.mouldSettle p serial)
    ∧ (∀ s : State, s.mouldMustWait = true → exec .mouldChange s = .next (s.settle s))
    ∧ (∀ s : State, s.mouldMustWait = true ↔
      s.zone.eval ≠ none ∨ s.zone.due ≠ [] ∨ s.ev.completion ≠ none ∨ (∃ e ∈ s.ev.openEvents, e.fate ≠ .stays)
        ∨ (∃ f n c what, s.aq.work = some ⟨f, .due n c what⟩) ∨ ∃ f n, s.aq.work = some ⟨f, .window n⟩)
    ∧ (∀ (s : State) i p serial, s.cmd.exec = some ⟨i, .mould p serial .record⟩ →
      let closes (u : State) : Prop := s.runCont .mouldPut = u.closeOpenCapture.complete .done
      (s.cap.post = none → closes s)
        ∧ ∀ f, s.cap.post = some f →
          let u : State := { s with cap := { s.cap with post := none } }
          let kept := s.asm.tags[f.phys] = .complete f.seq ∧ s.cap.map[f.slot] = f.phys
          (s.accessTo f.phys = true →
            s.runCont .mouldPut = { s with cmd := { s.cmd with exec := some ⟨i, .mould p serial .capture⟩ } })
          ∧ (s.accessTo f.phys = false → kept → closes (u.freezePost f.slot f.seq))
          ∧ (s.accessTo f.phys = false → ¬ kept → closes u))
    ∧ ∀ s : State,
      (∀ c : Fin 4, s.OpenCapture c → s.closeOpenCapture = s.holdCapture c true)
        ∧ ((∀ c : Fin 4, s.cap.table[c].state ≠ .opened) → s.closeOpenCapture = s)

/-- RELOAD waits, PENDING, while an evaluation or a completion check is in progress or owed (R87, R104). Then it begins.
With room for all its words, behind none that wait, it acts at once; without, it remains EXECUTING while it waits for
room (R15, R153), and acts when there is room and nothing is in progress or owed: its three steps are one action (R157).
The ACCEPTED word and one DISCARDED word for each slot on the queue, oldest first, are placed and the slots become DONE;
then the path enters RELOADING, snooping ends, the image read begins, and the blocks drop or keep what their rules give
(R13, R34, R52, R57, R80, R136, R157). A running cycle ends with cause RELOAD, and its evaluation is due at once; no
account is open, so that it will find every count 0 (R34, R52). That a write in progress is no longer snooped is the
model's reading (log 21); that RELOAD waits PENDING for an evaluation or a check, and waits for room for all its words
before it acts, is its choice (log 45, log 46), as are that it can act within a sample set (log 55) or before a marker
at the head (log 56), and the 0 in a capture entry's first zone and first cycle (log 10). -/
def Obligations.ReloadEntersReloading : Prop :=
  (∀ s : State, (s.evalOwed = true ∨ s.checkBusy = true) → exec .reload s = .next (s.settle s))
    ∧ (∀ (s : State) (i : Fin 8) (rest : List (Fin 8)), s.Begins 0x15 i rest → s.evalOwed = false → s.checkBusy = false →
      let u := s.begun i rest .reloading
      let room := s.cmd.waits = [] ∧ s.iq.length + (rest.length + 1) ≤ 64
      (room → exec .reload s = .next (s.settle u.reload)) ∧ (¬ room → exec .reload s = .next (s.settle u)))
    ∧ (∀ s : State,
      let room := s.cmd.waits = [] ∧ s.iq.length + (s.cmd.queue.length + 1) ≤ 64
      let free := s.evalOwed = false ∧ s.checkBusy = false
      ((∃ i, s.cmd.exec = some ⟨i, .reloading⟩) → room → free → s.reloadOn = s.reload)
      ∧ (((∀ i, s.cmd.exec ≠ some ⟨i, .reloading⟩) ∨ ¬ room ∨ ¬ free) → s.reloadOn = s))
    ∧ ∀ (s : State) (i : Fin 8), s.cmd.exec = some ⟨i, .reloading⟩ → s.evalOwed = false → s.cmd.waits = [] →
      s.iq.length + (s.cmd.queue.length + 1) ≤ 64 → (i :: s.cmd.queue).Nodup →
      let t := s.reload
      t.iq = s.iq ++ (((i, Code.accepted) :: s.cmd.queue.map (fun j => (j, Code.discarded))).map (fun x =>
        (⟨s.windows.bc + 64 * x.1.val, .write (s.slotWordOf x.1 x.2)⟩ : Request)))
      ∧ (∀ j ∈ i :: s.cmd.queue, t.cmd.slots[j].state = .done) ∧ (∀ j : Fin 8, j ∉ i :: s.cmd.queue → t.cmd.slots[j] = s.cmd.slots[j])
      ∧ t.cmd.exec = none ∧ t.cmd.queue = [] ∧ t.cmd.waits = []
      ∧ t.notice = s.notice.raise 10 s.clock
      ∧ (t.path.state = .reloading ∧ t.path.windows = s.path.windows ∧ t.path.copy62 = s.path.copy62
        ∧ t.path.copy63 = s.path.copy63 ∧ ∀ b, t.path.bus = some b → b.snooped = false)
      ∧ (t.loader.phase = .reading false ∧ t.loader.stored = s.loader.stored ∧ t.loader.sent = [[0x05], [0x03, 0x00, 0x00]])
      ∧ (t.asm.assembly = none ∧ t.asm.lastAccepted = none ∧ t.asm.pendingLost = 0 ∧ t.asm.accounts = []
        ∧ t.asm.position = s.asm.position ∧ t.asm.analysed = s.asm.analysed ∧ t.asm.lost = s.asm.lost
        ∧ ∀ p : Fin 48, t.asm.tags[p] = .empty)
      ∧ (t.aq.entries = [] ∧ t.aq.work = none)
      ∧ (t.gate.state = .stopped ∧ t.gate.cycle = s.gate.cycle ∧ t.gate.staged = none
        ∧ t.gate.gates = ⟨false, false, false, false⟩)
      ∧ (t.det.settings = s.det.settings ∧ t.det.pending = none ∧ ∀ c : Fin 4, t.det.chans[c].state = .idle
        ∧ t.det.chans[c].env = 0 ∧ t.det.chans[c].prev = 0 ∧ t.det.chans[c].floors = s.det.chans[c].floors)
      ∧ (t.ev.openEvents = [] ∧ t.ev.pending = none ∧ t.ev.settings = s.ev.settings ∧ t.ev.nextId = s.ev.nextId
        ∧ t.ev.profile = s.ev.profile ∧ ∀ c : Fin 4, t.ev.assign[c] = .none)
      ∧ ((∀ l : Fin 32, (t.cap.map[l]).val = l.val) ∧ t.cap.spare.map (·.val) = (List.range 16).map (32 + ·)
        ∧ t.cap.latest = none ∧ ∀ c : Fin 4, t.cap.table[c] = ⟨.free, [], 0, 0, 0, [], 0, 0, false⟩)
      ∧ (t.lines = s.lines ∧ t.tacho = s.tacho ∧ t.report = s.report ∧ t.mem = s.mem ∧ t.clock = s.clock)
      ∧ ((∀ r, s.gate.state ≠ .inCycle r) → t.zone = s.zone)
      ∧ ∀ r, s.gate.state = .inCycle r → ∃ m, m.run = r.summary ∧ m.cause = .reload
        ∧ t.zone = { s.zone with due := [m] }

/-- LOAD LOCATION TABLE refuses an address that is no multiple of 4 or whose 196 bytes do not end within the address
space, and otherwise places 49 reads as room allows (R155). SAVE CONFIGURATION begins with page 0 of the image (R156);
each page that becomes ready is followed by the next, and the last by the readback; a page that does not become ready in
20 ms, a link that does not answer, or a difference completes the command with NVM_FAULT, and a readback that agrees
with DONE (R156, R159). The 20 ms run from the end of the page's write instruction, 288 µs after its writing began at 1
MHz (R159, log 49). The image is that of the settings most recently accepted: of each group the pending set if there is
one, the staged program if there is one, the rest as in force, the mould type as the initial one, and the stored
profiles in their order (R156). The times are those of the model's clock (log 5), which does not pass an edge event that
is due (log 7), and that all reads that fit are placed in one step is the model's choice (log 32). -/
def Obligations.CommandsThatTakeTime : Prop :=
  (∀ (s : State) (i : Fin 8) (rest : List (Fin 8)), s.Begins 0x0A i rest →
    let a := s.arg i 1
    let ok := a % 4 = 0 ∧ a + 196 ≤ 2 ^ 24
    let addrs := (List.range 49).map fun j => a + 4 * j
    let room := 64 - s.iq.length
    (¬ ok → exec .loadLocationTable s = .next (s.settle (s.answered i rest .refusedValue)))
    ∧ (ok → exec .loadLocationTable s = .next (s.settle
      (let u := s.begun i rest (.loading [])
       { u with
          iq := s.iq ++ (addrs.take room).map fun x => ⟨x, .tableRead⟩
          cmd := { u.cmd with loadWaits := addrs.drop room } }))))
    ∧ (∀ (s : State) (i : Fin 8) (rest : List (Fin 8)), s.Begins 0x14 i rest →
      let image := buildImage s.savedConfig
      exec .saveConfiguration s = .next (s.settle { s.begun i rest (.saving image 0 (s.clock + 29)) with
        loader := { s.loader with sent := [[0x06], [0x02, 0x00, 0x00] ++ image.take 32, [0x05]] } }))
    ∧ (∀ (s : State) (i : Fin 8) (image : List Byte) (p since : Nat), s.cmd.exec = some ⟨i, .saving image p since⟩ →
      (p < 31 → exec .nvmPageReady s = .next (s.settle { s with
        loader := { s.loader with sent :=
          [[0x06], [0x02, BitVec.ofNat 8 ((32 * (p + 1)) / 256), BitVec.ofNat 8 (32 * (p + 1))]
            ++ (image.drop (32 * (p + 1))).take 32, [0x05]] }
        cmd := { s.cmd with exec := some ⟨i, .saving image (p + 1) (s.clock + 29)⟩ } }))
      ∧ (31 ≤ p → exec .nvmPageReady s = .next (s.settle { s with
        loader := { s.loader with sent := [[0x05], [0x03, 0x00, 0x00]] }
        cmd := { s.cmd with exec := some ⟨i, .verifying image⟩ } }))
      ∧ ((s.gate.due = [] ∨ since + 2000 ≤ s.clock) →
        exec .nvmPageTimeout s = .next (s.settle (State.queueCompletion { s with
          clock := max s.clock (since + 2000 - 1)
          cmd := { s.cmd with exec := some ⟨i, .completing⟩ } } i .nvmFault)))
      ∧ (s.gate.due ≠ [] → s.clock < since + 2000 → exec .nvmPageTimeout s = .next (s.settle s)))
    ∧ (∀ s : State,
      let c := s.savedConfig
      (∀ t, s.path.windows = some t → c.windows = t)
        ∧ ((∀ d, s.det.pending = some d → c.det = d) ∧ (s.det.pending = none → c.det = s.det.settings))
        ∧ ((∀ e, s.ev.pending = some e → c.event = e) ∧ (s.ev.pending = none → c.event = s.ev.settings))
        ∧ (c.policy = s.zone.policy ∧ c.pmin = s.tacho.pmin ∧ c.pmax = s.tacho.pmax ∧ c.tacho = s.tacho.settings)
        ∧ (∀ i : Fin 5, c.lines[i] = s.lines[i].settings)
        ∧ ((∀ p, s.gate.staged = some p → c.program = p)
          ∧ (s.gate.staged = none → ∀ p, s.gate.active = some p → c.program = p))
        ∧ (c.enables = s.notice.enables ∧ c.levels = s.notice.levels ∧ c.batchEvent = s.notice.batchEvent.count
          ∧ c.batchCycle = s.notice.batchCycle.count ∧ c.clearMode = s.notice.clearMode)
        ∧ (c.sources = s.notice.sources ∧ c.stopMode = s.notice.mode ∧ c.stopK = s.notice.k)
        ∧ (c.initialType = s.zone.mouldType ∧ c.profiles = s.loader.stored))
    ∧ ∀ (s : State) (i : Fin 8) (image bytes : List Byte) (status : Byte), s.cmd.exec = some ⟨i, .verifying image⟩ →
      let done (code : Code) : State :=
        State.queueCompletion { s with cmd := { s.cmd with exec := some ⟨i, .completing⟩ } } i code
      (status ≠ 0xFF → bytes = image → exec (.nvmReadback status bytes) s = .next (s.settle (done .done)))
        ∧ ((status = 0xFF ∨ bytes ≠ image) → exec (.nvmReadback status bytes) s = .next (s.settle (done .nvmFault)))
end

