-- ==== Sys2Proof/Laws/Memory.lean ====
section
/-! SUPPORT. The SRAM: every operation keeps the canonical form, and a read after a write gives what was written there and what stood elsewhere. -/

namespace Sys2Proof.Machine

/-! ## The canonical form -/

theorem Memory.wfFrom_mono {lo lo' : Nat} (h : lo' ≤ lo) : ∀ {m : Memory}, Memory.wfFrom lo m = true → Memory.wfFrom lo' m = true
  | [], _ => rfl
  | (k, b) :: rest, hm => by
    simp only [Memory.wfFrom, Bool.and_eq_true, decide_eq_true_eq] at hm ⊢
    exact ⟨⟨h.trans hm.1.1, hm.1.2⟩, hm.2⟩

theorem Memory.cons_wfFrom {lo a : Nat} {m : Memory} (b : Byte) (ha : lo ≤ a) (hm : Memory.wfFrom (a + 1) m = true) :
    Memory.wfFrom lo (Memory.cons a b m) = true := by
  unfold Memory.cons
  split
  · exact Memory.wfFrom_mono (by omega) hm
  · next hb => simp [Memory.wfFrom, ha, hm, hb]

theorem Memory.write_wfFrom {lo a : Nat} (b : Byte) (ha : lo ≤ a) :
    ∀ {m : Memory}, Memory.wfFrom lo m = true → Memory.wfFrom lo (Memory.write m a b) = true
  | [], _ => Memory.cons_wfFrom b ha rfl
  | (k, c) :: rest, hm => by
    simp only [Memory.wfFrom, Bool.and_eq_true, decide_eq_true_eq] at hm
    simp only [Memory.write]
    split
    · next hlt =>
      refine Memory.cons_wfFrom b ha ?_
      simp only [Memory.wfFrom, Bool.and_eq_true, decide_eq_true_eq]
      exact ⟨⟨hlt, hm.1.2⟩, hm.2⟩
    · split
      · next heq => subst heq; exact Memory.cons_wfFrom b ha hm.2
      · next hne heq =>
        simp only [Memory.wfFrom, Bool.and_eq_true, decide_eq_true_eq]
        exact ⟨hm.1, Memory.write_wfFrom b (by omega) hm.2⟩

/-- A byte write keeps the canonical form. -/
theorem Memory.write_wf {m : Memory} (a : Nat) (b : Byte) (h : m.wf = true) : (m.write a b).wf = true :=
  Memory.write_wfFrom b (Nat.zero_le a) h

theorem Memory.writeLane_wf {m : Memory} (a : Nat) (lanes : Lanes) (w : Word) (n : Nat) (h : m.wf = true) :
    (m.writeLane a lanes w n).wf = true := by
  unfold Memory.writeLane
  split
  · exact Memory.write_wf _ _ h
  · exact h

/-- A word write keeps the canonical form. -/
theorem Memory.writeWord_wf {m : Memory} (a : Nat) (lanes : Lanes) (w : Word) (h : m.wf = true) :
    (m.writeWord a lanes w).wf = true :=
  Memory.writeLane_wf _ _ _ _ (Memory.writeLane_wf _ _ _ _ (Memory.writeLane_wf _ _ _ _ (Memory.writeLane_wf _ _ _ _ h)))

/-! ## Read after write -/

theorem Memory.read_below {lo a : Nat} (ha : a < lo) : ∀ {m : Memory}, Memory.wfFrom lo m = true → m.read a = Memory.unlisted
  | [], _ => rfl
  | (k, b) :: rest, hm => by
    simp only [Memory.wfFrom, Bool.and_eq_true, decide_eq_true_eq] at hm
    have hne : a ≠ k := by omega
    simp only [Memory.read, hne, if_false]
    exact Memory.read_below (by omega) hm.2

theorem Memory.read_cons_same {a : Nat} {m : Memory} (b : Byte) (hm : Memory.wfFrom (a + 1) m = true) :
    (Memory.cons a b m).read a = b := by
  unfold Memory.cons
  split
  · next hb => rw [hb]; exact Memory.read_below (Nat.lt_succ_self a) hm
  · simp [Memory.read]

theorem Memory.read_cons_other {a a' : Nat} (m : Memory) (b : Byte) (h : a' ≠ a) : (Memory.cons a b m).read a' = m.read a' := by
  unfold Memory.cons
  split
  · rfl
  · simp [Memory.read, h]

/-- A byte written reads back. -/
theorem Memory.read_write_same (a : Nat) (b : Byte) :
    ∀ {lo : Nat} {m : Memory}, Memory.wfFrom lo m = true → (m.write a b).read a = b
  | _, [], _ => Memory.read_cons_same b rfl
  | _, (k, c) :: rest, hm => by
    simp only [Memory.wfFrom, Bool.and_eq_true, decide_eq_true_eq] at hm
    simp only [Memory.write]
    split
    · next hlt =>
      refine Memory.read_cons_same b ?_
      simp only [Memory.wfFrom, Bool.and_eq_true, decide_eq_true_eq]
      exact ⟨⟨hlt, hm.1.2⟩, hm.2⟩
    · split
      · next heq => subst heq; exact Memory.read_cons_same b hm.2
      · next hne => simp only [Memory.read, hne, if_false]; exact Memory.read_write_same a b hm.2

/-- A byte write leaves every other byte as it was. -/
theorem Memory.read_write_other {a a' : Nat} (b : Byte) (h : a' ≠ a) : ∀ m : Memory, (m.write a b).read a' = m.read a'
  | [] => Memory.read_cons_other [] b h
  | (k, c) :: rest => by
    simp only [Memory.write]
    split
    · exact Memory.read_cons_other _ b h
    · split
      · next heq => rw [Memory.read_cons_other _ b h]; subst heq; simp [Memory.read, h]
      · simp only [Memory.read]
        split
        · rfl
        · exact Memory.read_write_other b h rest

theorem Memory.read_writeLane_other {a' : Nat} (m : Memory) (a : Nat) (lanes : Lanes) (w : Word) (n : Nat)
    (h : a' ≠ wordBase a + n) : (m.writeLane a lanes w n).read a' = m.read a' := by
  unfold Memory.writeLane
  split
  · exact Memory.read_write_other _ h _
  · rfl

/-- A word write leaves every byte outside the word as it was. -/
theorem Memory.read_writeWord_outside (m : Memory) (a : Nat) (lanes : Lanes) (w : Word) {a' : Nat}
    (h : a' < wordBase a ∨ wordBase a + 4 ≤ a') : (m.writeWord a lanes w).read a' = m.read a' := by
  unfold Memory.writeWord
  rw [Memory.read_writeLane_other _ _ _ _ _ (by omega), Memory.read_writeLane_other _ _ _ _ _ (by omega),
    Memory.read_writeLane_other _ _ _ _ _ (by omega), Memory.read_writeLane_other _ _ _ _ _ (by omega)]

/-- Byte lane `n` after a lane write: the new byte where the lane is enabled, the old one where it is not. -/
theorem Memory.read_writeLane_same {m : Memory} (a : Nat) (lanes : Lanes) (w : Word) (n : Nat) (h : m.wf = true) :
    (m.writeLane a lanes w n).read (wordBase a + n)
      = if lanes.getLsbD n then byteOf w n else m.read (wordBase a + n) := by
  unfold Memory.writeLane
  split
  · exact Memory.read_write_same _ _ h
  · rfl

/-- Byte lane `n` of a word after a word write (R1). -/
theorem Memory.read_writeWord_lane {m : Memory} (a : Nat) (lanes : Lanes) (w : Word) (n : Fin 4) (h : m.wf = true) :
    (m.writeWord a lanes w).read (wordBase a + n)
      = if lanes.getLsbD n then byteOf w n else m.read (wordBase a + n) := by
  have h0 := Memory.writeLane_wf a lanes w 0 h
  have h1 := Memory.writeLane_wf a lanes w 1 h0
  have h2 := Memory.writeLane_wf a lanes w 2 h1
  unfold Memory.writeWord
  match n with
  | ⟨0, _⟩ =>
    rw [Memory.read_writeLane_other _ _ _ _ 3 (by simp), Memory.read_writeLane_other _ _ _ _ 2 (by simp),
      Memory.read_writeLane_other _ _ _ _ 1 (by simp)]
    exact Memory.read_writeLane_same a lanes w 0 h
  | ⟨1, _⟩ =>
    rw [Memory.read_writeLane_other _ _ _ _ 3 (by simp), Memory.read_writeLane_other _ _ _ _ 2 (by simp)]
    rw [Memory.read_writeLane_same a lanes w 1 h0, Memory.read_writeLane_other _ _ _ _ 0 (by simp)]
  | ⟨2, _⟩ =>
    rw [Memory.read_writeLane_other _ _ _ _ 3 (by simp)]
    rw [Memory.read_writeLane_same a lanes w 2 h1, Memory.read_writeLane_other _ _ _ _ 1 (by simp),
      Memory.read_writeLane_other _ _ _ _ 0 (by simp)]
  | ⟨3, _⟩ =>
    rw [Memory.read_writeLane_same a lanes w 3 h2, Memory.read_writeLane_other _ _ _ _ 2 (by simp),
      Memory.read_writeLane_other _ _ _ _ 1 (by simp), Memory.read_writeLane_other _ _ _ _ 0 (by simp)]

end Sys2Proof.Machine
end

