-- ==== Sys2Proof/Laws/PerInstr.lean ====
section
/-! SUPPORT. For each command: it is well formed exactly when its operands have the shape the rows ask for. -/

namespace Sys2Proof.Laws.WellFormedShape

/-- A command is well formed exactly when an image that it carries has 1,024 bytes (R159) and an order of edge events that it
carries names no line twice (R36). -/
def Statement (i : Instr) : Prop :=
  i.wellFormed = true ↔
    (∀ status bytes, i = .imageRead status bytes ∨ i = .nvmReadback status bytes → bytes.length = 1024)
      ∧ ∀ pins order, i = .lineSample pins order → order.lines.Nodup

theorem coldReset : Statement .coldReset := by simp [Statement, Instr.wellFormed]

theorem resetRelease : Statement .resetRelease := by simp [Statement, Instr.wellFormed]

theorem imageRead (status : Byte) (bytes : List Byte) : Statement (.imageRead status bytes) := by simp [Statement, Instr.wellFormed, imageLength]

theorem imageRetry : Statement .imageRetry := by simp [Statement, Instr.wellFormed]

theorem runningEntry : Statement .runningEntry := by simp [Statement, Instr.wellFormed]

theorem busAccess (addr : Addr) (op : BusOp) : Statement (.busAccess addr op) := by simp [Statement, Instr.wellFormed]

theorem busAccessComplete : Statement .busAccessComplete := by simp [Statement, Instr.wellFormed]

theorem sampleWrite (moment : WriteMoment) : Statement (.sampleWrite moment) := by simp [Statement, Instr.wellFormed]

theorem commandWindowWrite : Statement .commandWindowWrite := by simp [Statement, Instr.wellFormed]

theorem noticeControlWord : Statement .noticeControlWord := by simp [Statement, Instr.wellFormed]

theorem consumerIndex : Statement .consumerIndex := by simp [Statement, Instr.wellFormed]

theorem internalAccessComplete (first : Option Source) : Statement (.internalAccessComplete first) := by simp [Statement, Instr.wellFormed]

theorem waitingRequestPlaced (source : Source) : Statement (.waitingRequestPlaced source) := by simp [Statement, Instr.wellFormed]

theorem lineSample (pins : Vector Bool 5) (order : EdgeOrder) : Statement (.lineSample pins order) := by
  simp [Statement, Instr.wellFormed]

theorem tachoSample (pin : Bool) : Statement (.tachoSample pin) := by simp [Statement, Instr.wellFormed]

theorem tachoStall : Statement .tachoStall := by simp [Statement, Instr.wellFormed]

theorem delayEnd : Statement .delayEnd := by simp [Statement, Instr.wellFormed]

theorem edgeTimeout : Statement .edgeTimeout := by simp [Statement, Instr.wellFormed]

theorem frameTaken : Statement .frameTaken := by simp [Statement, Instr.wellFormed]

theorem sampleSet : Statement .sampleSet := by simp [Statement, Instr.wellFormed]

theorem hitEnd (channel : Fin 4) : Statement (.hitEnd channel) := by simp [Statement, Instr.wellFormed]

theorem longHit (channel : Fin 4) : Statement (.longHit channel) := by simp [Statement, Instr.wellFormed]

theorem holdoffEnd (channel : Fin 4) : Statement (.holdoffEnd channel) := by simp [Statement, Instr.wellFormed]

theorem lockoutEnd (channel : Fin 4) : Statement (.lockoutEnd channel) := by simp [Statement, Instr.wellFormed]

theorem windowPassed : Statement .windowPassed := by simp [Statement, Instr.wellFormed]

theorem eventComplete : Statement .eventComplete := by simp [Statement, Instr.wellFormed]

theorem captureTrigger : Statement .captureTrigger := by simp [Statement, Instr.wellFormed]

theorem freeze : Statement .freeze := by simp [Statement, Instr.wellFormed]

theorem recordTaken : Statement .recordTaken := by simp [Statement, Instr.wellFormed]

theorem statusBlockUpdate : Statement .statusBlockUpdate := by simp [Statement, Instr.wellFormed]

theorem cycleEndEvaluation : Statement .cycleEndEvaluation := by simp [Statement, Instr.wellFormed]

theorem batchCounter (kind : BatchKind) : Statement (.batchCounter kind) := by simp [Statement, Instr.wellFormed]

theorem stopPulseExpiry : Statement .stopPulseExpiry := by simp [Statement, Instr.wellFormed]

theorem nop : Statement .nop := by simp [Statement, Instr.wellFormed]

theorem setDetector : Statement .setDetector := by simp [Statement, Instr.wellFormed]

theorem setEvent : Statement .setEvent := by simp [Statement, Instr.wellFormed]

theorem setWeights : Statement .setWeights := by simp [Statement, Instr.wellFormed]

theorem setZonePolicy : Statement .setZonePolicy := by simp [Statement, Instr.wellFormed]

theorem loadGateProgram : Statement .loadGateProgram := by simp [Statement, Instr.wellFormed]

theorem setLine : Statement .setLine := by simp [Statement, Instr.wellFormed]

theorem setTachoBand : Statement .setTachoBand := by simp [Statement, Instr.wellFormed]

theorem setLocationEntry : Statement .setLocationEntry := by simp [Statement, Instr.wellFormed]

theorem loadLocationTable : Statement .loadLocationTable := by simp [Statement, Instr.wellFormed]

theorem mouldChange : Statement .mouldChange := by simp [Statement, Instr.wellFormed]

theorem maskZone : Statement .maskZone := by simp [Statement, Instr.wellFormed]

theorem unmaskZone : Statement .unmaskZone := by simp [Statement, Instr.wellFormed]

theorem resetZone : Statement .resetZone := by simp [Statement, Instr.wellFormed]

theorem releaseCapture : Statement .releaseCapture := by simp [Statement, Instr.wellFormed]

theorem stopRelease : Statement .stopRelease := by simp [Statement, Instr.wellFormed]

theorem setNotice : Statement .setNotice := by simp [Statement, Instr.wellFormed]

theorem setStop : Statement .setStop := by simp [Statement, Instr.wellFormed]

theorem zoneReport : Statement .zoneReport := by simp [Statement, Instr.wellFormed]

theorem saveConfiguration : Statement .saveConfiguration := by simp [Statement, Instr.wellFormed]

theorem nvmPageReady : Statement .nvmPageReady := by simp [Statement, Instr.wellFormed]

theorem nvmPageTimeout : Statement .nvmPageTimeout := by simp [Statement, Instr.wellFormed]

theorem nvmReadback (status : Byte) (bytes : List Byte) : Statement (.nvmReadback status bytes) := by simp [Statement, Instr.wellFormed, imageLength]

theorem reload : Statement .reload := by simp [Statement, Instr.wellFormed]

end Sys2Proof.Laws.WellFormedShape
end

