-- ==== Sys2Proof/Laws/State.lean ====
section
/-! SUPPORT. What each named update of the state leaves alone, field by field, and the value it gives; every one true by unfolding. -/

namespace Sys2Proof.Machine

/-! ### `State.place` -/

@[simp] theorem State.place_pending (s : State) (r : Request) : (s.place r).pending = s.pending := rfl
@[simp] theorem State.place_mem (s : State) (r : Request) : (s.place r).mem = s.mem := rfl
@[simp] theorem State.place_path (s : State) (r : Request) : (s.place r).path = s.path := rfl
@[simp] theorem State.place_loader (s : State) (r : Request) : (s.place r).loader = s.loader := rfl
@[simp] theorem State.place_asm (s : State) (r : Request) : (s.place r).asm = s.asm := rfl
@[simp] theorem State.place_aq (s : State) (r : Request) : (s.place r).aq = s.aq := rfl
@[simp] theorem State.place_lines (s : State) (r : Request) : (s.place r).lines = s.lines := rfl
@[simp] theorem State.place_tacho (s : State) (r : Request) : (s.place r).tacho = s.tacho := rfl
@[simp] theorem State.place_gate (s : State) (r : Request) : (s.place r).gate = s.gate := rfl
@[simp] theorem State.place_det (s : State) (r : Request) : (s.place r).det = s.det := rfl
@[simp] theorem State.place_ev (s : State) (r : Request) : (s.place r).ev = s.ev := rfl
@[simp] theorem State.place_zone (s : State) (r : Request) : (s.place r).zone = s.zone := rfl
@[simp] theorem State.place_cap (s : State) (r : Request) : (s.place r).cap = s.cap := rfl
@[simp] theorem State.place_report (s : State) (r : Request) : (s.place r).report = s.report := rfl
@[simp] theorem State.place_status (s : State) (r : Request) : (s.place r).status = s.status := rfl
@[simp] theorem State.place_notice (s : State) (r : Request) : (s.place r).notice = s.notice := rfl
@[simp] theorem State.place_cmd (s : State) (r : Request) : (s.place r).cmd = s.cmd := rfl
@[simp] theorem State.place_clock (s : State) (r : Request) : (s.place r).clock = s.clock := rfl
@[simp] theorem State.place_free (s : State) (r : Request) : (s.place r).free = s.free := rfl
@[simp] theorem State.place_iq (s : State) (r : Request) : (s.place r).iq = s.iq ++ [r] := rfl

/-! ### `State.handOver` -/

@[simp] theorem State.handOver_pending (s : State) (r : Record) : (s.handOver r).pending = s.pending := rfl
@[simp] theorem State.handOver_mem (s : State) (r : Record) : (s.handOver r).mem = s.mem := rfl
@[simp] theorem State.handOver_path (s : State) (r : Record) : (s.handOver r).path = s.path := rfl
@[simp] theorem State.handOver_iq (s : State) (r : Record) : (s.handOver r).iq = s.iq := rfl
@[simp] theorem State.handOver_loader (s : State) (r : Record) : (s.handOver r).loader = s.loader := rfl
@[simp] theorem State.handOver_asm (s : State) (r : Record) : (s.handOver r).asm = s.asm := rfl
@[simp] theorem State.handOver_aq (s : State) (r : Record) : (s.handOver r).aq = s.aq := rfl
@[simp] theorem State.handOver_lines (s : State) (r : Record) : (s.handOver r).lines = s.lines := rfl
@[simp] theorem State.handOver_tacho (s : State) (r : Record) : (s.handOver r).tacho = s.tacho := rfl
@[simp] theorem State.handOver_gate (s : State) (r : Record) : (s.handOver r).gate = s.gate := rfl
@[simp] theorem State.handOver_det (s : State) (r : Record) : (s.handOver r).det = s.det := rfl
@[simp] theorem State.handOver_ev (s : State) (r : Record) : (s.handOver r).ev = s.ev := rfl
@[simp] theorem State.handOver_zone (s : State) (r : Record) : (s.handOver r).zone = s.zone := rfl
@[simp] theorem State.handOver_cap (s : State) (r : Record) : (s.handOver r).cap = s.cap := rfl
@[simp] theorem State.handOver_status (s : State) (r : Record) : (s.handOver r).status = s.status := rfl
@[simp] theorem State.handOver_notice (s : State) (r : Record) : (s.handOver r).notice = s.notice := rfl
@[simp] theorem State.handOver_cmd (s : State) (r : Record) : (s.handOver r).cmd = s.cmd := rfl
@[simp] theorem State.handOver_clock (s : State) (r : Record) : (s.handOver r).clock = s.clock := rfl
@[simp] theorem State.handOver_free (s : State) (r : Record) : (s.handOver r).free = s.free := rfl
@[simp] theorem State.handOver_report (s : State) (r : Record) : (s.handOver r).report = { s.report with handed := s.report.handed ++ [r] } := rfl

/-! ### `State.setTag` -/

@[simp] theorem State.setTag_pending (s : State) (p : Fin 48) (t : ContentTag) : (s.setTag p t).pending = s.pending := rfl
@[simp] theorem State.setTag_mem (s : State) (p : Fin 48) (t : ContentTag) : (s.setTag p t).mem = s.mem := rfl
@[simp] theorem State.setTag_path (s : State) (p : Fin 48) (t : ContentTag) : (s.setTag p t).path = s.path := rfl
@[simp] theorem State.setTag_iq (s : State) (p : Fin 48) (t : ContentTag) : (s.setTag p t).iq = s.iq := rfl
@[simp] theorem State.setTag_loader (s : State) (p : Fin 48) (t : ContentTag) : (s.setTag p t).loader = s.loader := rfl
@[simp] theorem State.setTag_aq (s : State) (p : Fin 48) (t : ContentTag) : (s.setTag p t).aq = s.aq := rfl
@[simp] theorem State.setTag_lines (s : State) (p : Fin 48) (t : ContentTag) : (s.setTag p t).lines = s.lines := rfl
@[simp] theorem State.setTag_tacho (s : State) (p : Fin 48) (t : ContentTag) : (s.setTag p t).tacho = s.tacho := rfl
@[simp] theorem State.setTag_gate (s : State) (p : Fin 48) (t : ContentTag) : (s.setTag p t).gate = s.gate := rfl
@[simp] theorem State.setTag_det (s : State) (p : Fin 48) (t : ContentTag) : (s.setTag p t).det = s.det := rfl
@[simp] theorem State.setTag_ev (s : State) (p : Fin 48) (t : ContentTag) : (s.setTag p t).ev = s.ev := rfl
@[simp] theorem State.setTag_zone (s : State) (p : Fin 48) (t : ContentTag) : (s.setTag p t).zone = s.zone := rfl
@[simp] theorem State.setTag_cap (s : State) (p : Fin 48) (t : ContentTag) : (s.setTag p t).cap = s.cap := rfl
@[simp] theorem State.setTag_report (s : State) (p : Fin 48) (t : ContentTag) : (s.setTag p t).report = s.report := rfl
@[simp] theorem State.setTag_status (s : State) (p : Fin 48) (t : ContentTag) : (s.setTag p t).status = s.status := rfl
@[simp] theorem State.setTag_notice (s : State) (p : Fin 48) (t : ContentTag) : (s.setTag p t).notice = s.notice := rfl
@[simp] theorem State.setTag_cmd (s : State) (p : Fin 48) (t : ContentTag) : (s.setTag p t).cmd = s.cmd := rfl
@[simp] theorem State.setTag_clock (s : State) (p : Fin 48) (t : ContentTag) : (s.setTag p t).clock = s.clock := rfl
@[simp] theorem State.setTag_free (s : State) (p : Fin 48) (t : ContentTag) : (s.setTag p t).free = s.free := rfl
@[simp] theorem State.setTag_asm (s : State) (p : Fin 48) (t : ContentTag) : (s.setTag p t).asm = s.asm.setTag p t := rfl

/-! ### `State.modCapture` -/

@[simp] theorem State.modCapture_pending (s : State) (c : Fin 4) (f : Capture → Capture) : (s.modCapture c f).pending = s.pending := rfl
@[simp] theorem State.modCapture_mem (s : State) (c : Fin 4) (f : Capture → Capture) : (s.modCapture c f).mem = s.mem := rfl
@[simp] theorem State.modCapture_path (s : State) (c : Fin 4) (f : Capture → Capture) : (s.modCapture c f).path = s.path := rfl
@[simp] theorem State.modCapture_iq (s : State) (c : Fin 4) (f : Capture → Capture) : (s.modCapture c f).iq = s.iq := rfl
@[simp] theorem State.modCapture_loader (s : State) (c : Fin 4) (f : Capture → Capture) : (s.modCapture c f).loader = s.loader := rfl
@[simp] theorem State.modCapture_asm (s : State) (c : Fin 4) (f : Capture → Capture) : (s.modCapture c f).asm = s.asm := rfl
@[simp] theorem State.modCapture_aq (s : State) (c : Fin 4) (f : Capture → Capture) : (s.modCapture c f).aq = s.aq := rfl
@[simp] theorem State.modCapture_lines (s : State) (c : Fin 4) (f : Capture → Capture) : (s.modCapture c f).lines = s.lines := rfl
@[simp] theorem State.modCapture_tacho (s : State) (c : Fin 4) (f : Capture → Capture) : (s.modCapture c f).tacho = s.tacho := rfl
@[simp] theorem State.modCapture_gate (s : State) (c : Fin 4) (f : Capture → Capture) : (s.modCapture c f).gate = s.gate := rfl
@[simp] theorem State.modCapture_det (s : State) (c : Fin 4) (f : Capture → Capture) : (s.modCapture c f).det = s.det := rfl
@[simp] theorem State.modCapture_ev (s : State) (c : Fin 4) (f : Capture → Capture) : (s.modCapture c f).ev = s.ev := rfl
@[simp] theorem State.modCapture_zone (s : State) (c : Fin 4) (f : Capture → Capture) : (s.modCapture c f).zone = s.zone := rfl
@[simp] theorem State.modCapture_report (s : State) (c : Fin 4) (f : Capture → Capture) : (s.modCapture c f).report = s.report := rfl
@[simp] theorem State.modCapture_status (s : State) (c : Fin 4) (f : Capture → Capture) : (s.modCapture c f).status = s.status := rfl
@[simp] theorem State.modCapture_notice (s : State) (c : Fin 4) (f : Capture → Capture) : (s.modCapture c f).notice = s.notice := rfl
@[simp] theorem State.modCapture_cmd (s : State) (c : Fin 4) (f : Capture → Capture) : (s.modCapture c f).cmd = s.cmd := rfl
@[simp] theorem State.modCapture_clock (s : State) (c : Fin 4) (f : Capture → Capture) : (s.modCapture c f).clock = s.clock := rfl
@[simp] theorem State.modCapture_free (s : State) (c : Fin 4) (f : Capture → Capture) : (s.modCapture c f).free = s.free := rfl
@[simp] theorem State.modCapture_cap (s : State) (c : Fin 4) (f : Capture → Capture) : (s.modCapture c f).cap = s.cap.modEntry c f := rfl

/-! ### `State.setChan` -/

@[simp] theorem State.setChan_pending (s : State) (c : Fin 4) (ch : Channel) : (s.setChan c ch).pending = s.pending := rfl
@[simp] theorem State.setChan_mem (s : State) (c : Fin 4) (ch : Channel) : (s.setChan c ch).mem = s.mem := rfl
@[simp] theorem State.setChan_path (s : State) (c : Fin 4) (ch : Channel) : (s.setChan c ch).path = s.path := rfl
@[simp] theorem State.setChan_iq (s : State) (c : Fin 4) (ch : Channel) : (s.setChan c ch).iq = s.iq := rfl
@[simp] theorem State.setChan_loader (s : State) (c : Fin 4) (ch : Channel) : (s.setChan c ch).loader = s.loader := rfl
@[simp] theorem State.setChan_asm (s : State) (c : Fin 4) (ch : Channel) : (s.setChan c ch).asm = s.asm := rfl
@[simp] theorem State.setChan_aq (s : State) (c : Fin 4) (ch : Channel) : (s.setChan c ch).aq = s.aq := rfl
@[simp] theorem State.setChan_lines (s : State) (c : Fin 4) (ch : Channel) : (s.setChan c ch).lines = s.lines := rfl
@[simp] theorem State.setChan_tacho (s : State) (c : Fin 4) (ch : Channel) : (s.setChan c ch).tacho = s.tacho := rfl
@[simp] theorem State.setChan_gate (s : State) (c : Fin 4) (ch : Channel) : (s.setChan c ch).gate = s.gate := rfl
@[simp] theorem State.setChan_ev (s : State) (c : Fin 4) (ch : Channel) : (s.setChan c ch).ev = s.ev := rfl
@[simp] theorem State.setChan_zone (s : State) (c : Fin 4) (ch : Channel) : (s.setChan c ch).zone = s.zone := rfl
@[simp] theorem State.setChan_cap (s : State) (c : Fin 4) (ch : Channel) : (s.setChan c ch).cap = s.cap := rfl
@[simp] theorem State.setChan_report (s : State) (c : Fin 4) (ch : Channel) : (s.setChan c ch).report = s.report := rfl
@[simp] theorem State.setChan_status (s : State) (c : Fin 4) (ch : Channel) : (s.setChan c ch).status = s.status := rfl
@[simp] theorem State.setChan_notice (s : State) (c : Fin 4) (ch : Channel) : (s.setChan c ch).notice = s.notice := rfl
@[simp] theorem State.setChan_cmd (s : State) (c : Fin 4) (ch : Channel) : (s.setChan c ch).cmd = s.cmd := rfl
@[simp] theorem State.setChan_clock (s : State) (c : Fin 4) (ch : Channel) : (s.setChan c ch).clock = s.clock := rfl
@[simp] theorem State.setChan_free (s : State) (c : Fin 4) (ch : Channel) : (s.setChan c ch).free = s.free := rfl
@[simp] theorem State.setChan_det (s : State) (c : Fin 4) (ch : Channel) : (s.setChan c ch).det = { s.det with chans := s.det.chans.set c ch } := rfl

/-! ### `State.setChanState` -/

@[simp] theorem State.setChanState_pending (s : State) (c : Fin 4) (st : ChanState) : (s.setChanState c st).pending = s.pending := rfl
@[simp] theorem State.setChanState_mem (s : State) (c : Fin 4) (st : ChanState) : (s.setChanState c st).mem = s.mem := rfl
@[simp] theorem State.setChanState_path (s : State) (c : Fin 4) (st : ChanState) : (s.setChanState c st).path = s.path := rfl
@[simp] theorem State.setChanState_iq (s : State) (c : Fin 4) (st : ChanState) : (s.setChanState c st).iq = s.iq := rfl
@[simp] theorem State.setChanState_loader (s : State) (c : Fin 4) (st : ChanState) : (s.setChanState c st).loader = s.loader := rfl
@[simp] theorem State.setChanState_asm (s : State) (c : Fin 4) (st : ChanState) : (s.setChanState c st).asm = s.asm := rfl
@[simp] theorem State.setChanState_aq (s : State) (c : Fin 4) (st : ChanState) : (s.setChanState c st).aq = s.aq := rfl
@[simp] theorem State.setChanState_lines (s : State) (c : Fin 4) (st : ChanState) : (s.setChanState c st).lines = s.lines := rfl
@[simp] theorem State.setChanState_tacho (s : State) (c : Fin 4) (st : ChanState) : (s.setChanState c st).tacho = s.tacho := rfl
@[simp] theorem State.setChanState_gate (s : State) (c : Fin 4) (st : ChanState) : (s.setChanState c st).gate = s.gate := rfl
@[simp] theorem State.setChanState_ev (s : State) (c : Fin 4) (st : ChanState) : (s.setChanState c st).ev = s.ev := rfl
@[simp] theorem State.setChanState_zone (s : State) (c : Fin 4) (st : ChanState) : (s.setChanState c st).zone = s.zone := rfl
@[simp] theorem State.setChanState_cap (s : State) (c : Fin 4) (st : ChanState) : (s.setChanState c st).cap = s.cap := rfl
@[simp] theorem State.setChanState_report (s : State) (c : Fin 4) (st : ChanState) : (s.setChanState c st).report = s.report := rfl
@[simp] theorem State.setChanState_status (s : State) (c : Fin 4) (st : ChanState) : (s.setChanState c st).status = s.status := rfl
@[simp] theorem State.setChanState_notice (s : State) (c : Fin 4) (st : ChanState) : (s.setChanState c st).notice = s.notice := rfl
@[simp] theorem State.setChanState_cmd (s : State) (c : Fin 4) (st : ChanState) : (s.setChanState c st).cmd = s.cmd := rfl
@[simp] theorem State.setChanState_clock (s : State) (c : Fin 4) (st : ChanState) : (s.setChanState c st).clock = s.clock := rfl
@[simp] theorem State.setChanState_free (s : State) (c : Fin 4) (st : ChanState) : (s.setChanState c st).free = s.free := rfl

/-! ### `State.setPhase` -/

@[simp] theorem State.setPhase_pending (s : State) (p : Phase) : (s.setPhase p).pending = s.pending := rfl
@[simp] theorem State.setPhase_mem (s : State) (p : Phase) : (s.setPhase p).mem = s.mem := rfl
@[simp] theorem State.setPhase_path (s : State) (p : Phase) : (s.setPhase p).path = s.path := rfl
@[simp] theorem State.setPhase_iq (s : State) (p : Phase) : (s.setPhase p).iq = s.iq := rfl
@[simp] theorem State.setPhase_loader (s : State) (p : Phase) : (s.setPhase p).loader = s.loader := rfl
@[simp] theorem State.setPhase_asm (s : State) (p : Phase) : (s.setPhase p).asm = s.asm := rfl
@[simp] theorem State.setPhase_lines (s : State) (p : Phase) : (s.setPhase p).lines = s.lines := rfl
@[simp] theorem State.setPhase_tacho (s : State) (p : Phase) : (s.setPhase p).tacho = s.tacho := rfl
@[simp] theorem State.setPhase_gate (s : State) (p : Phase) : (s.setPhase p).gate = s.gate := rfl
@[simp] theorem State.setPhase_det (s : State) (p : Phase) : (s.setPhase p).det = s.det := rfl
@[simp] theorem State.setPhase_ev (s : State) (p : Phase) : (s.setPhase p).ev = s.ev := rfl
@[simp] theorem State.setPhase_zone (s : State) (p : Phase) : (s.setPhase p).zone = s.zone := rfl
@[simp] theorem State.setPhase_cap (s : State) (p : Phase) : (s.setPhase p).cap = s.cap := rfl
@[simp] theorem State.setPhase_report (s : State) (p : Phase) : (s.setPhase p).report = s.report := rfl
@[simp] theorem State.setPhase_status (s : State) (p : Phase) : (s.setPhase p).status = s.status := rfl
@[simp] theorem State.setPhase_notice (s : State) (p : Phase) : (s.setPhase p).notice = s.notice := rfl
@[simp] theorem State.setPhase_cmd (s : State) (p : Phase) : (s.setPhase p).cmd = s.cmd := rfl
@[simp] theorem State.setPhase_clock (s : State) (p : Phase) : (s.setPhase p).clock = s.clock := rfl
@[simp] theorem State.setPhase_free (s : State) (p : Phase) : (s.setPhase p).free = s.free := rfl

/-! ### `State.endWork` -/

@[simp] theorem State.endWork_pending (s : State) : s.endWork.pending = s.pending := rfl
@[simp] theorem State.endWork_mem (s : State) : s.endWork.mem = s.mem := rfl
@[simp] theorem State.endWork_path (s : State) : s.endWork.path = s.path := rfl
@[simp] theorem State.endWork_iq (s : State) : s.endWork.iq = s.iq := rfl
@[simp] theorem State.endWork_loader (s : State) : s.endWork.loader = s.loader := rfl
@[simp] theorem State.endWork_asm (s : State) : s.endWork.asm = s.asm := rfl
@[simp] theorem State.endWork_lines (s : State) : s.endWork.lines = s.lines := rfl
@[simp] theorem State.endWork_tacho (s : State) : s.endWork.tacho = s.tacho := rfl
@[simp] theorem State.endWork_gate (s : State) : s.endWork.gate = s.gate := rfl
@[simp] theorem State.endWork_det (s : State) : s.endWork.det = s.det := rfl
@[simp] theorem State.endWork_ev (s : State) : s.endWork.ev = s.ev := rfl
@[simp] theorem State.endWork_zone (s : State) : s.endWork.zone = s.zone := rfl
@[simp] theorem State.endWork_cap (s : State) : s.endWork.cap = s.cap := rfl
@[simp] theorem State.endWork_report (s : State) : s.endWork.report = s.report := rfl
@[simp] theorem State.endWork_status (s : State) : s.endWork.status = s.status := rfl
@[simp] theorem State.endWork_notice (s : State) : s.endWork.notice = s.notice := rfl
@[simp] theorem State.endWork_cmd (s : State) : s.endWork.cmd = s.cmd := rfl
@[simp] theorem State.endWork_clock (s : State) : s.endWork.clock = s.clock := rfl
@[simp] theorem State.endWork_free (s : State) : s.endWork.free = s.free := rfl
@[simp] theorem State.endWork_aq (s : State) : s.endWork.aq = { s.aq with work := none } := rfl

/-! ### `State.advance` -/

@[simp] theorem State.advance_pending (s : State) (n : Nat) : (s.advance n).pending = s.pending := rfl
@[simp] theorem State.advance_mem (s : State) (n : Nat) : (s.advance n).mem = s.mem := rfl
@[simp] theorem State.advance_path (s : State) (n : Nat) : (s.advance n).path = s.path := rfl
@[simp] theorem State.advance_iq (s : State) (n : Nat) : (s.advance n).iq = s.iq := rfl
@[simp] theorem State.advance_loader (s : State) (n : Nat) : (s.advance n).loader = s.loader := rfl
@[simp] theorem State.advance_aq (s : State) (n : Nat) : (s.advance n).aq = s.aq := rfl
@[simp] theorem State.advance_lines (s : State) (n : Nat) : (s.advance n).lines = s.lines := rfl
@[simp] theorem State.advance_tacho (s : State) (n : Nat) : (s.advance n).tacho = s.tacho := rfl
@[simp] theorem State.advance_gate (s : State) (n : Nat) : (s.advance n).gate = s.gate := rfl
@[simp] theorem State.advance_det (s : State) (n : Nat) : (s.advance n).det = s.det := rfl
@[simp] theorem State.advance_ev (s : State) (n : Nat) : (s.advance n).ev = s.ev := rfl
@[simp] theorem State.advance_zone (s : State) (n : Nat) : (s.advance n).zone = s.zone := rfl
@[simp] theorem State.advance_cap (s : State) (n : Nat) : (s.advance n).cap = s.cap := rfl
@[simp] theorem State.advance_report (s : State) (n : Nat) : (s.advance n).report = s.report := rfl
@[simp] theorem State.advance_status (s : State) (n : Nat) : (s.advance n).status = s.status := rfl
@[simp] theorem State.advance_notice (s : State) (n : Nat) : (s.advance n).notice = s.notice := rfl
@[simp] theorem State.advance_cmd (s : State) (n : Nat) : (s.advance n).cmd = s.cmd := rfl
@[simp] theorem State.advance_clock (s : State) (n : Nat) : (s.advance n).clock = s.clock := rfl
@[simp] theorem State.advance_free (s : State) (n : Nat) : (s.advance n).free = s.free := rfl
@[simp] theorem State.advance_asm (s : State) (n : Nat) : (s.advance n).asm = { s.asm with position := advancePosition s.asm.position n } := rfl

/-! ### `State.setJob` -/

@[simp] theorem State.setJob_pending (s : State) (j : Job) : (s.setJob j).pending = s.pending := rfl
@[simp] theorem State.setJob_mem (s : State) (j : Job) : (s.setJob j).mem = s.mem := rfl
@[simp] theorem State.setJob_path (s : State) (j : Job) : (s.setJob j).path = s.path := rfl
@[simp] theorem State.setJob_iq (s : State) (j : Job) : (s.setJob j).iq = s.iq := rfl
@[simp] theorem State.setJob_loader (s : State) (j : Job) : (s.setJob j).loader = s.loader := rfl
@[simp] theorem State.setJob_asm (s : State) (j : Job) : (s.setJob j).asm = s.asm := rfl
@[simp] theorem State.setJob_aq (s : State) (j : Job) : (s.setJob j).aq = s.aq := rfl
@[simp] theorem State.setJob_lines (s : State) (j : Job) : (s.setJob j).lines = s.lines := rfl
@[simp] theorem State.setJob_tacho (s : State) (j : Job) : (s.setJob j).tacho = s.tacho := rfl
@[simp] theorem State.setJob_gate (s : State) (j : Job) : (s.setJob j).gate = s.gate := rfl
@[simp] theorem State.setJob_det (s : State) (j : Job) : (s.setJob j).det = s.det := rfl
@[simp] theorem State.setJob_ev (s : State) (j : Job) : (s.setJob j).ev = s.ev := rfl
@[simp] theorem State.setJob_zone (s : State) (j : Job) : (s.setJob j).zone = s.zone := rfl
@[simp] theorem State.setJob_cap (s : State) (j : Job) : (s.setJob j).cap = s.cap := rfl
@[simp] theorem State.setJob_report (s : State) (j : Job) : (s.setJob j).report = s.report := rfl
@[simp] theorem State.setJob_status (s : State) (j : Job) : (s.setJob j).status = s.status := rfl
@[simp] theorem State.setJob_notice (s : State) (j : Job) : (s.setJob j).notice = s.notice := rfl
@[simp] theorem State.setJob_clock (s : State) (j : Job) : (s.setJob j).clock = s.clock := rfl
@[simp] theorem State.setJob_free (s : State) (j : Job) : (s.setJob j).free = s.free := rfl

/-! ### `State.modSlot` -/

@[simp] theorem State.modSlot_pending (s : State) (i : Fin 8) (f : Slot → Slot) : (s.modSlot i f).pending = s.pending := rfl
@[simp] theorem State.modSlot_mem (s : State) (i : Fin 8) (f : Slot → Slot) : (s.modSlot i f).mem = s.mem := rfl
@[simp] theorem State.modSlot_path (s : State) (i : Fin 8) (f : Slot → Slot) : (s.modSlot i f).path = s.path := rfl
@[simp] theorem State.modSlot_iq (s : State) (i : Fin 8) (f : Slot → Slot) : (s.modSlot i f).iq = s.iq := rfl
@[simp] theorem State.modSlot_loader (s : State) (i : Fin 8) (f : Slot → Slot) : (s.modSlot i f).loader = s.loader := rfl
@[simp] theorem State.modSlot_asm (s : State) (i : Fin 8) (f : Slot → Slot) : (s.modSlot i f).asm = s.asm := rfl
@[simp] theorem State.modSlot_aq (s : State) (i : Fin 8) (f : Slot → Slot) : (s.modSlot i f).aq = s.aq := rfl
@[simp] theorem State.modSlot_lines (s : State) (i : Fin 8) (f : Slot → Slot) : (s.modSlot i f).lines = s.lines := rfl
@[simp] theorem State.modSlot_tacho (s : State) (i : Fin 8) (f : Slot → Slot) : (s.modSlot i f).tacho = s.tacho := rfl
@[simp] theorem State.modSlot_gate (s : State) (i : Fin 8) (f : Slot → Slot) : (s.modSlot i f).gate = s.gate := rfl
@[simp] theorem State.modSlot_det (s : State) (i : Fin 8) (f : Slot → Slot) : (s.modSlot i f).det = s.det := rfl
@[simp] theorem State.modSlot_ev (s : State) (i : Fin 8) (f : Slot → Slot) : (s.modSlot i f).ev = s.ev := rfl
@[simp] theorem State.modSlot_zone (s : State) (i : Fin 8) (f : Slot → Slot) : (s.modSlot i f).zone = s.zone := rfl
@[simp] theorem State.modSlot_cap (s : State) (i : Fin 8) (f : Slot → Slot) : (s.modSlot i f).cap = s.cap := rfl
@[simp] theorem State.modSlot_report (s : State) (i : Fin 8) (f : Slot → Slot) : (s.modSlot i f).report = s.report := rfl
@[simp] theorem State.modSlot_status (s : State) (i : Fin 8) (f : Slot → Slot) : (s.modSlot i f).status = s.status := rfl
@[simp] theorem State.modSlot_notice (s : State) (i : Fin 8) (f : Slot → Slot) : (s.modSlot i f).notice = s.notice := rfl
@[simp] theorem State.modSlot_clock (s : State) (i : Fin 8) (f : Slot → Slot) : (s.modSlot i f).clock = s.clock := rfl
@[simp] theorem State.modSlot_free (s : State) (i : Fin 8) (f : Slot → Slot) : (s.modSlot i f).free = s.free := rfl

/-! ### `State.putZone` -/

@[simp] theorem State.putZone_pending (s : State) (z : Nat) (r : ZoneRecord) : (s.putZone z r).pending = s.pending := rfl
@[simp] theorem State.putZone_mem (s : State) (z : Nat) (r : ZoneRecord) : (s.putZone z r).mem = s.mem := rfl
@[simp] theorem State.putZone_path (s : State) (z : Nat) (r : ZoneRecord) : (s.putZone z r).path = s.path := rfl
@[simp] theorem State.putZone_iq (s : State) (z : Nat) (r : ZoneRecord) : (s.putZone z r).iq = s.iq := rfl
@[simp] theorem State.putZone_loader (s : State) (z : Nat) (r : ZoneRecord) : (s.putZone z r).loader = s.loader := rfl
@[simp] theorem State.putZone_asm (s : State) (z : Nat) (r : ZoneRecord) : (s.putZone z r).asm = s.asm := rfl
@[simp] theorem State.putZone_aq (s : State) (z : Nat) (r : ZoneRecord) : (s.putZone z r).aq = s.aq := rfl
@[simp] theorem State.putZone_lines (s : State) (z : Nat) (r : ZoneRecord) : (s.putZone z r).lines = s.lines := rfl
@[simp] theorem State.putZone_tacho (s : State) (z : Nat) (r : ZoneRecord) : (s.putZone z r).tacho = s.tacho := rfl
@[simp] theorem State.putZone_gate (s : State) (z : Nat) (r : ZoneRecord) : (s.putZone z r).gate = s.gate := rfl
@[simp] theorem State.putZone_det (s : State) (z : Nat) (r : ZoneRecord) : (s.putZone z r).det = s.det := rfl
@[simp] theorem State.putZone_ev (s : State) (z : Nat) (r : ZoneRecord) : (s.putZone z r).ev = s.ev := rfl
@[simp] theorem State.putZone_cap (s : State) (z : Nat) (r : ZoneRecord) : (s.putZone z r).cap = s.cap := rfl
@[simp] theorem State.putZone_report (s : State) (z : Nat) (r : ZoneRecord) : (s.putZone z r).report = s.report := rfl
@[simp] theorem State.putZone_status (s : State) (z : Nat) (r : ZoneRecord) : (s.putZone z r).status = s.status := rfl
@[simp] theorem State.putZone_notice (s : State) (z : Nat) (r : ZoneRecord) : (s.putZone z r).notice = s.notice := rfl
@[simp] theorem State.putZone_cmd (s : State) (z : Nat) (r : ZoneRecord) : (s.putZone z r).cmd = s.cmd := rfl
@[simp] theorem State.putZone_clock (s : State) (z : Nat) (r : ZoneRecord) : (s.putZone z r).clock = s.clock := rfl
@[simp] theorem State.putZone_free (s : State) (z : Nat) (r : ZoneRecord) : (s.putZone z r).free = s.free := rfl
@[simp] theorem State.putZone_zone (s : State) (z : Nat) (r : ZoneRecord) : (s.putZone z r).zone = s.zone.put z r := rfl

/-! ### `State.send` -/

@[simp] theorem State.send_pending (s : State) (l : List (List Byte)) : (s.send l).pending = s.pending := rfl
@[simp] theorem State.send_mem (s : State) (l : List (List Byte)) : (s.send l).mem = s.mem := rfl
@[simp] theorem State.send_path (s : State) (l : List (List Byte)) : (s.send l).path = s.path := rfl
@[simp] theorem State.send_iq (s : State) (l : List (List Byte)) : (s.send l).iq = s.iq := rfl
@[simp] theorem State.send_asm (s : State) (l : List (List Byte)) : (s.send l).asm = s.asm := rfl
@[simp] theorem State.send_aq (s : State) (l : List (List Byte)) : (s.send l).aq = s.aq := rfl
@[simp] theorem State.send_lines (s : State) (l : List (List Byte)) : (s.send l).lines = s.lines := rfl
@[simp] theorem State.send_tacho (s : State) (l : List (List Byte)) : (s.send l).tacho = s.tacho := rfl
@[simp] theorem State.send_gate (s : State) (l : List (List Byte)) : (s.send l).gate = s.gate := rfl
@[simp] theorem State.send_det (s : State) (l : List (List Byte)) : (s.send l).det = s.det := rfl
@[simp] theorem State.send_ev (s : State) (l : List (List Byte)) : (s.send l).ev = s.ev := rfl
@[simp] theorem State.send_zone (s : State) (l : List (List Byte)) : (s.send l).zone = s.zone := rfl
@[simp] theorem State.send_cap (s : State) (l : List (List Byte)) : (s.send l).cap = s.cap := rfl
@[simp] theorem State.send_report (s : State) (l : List (List Byte)) : (s.send l).report = s.report := rfl
@[simp] theorem State.send_status (s : State) (l : List (List Byte)) : (s.send l).status = s.status := rfl
@[simp] theorem State.send_notice (s : State) (l : List (List Byte)) : (s.send l).notice = s.notice := rfl
@[simp] theorem State.send_cmd (s : State) (l : List (List Byte)) : (s.send l).cmd = s.cmd := rfl
@[simp] theorem State.send_clock (s : State) (l : List (List Byte)) : (s.send l).clock = s.clock := rfl
@[simp] theorem State.send_free (s : State) (l : List (List Byte)) : (s.send l).free = s.free := rfl

/-! ### `State.beginAttempt` -/

@[simp] theorem State.beginAttempt_pending (s : State) (b : Bool) : (s.beginAttempt b).pending = s.pending := rfl
@[simp] theorem State.beginAttempt_mem (s : State) (b : Bool) : (s.beginAttempt b).mem = s.mem := rfl
@[simp] theorem State.beginAttempt_path (s : State) (b : Bool) : (s.beginAttempt b).path = s.path := rfl
@[simp] theorem State.beginAttempt_iq (s : State) (b : Bool) : (s.beginAttempt b).iq = s.iq := rfl
@[simp] theorem State.beginAttempt_asm (s : State) (b : Bool) : (s.beginAttempt b).asm = s.asm := rfl
@[simp] theorem State.beginAttempt_aq (s : State) (b : Bool) : (s.beginAttempt b).aq = s.aq := rfl
@[simp] theorem State.beginAttempt_lines (s : State) (b : Bool) : (s.beginAttempt b).lines = s.lines := rfl
@[simp] theorem State.beginAttempt_tacho (s : State) (b : Bool) : (s.beginAttempt b).tacho = s.tacho := rfl
@[simp] theorem State.beginAttempt_gate (s : State) (b : Bool) : (s.beginAttempt b).gate = s.gate := rfl
@[simp] theorem State.beginAttempt_det (s : State) (b : Bool) : (s.beginAttempt b).det = s.det := rfl
@[simp] theorem State.beginAttempt_ev (s : State) (b : Bool) : (s.beginAttempt b).ev = s.ev := rfl
@[simp] theorem State.beginAttempt_zone (s : State) (b : Bool) : (s.beginAttempt b).zone = s.zone := rfl
@[simp] theorem State.beginAttempt_cap (s : State) (b : Bool) : (s.beginAttempt b).cap = s.cap := rfl
@[simp] theorem State.beginAttempt_report (s : State) (b : Bool) : (s.beginAttempt b).report = s.report := rfl
@[simp] theorem State.beginAttempt_status (s : State) (b : Bool) : (s.beginAttempt b).status = s.status := rfl
@[simp] theorem State.beginAttempt_notice (s : State) (b : Bool) : (s.beginAttempt b).notice = s.notice := rfl
@[simp] theorem State.beginAttempt_cmd (s : State) (b : Bool) : (s.beginAttempt b).cmd = s.cmd := rfl
@[simp] theorem State.beginAttempt_clock (s : State) (b : Bool) : (s.beginAttempt b).clock = s.clock := rfl
@[simp] theorem State.beginAttempt_free (s : State) (b : Bool) : (s.beginAttempt b).free = s.free := rfl

/-! ### `State.reach` -/

@[simp] theorem State.reach_pending (s : State) (t : Nat) : (s.reach t).pending = s.pending := rfl
@[simp] theorem State.reach_mem (s : State) (t : Nat) : (s.reach t).mem = s.mem := rfl
@[simp] theorem State.reach_path (s : State) (t : Nat) : (s.reach t).path = s.path := rfl
@[simp] theorem State.reach_iq (s : State) (t : Nat) : (s.reach t).iq = s.iq := rfl
@[simp] theorem State.reach_loader (s : State) (t : Nat) : (s.reach t).loader = s.loader := rfl
@[simp] theorem State.reach_asm (s : State) (t : Nat) : (s.reach t).asm = s.asm := rfl
@[simp] theorem State.reach_aq (s : State) (t : Nat) : (s.reach t).aq = s.aq := rfl
@[simp] theorem State.reach_lines (s : State) (t : Nat) : (s.reach t).lines = s.lines := rfl
@[simp] theorem State.reach_tacho (s : State) (t : Nat) : (s.reach t).tacho = s.tacho := rfl
@[simp] theorem State.reach_gate (s : State) (t : Nat) : (s.reach t).gate = s.gate := rfl
@[simp] theorem State.reach_det (s : State) (t : Nat) : (s.reach t).det = s.det := rfl
@[simp] theorem State.reach_ev (s : State) (t : Nat) : (s.reach t).ev = s.ev := rfl
@[simp] theorem State.reach_zone (s : State) (t : Nat) : (s.reach t).zone = s.zone := rfl
@[simp] theorem State.reach_cap (s : State) (t : Nat) : (s.reach t).cap = s.cap := rfl
@[simp] theorem State.reach_report (s : State) (t : Nat) : (s.reach t).report = s.report := rfl
@[simp] theorem State.reach_status (s : State) (t : Nat) : (s.reach t).status = s.status := rfl
@[simp] theorem State.reach_notice (s : State) (t : Nat) : (s.reach t).notice = s.notice := rfl
@[simp] theorem State.reach_cmd (s : State) (t : Nat) : (s.reach t).cmd = s.cmd := rfl
@[simp] theorem State.reach_free (s : State) (t : Nat) : (s.reach t).free = s.free := rfl
@[simp] theorem State.reach_clock (s : State) (t : Nat) : (s.reach t).clock = max s.clock (t - 1) := rfl

/-! ### `State.raise` -/

@[simp] theorem State.raise_pending (s : State) (f : Nat) : (s.raise f).pending = s.pending := rfl
@[simp] theorem State.raise_mem (s : State) (f : Nat) : (s.raise f).mem = s.mem := rfl
@[simp] theorem State.raise_path (s : State) (f : Nat) : (s.raise f).path = s.path := rfl
@[simp] theorem State.raise_iq (s : State) (f : Nat) : (s.raise f).iq = s.iq := rfl
@[simp] theorem State.raise_loader (s : State) (f : Nat) : (s.raise f).loader = s.loader := rfl
@[simp] theorem State.raise_asm (s : State) (f : Nat) : (s.raise f).asm = s.asm := rfl
@[simp] theorem State.raise_aq (s : State) (f : Nat) : (s.raise f).aq = s.aq := rfl
@[simp] theorem State.raise_lines (s : State) (f : Nat) : (s.raise f).lines = s.lines := rfl
@[simp] theorem State.raise_tacho (s : State) (f : Nat) : (s.raise f).tacho = s.tacho := rfl
@[simp] theorem State.raise_gate (s : State) (f : Nat) : (s.raise f).gate = s.gate := rfl
@[simp] theorem State.raise_det (s : State) (f : Nat) : (s.raise f).det = s.det := rfl
@[simp] theorem State.raise_ev (s : State) (f : Nat) : (s.raise f).ev = s.ev := rfl
@[simp] theorem State.raise_zone (s : State) (f : Nat) : (s.raise f).zone = s.zone := rfl
@[simp] theorem State.raise_cap (s : State) (f : Nat) : (s.raise f).cap = s.cap := rfl
@[simp] theorem State.raise_report (s : State) (f : Nat) : (s.raise f).report = s.report := rfl
@[simp] theorem State.raise_status (s : State) (f : Nat) : (s.raise f).status = s.status := rfl
@[simp] theorem State.raise_cmd (s : State) (f : Nat) : (s.raise f).cmd = s.cmd := rfl
@[simp] theorem State.raise_clock (s : State) (f : Nat) : (s.raise f).clock = s.clock := rfl
@[simp] theorem State.raise_free (s : State) (f : Nat) : (s.raise f).free = s.free := rfl
@[simp] theorem State.raise_notice (s : State) (f : Nat) : (s.raise f).notice = s.notice.raise f s.clock := rfl

/-! ### `State.markWhere` -/

@[simp] theorem State.markWhere_pending (s : State) (p : Nat → Bool) : (s.markWhere p).pending = s.pending := rfl
@[simp] theorem State.markWhere_mem (s : State) (p : Nat → Bool) : (s.markWhere p).mem = s.mem := rfl
@[simp] theorem State.markWhere_path (s : State) (p : Nat → Bool) : (s.markWhere p).path = s.path := rfl
@[simp] theorem State.markWhere_iq (s : State) (p : Nat → Bool) : (s.markWhere p).iq = s.iq := rfl
@[simp] theorem State.markWhere_loader (s : State) (p : Nat → Bool) : (s.markWhere p).loader = s.loader := rfl
@[simp] theorem State.markWhere_asm (s : State) (p : Nat → Bool) : (s.markWhere p).asm = s.asm := rfl
@[simp] theorem State.markWhere_aq (s : State) (p : Nat → Bool) : (s.markWhere p).aq = s.aq := rfl
@[simp] theorem State.markWhere_lines (s : State) (p : Nat → Bool) : (s.markWhere p).lines = s.lines := rfl
@[simp] theorem State.markWhere_tacho (s : State) (p : Nat → Bool) : (s.markWhere p).tacho = s.tacho := rfl
@[simp] theorem State.markWhere_gate (s : State) (p : Nat → Bool) : (s.markWhere p).gate = s.gate := rfl
@[simp] theorem State.markWhere_det (s : State) (p : Nat → Bool) : (s.markWhere p).det = s.det := rfl
@[simp] theorem State.markWhere_ev (s : State) (p : Nat → Bool) : (s.markWhere p).ev = s.ev := rfl
@[simp] theorem State.markWhere_zone (s : State) (p : Nat → Bool) : (s.markWhere p).zone = s.zone := rfl
@[simp] theorem State.markWhere_cap (s : State) (p : Nat → Bool) : (s.markWhere p).cap = s.cap := rfl
@[simp] theorem State.markWhere_report (s : State) (p : Nat → Bool) : (s.markWhere p).report = s.report := rfl
@[simp] theorem State.markWhere_notice (s : State) (p : Nat → Bool) : (s.markWhere p).notice = s.notice := rfl
@[simp] theorem State.markWhere_cmd (s : State) (p : Nat → Bool) : (s.markWhere p).cmd = s.cmd := rfl
@[simp] theorem State.markWhere_clock (s : State) (p : Nat → Bool) : (s.markWhere p).clock = s.clock := rfl
@[simp] theorem State.markWhere_free (s : State) (p : Nat → Bool) : (s.markWhere p).free = s.free := rfl

/-! ### `State.freezeSlot` -/

@[simp] theorem State.freezeSlot_pending (s : State) (c : Fin 4) (l : Fin 32) (q : Half) : (s.freezeSlot c l q).pending = s.pending := rfl
@[simp] theorem State.freezeSlot_mem (s : State) (c : Fin 4) (l : Fin 32) (q : Half) : (s.freezeSlot c l q).mem = s.mem := rfl
@[simp] theorem State.freezeSlot_path (s : State) (c : Fin 4) (l : Fin 32) (q : Half) : (s.freezeSlot c l q).path = s.path := rfl
@[simp] theorem State.freezeSlot_iq (s : State) (c : Fin 4) (l : Fin 32) (q : Half) : (s.freezeSlot c l q).iq = s.iq := rfl
@[simp] theorem State.freezeSlot_loader (s : State) (c : Fin 4) (l : Fin 32) (q : Half) : (s.freezeSlot c l q).loader = s.loader := rfl
@[simp] theorem State.freezeSlot_asm (s : State) (c : Fin 4) (l : Fin 32) (q : Half) : (s.freezeSlot c l q).asm = s.asm := rfl
@[simp] theorem State.freezeSlot_aq (s : State) (c : Fin 4) (l : Fin 32) (q : Half) : (s.freezeSlot c l q).aq = s.aq := rfl
@[simp] theorem State.freezeSlot_lines (s : State) (c : Fin 4) (l : Fin 32) (q : Half) : (s.freezeSlot c l q).lines = s.lines := rfl
@[simp] theorem State.freezeSlot_tacho (s : State) (c : Fin 4) (l : Fin 32) (q : Half) : (s.freezeSlot c l q).tacho = s.tacho := rfl
@[simp] theorem State.freezeSlot_gate (s : State) (c : Fin 4) (l : Fin 32) (q : Half) : (s.freezeSlot c l q).gate = s.gate := rfl
@[simp] theorem State.freezeSlot_det (s : State) (c : Fin 4) (l : Fin 32) (q : Half) : (s.freezeSlot c l q).det = s.det := rfl
@[simp] theorem State.freezeSlot_ev (s : State) (c : Fin 4) (l : Fin 32) (q : Half) : (s.freezeSlot c l q).ev = s.ev := rfl
@[simp] theorem State.freezeSlot_zone (s : State) (c : Fin 4) (l : Fin 32) (q : Half) : (s.freezeSlot c l q).zone = s.zone := rfl
@[simp] theorem State.freezeSlot_report (s : State) (c : Fin 4) (l : Fin 32) (q : Half) : (s.freezeSlot c l q).report = s.report := rfl
@[simp] theorem State.freezeSlot_status (s : State) (c : Fin 4) (l : Fin 32) (q : Half) : (s.freezeSlot c l q).status = s.status := rfl
@[simp] theorem State.freezeSlot_notice (s : State) (c : Fin 4) (l : Fin 32) (q : Half) : (s.freezeSlot c l q).notice = s.notice := rfl
@[simp] theorem State.freezeSlot_cmd (s : State) (c : Fin 4) (l : Fin 32) (q : Half) : (s.freezeSlot c l q).cmd = s.cmd := rfl
@[simp] theorem State.freezeSlot_clock (s : State) (c : Fin 4) (l : Fin 32) (q : Half) : (s.freezeSlot c l q).clock = s.clock := rfl
@[simp] theorem State.freezeSlot_free (s : State) (c : Fin 4) (l : Fin 32) (q : Half) : (s.freezeSlot c l q).free = s.free := rfl
@[simp] theorem State.freezeSlot_cap (s : State) (c : Fin 4) (l : Fin 32) (q : Half) : (s.freezeSlot c l q).cap = s.cap.freezeSlot c l q := rfl

/-! ### `State.missFrame` -/

@[simp] theorem State.missFrame_pending (s : State) (c : Fin 4) : (s.missFrame c).pending = s.pending := rfl
@[simp] theorem State.missFrame_mem (s : State) (c : Fin 4) : (s.missFrame c).mem = s.mem := rfl
@[simp] theorem State.missFrame_path (s : State) (c : Fin 4) : (s.missFrame c).path = s.path := rfl
@[simp] theorem State.missFrame_iq (s : State) (c : Fin 4) : (s.missFrame c).iq = s.iq := rfl
@[simp] theorem State.missFrame_loader (s : State) (c : Fin 4) : (s.missFrame c).loader = s.loader := rfl
@[simp] theorem State.missFrame_asm (s : State) (c : Fin 4) : (s.missFrame c).asm = s.asm := rfl
@[simp] theorem State.missFrame_aq (s : State) (c : Fin 4) : (s.missFrame c).aq = s.aq := rfl
@[simp] theorem State.missFrame_lines (s : State) (c : Fin 4) : (s.missFrame c).lines = s.lines := rfl
@[simp] theorem State.missFrame_tacho (s : State) (c : Fin 4) : (s.missFrame c).tacho = s.tacho := rfl
@[simp] theorem State.missFrame_gate (s : State) (c : Fin 4) : (s.missFrame c).gate = s.gate := rfl
@[simp] theorem State.missFrame_det (s : State) (c : Fin 4) : (s.missFrame c).det = s.det := rfl
@[simp] theorem State.missFrame_ev (s : State) (c : Fin 4) : (s.missFrame c).ev = s.ev := rfl
@[simp] theorem State.missFrame_zone (s : State) (c : Fin 4) : (s.missFrame c).zone = s.zone := rfl
@[simp] theorem State.missFrame_report (s : State) (c : Fin 4) : (s.missFrame c).report = s.report := rfl
@[simp] theorem State.missFrame_status (s : State) (c : Fin 4) : (s.missFrame c).status = s.status := rfl
@[simp] theorem State.missFrame_notice (s : State) (c : Fin 4) : (s.missFrame c).notice = s.notice := rfl
@[simp] theorem State.missFrame_cmd (s : State) (c : Fin 4) : (s.missFrame c).cmd = s.cmd := rfl
@[simp] theorem State.missFrame_clock (s : State) (c : Fin 4) : (s.missFrame c).clock = s.clock := rfl
@[simp] theorem State.missFrame_free (s : State) (c : Fin 4) : (s.missFrame c).free = s.free := rfl

/-! ### `State.endRecord` -/

@[simp] theorem State.endRecord_pending (s : State) : s.endRecord.pending = s.pending := rfl
@[simp] theorem State.endRecord_mem (s : State) : s.endRecord.mem = s.mem := rfl
@[simp] theorem State.endRecord_path (s : State) : s.endRecord.path = s.path := rfl
@[simp] theorem State.endRecord_iq (s : State) : s.endRecord.iq = s.iq := rfl
@[simp] theorem State.endRecord_loader (s : State) : s.endRecord.loader = s.loader := rfl
@[simp] theorem State.endRecord_asm (s : State) : s.endRecord.asm = s.asm := rfl
@[simp] theorem State.endRecord_aq (s : State) : s.endRecord.aq = s.aq := rfl
@[simp] theorem State.endRecord_lines (s : State) : s.endRecord.lines = s.lines := rfl
@[simp] theorem State.endRecord_tacho (s : State) : s.endRecord.tacho = s.tacho := rfl
@[simp] theorem State.endRecord_gate (s : State) : s.endRecord.gate = s.gate := rfl
@[simp] theorem State.endRecord_det (s : State) : s.endRecord.det = s.det := rfl
@[simp] theorem State.endRecord_ev (s : State) : s.endRecord.ev = s.ev := rfl
@[simp] theorem State.endRecord_zone (s : State) : s.endRecord.zone = s.zone := rfl
@[simp] theorem State.endRecord_cap (s : State) : s.endRecord.cap = s.cap := rfl
@[simp] theorem State.endRecord_status (s : State) : s.endRecord.status = s.status := rfl
@[simp] theorem State.endRecord_notice (s : State) : s.endRecord.notice = s.notice := rfl
@[simp] theorem State.endRecord_cmd (s : State) : s.endRecord.cmd = s.cmd := rfl
@[simp] theorem State.endRecord_clock (s : State) : s.endRecord.clock = s.clock := rfl
@[simp] theorem State.endRecord_free (s : State) : s.endRecord.free = s.free := rfl

/-! ### `State.takeCommand` -/

@[simp] theorem State.takeCommand_pending (s : State) (i : Fin 8) : (s.takeCommand i).pending = s.pending := rfl
@[simp] theorem State.takeCommand_mem (s : State) (i : Fin 8) : (s.takeCommand i).mem = s.mem := rfl
@[simp] theorem State.takeCommand_path (s : State) (i : Fin 8) : (s.takeCommand i).path = s.path := rfl
@[simp] theorem State.takeCommand_iq (s : State) (i : Fin 8) : (s.takeCommand i).iq = s.iq := rfl
@[simp] theorem State.takeCommand_loader (s : State) (i : Fin 8) : (s.takeCommand i).loader = s.loader := rfl
@[simp] theorem State.takeCommand_asm (s : State) (i : Fin 8) : (s.takeCommand i).asm = s.asm := rfl
@[simp] theorem State.takeCommand_aq (s : State) (i : Fin 8) : (s.takeCommand i).aq = s.aq := rfl
@[simp] theorem State.takeCommand_lines (s : State) (i : Fin 8) : (s.takeCommand i).lines = s.lines := rfl
@[simp] theorem State.takeCommand_tacho (s : State) (i : Fin 8) : (s.takeCommand i).tacho = s.tacho := rfl
@[simp] theorem State.takeCommand_gate (s : State) (i : Fin 8) : (s.takeCommand i).gate = s.gate := rfl
@[simp] theorem State.takeCommand_det (s : State) (i : Fin 8) : (s.takeCommand i).det = s.det := rfl
@[simp] theorem State.takeCommand_ev (s : State) (i : Fin 8) : (s.takeCommand i).ev = s.ev := rfl
@[simp] theorem State.takeCommand_zone (s : State) (i : Fin 8) : (s.takeCommand i).zone = s.zone := rfl
@[simp] theorem State.takeCommand_cap (s : State) (i : Fin 8) : (s.takeCommand i).cap = s.cap := rfl
@[simp] theorem State.takeCommand_report (s : State) (i : Fin 8) : (s.takeCommand i).report = s.report := rfl
@[simp] theorem State.takeCommand_status (s : State) (i : Fin 8) : (s.takeCommand i).status = s.status := rfl
@[simp] theorem State.takeCommand_notice (s : State) (i : Fin 8) : (s.takeCommand i).notice = s.notice := rfl
@[simp] theorem State.takeCommand_clock (s : State) (i : Fin 8) : (s.takeCommand i).clock = s.clock := rfl
@[simp] theorem State.takeCommand_free (s : State) (i : Fin 8) : (s.takeCommand i).free = s.free := rfl

end Sys2Proof.Machine
end

