-- ==== Sys2Proof/Laws/Touch.lean ====
section
/-! SUPPORT. What each shared operation can change: `Touches T s t` says that `t` differs from `s` in the fields of `T` at most. One lemma for each operation; a proof about another field cites it instead of unfolding the operation. -/

namespace Sys2Proof.Machine

/-- The fields of `State`. -/
inductive Field where
  | pending | mem | path | iq | loader | asm | aq | lines | tacho | gate | det | ev | zone | cap | report | status | notice
  | cmd | clock | free
  deriving DecidableEq, Repr

/-- Two states agree on a field. -/
def Field.agree (f : Field) (s t : State) : Prop :=
  match f with
  | .pending => t.pending = s.pending
  | .mem => t.mem = s.mem
  | .path => t.path = s.path
  | .iq => t.iq = s.iq
  | .loader => t.loader = s.loader
  | .asm => t.asm = s.asm
  | .aq => t.aq = s.aq
  | .lines => t.lines = s.lines
  | .tacho => t.tacho = s.tacho
  | .gate => t.gate = s.gate
  | .det => t.det = s.det
  | .ev => t.ev = s.ev
  | .zone => t.zone = s.zone
  | .cap => t.cap = s.cap
  | .report => t.report = s.report
  | .status => t.status = s.status
  | .notice => t.notice = s.notice
  | .cmd => t.cmd = s.cmd
  | .clock => t.clock = s.clock
  | .free => t.free = s.free

/-- `t` differs from `s` in the fields of `T` at most. -/
def Touches (T : List Field) (s t : State) : Prop := ∀ f, f ∉ T → f.agree s t

theorem Field.agree_refl (f : Field) (s : State) : f.agree s s := by cases f <;> rfl

theorem Field.agree_trans {f : Field} {s t u : State} (h : f.agree s t) (k : f.agree t u) : f.agree s u := by
  cases f <;> exact k.trans h

theorem Touches.refl (T : List Field) (s : State) : Touches T s s := fun f _ => f.agree_refl s

theorem Touches.trans {T : List Field} {s t u : State} (h : Touches T s t) (k : Touches T t u) : Touches T s u :=
  fun f hf => Field.agree_trans (h f hf) (k f hf)

theorem Touches.mono {T U : List Field} {s t : State} (h : Touches T s t) (hTU : ∀ f, f ∈ T → f ∈ U) : Touches U s t :=
  fun f hf => h f fun hT => hf (hTU f hT)

theorem Touches.ite {T : List Field} {s t u : State} {p : Prop} [Decidable p] (h : Touches T s t) (k : Touches T s u) :
    Touches T s (if p then t else u) := by split <;> assumption

theorem Touches.fold {α : Type} {T : List Field} (g : State → α → State) (h : ∀ s a, Touches T s (g s a)) :
    ∀ (l : List α) (s : State), Touches T s (l.foldl g s)
  | [], s => Touches.refl T s
  | a :: l, s => (h s a).trans (Touches.fold g h l (g s a))

/-! ### Notices, status, arbiter -/

theorem State.raise_touches (s : State) (n : Nat) : Touches [.notice] s (s.raise n) := by
  intro f hf; cases f <;> first | exact absurd (by decide) hf | rfl

theorem State.fireBatch_touches (s : State) (k : BatchKind) : Touches [.notice] s (s.fireBatch k) := by
  unfold State.fireBatch
  try dsimp only
  (repeat' split) <;> (intro f hf; cases f <;> first | exact absurd (by decide) hf | rfl)

theorem State.serveBatch_touches (s : State) (k : BatchKind) : Touches [.notice] s (s.serveBatch k) := by
  refine (State.fireBatch_touches s k).trans ?_
  intro f hf; cases f <;> first | exact absurd (by decide) hf | rfl

theorem State.loadBatch_touches (s : State) (k : BatchKind) (n : Nat) : Touches [.notice] s (s.loadBatch k n) := by
  refine (State.fireBatch_touches s k).trans ?_
  intro f hf; cases f <;> first | exact absurd (by decide) hf | rfl

theorem State.markWhere_touches (s : State) (p : Nat → Bool) : Touches [.status] s (s.markWhere p) := by
  intro f hf; cases f <;> first | exact absurd (by decide) hf | rfl

theorem State.noteChanges_touches (s before : State) : Touches [.status] s (s.noteChanges before) := by
  unfold State.noteChanges
  try dsimp only
  (repeat' split) <;> (intro f hf; cases f <;> first | exact absurd (by decide) hf | rfl)

theorem State.arbitrate_touches (s : State) : Touches [.path] s s.arbitrate := by
  unfold State.arbitrate
  try dsimp only
  (repeat' split) <;> (intro f hf; cases f <;> first | exact absurd (by decide) hf | rfl)

theorem State.placeStatus_touches : ∀ (ws : List Nat) (s : State), Touches [.iq, .status] s (State.placeStatus ws s)
  | [], s => by
    intro f hf; cases f <;> first | exact absurd (by decide) hf | rfl
  | w :: ws, s => by
    unfold State.placeStatus
    split
    · refine Touches.trans ?_ (State.placeStatus_touches ws _)
      dsimp only
      split <;> (intro f hf; cases f <;> first | exact absurd (by decide) hf | rfl)
    · intro f hf; cases f <;> first | exact absurd (by decide) hf | rfl

theorem State.beginUpdate_touches (s : State) : Touches [.iq, .status] s s.beginUpdate := by
  unfold State.beginUpdate
  refine Touches.trans ?_ (State.placeStatus_touches _ _)
  intro f hf; cases f <;> first | exact absurd (by decide) hf | rfl

theorem State.pumpStatus_touches (s : State) : Touches [.iq, .status] s s.pumpStatus := by
  unfold State.pumpStatus
  split
  · exact Touches.refl _ s
  · exact State.placeStatus_touches _ s

theorem State.settle_touches (s t : State) : Touches [.path, .status] t (s.settle t) :=
  ((State.noteChanges_touches t s).mono (by decide)).trans ((State.arbitrate_touches _).mono (by decide))

/-! ### Report Writer -/

theorem State.placeWords_touches : ∀ (ws : List Word) (a : Nat) (s : State), Touches [.iq] s (State.placeWords ws a s).1
  | [], _, s => Touches.refl _ s
  | w :: ws, a, s => by
    unfold State.placeWords
    split
    · refine Touches.trans ?_ (State.placeWords_touches ws (a + 4) _)
      intro f hf; cases f <;> first | exact absurd (by decide) hf | rfl
    · exact Touches.refl _ s

theorem State.pumpRecord_touches (s : State) : Touches [.iq, .report] s s.pumpRecord.1 := by
  unfold State.pumpRecord
  split
  · exact Touches.refl _ s
  · next pl _ =>
    have h := State.placeWords_touches pl.words pl.addr s
    split
    · next s1 _ he =>
      rw [he] at h
      exact (h.mono (by decide)).trans (by intro f hf; cases f <;> first | exact absurd (by decide) hf | rfl)
    · next s1 _ _ _ he =>
      rw [he] at h
      exact (h.mono (by decide)).trans (by intro f hf; cases f <;> first | exact absurd (by decide) hf | rfl)

theorem State.suppress_touches (s : State) : Touches [.report, .notice] s s.suppress := by
  unfold State.suppress
  try dsimp only
  (repeat' split) <;> (intro f hf; cases f <;> first | exact absurd (by decide) hf | rfl)

theorem State.takeRecord_touches (s : State) (r : Record) (rest : List Record) : Touches [.iq, .report, .notice] s (s.takeRecord r rest).1 := by
  unfold State.takeRecord
  dsimp only
  split
  · exact Touches.trans (by intro f hf; cases f <;> first | exact absurd (by decide) hf | rfl) ((State.suppress_touches _).mono (by decide))
  · exact Touches.trans (by intro f hf; cases f <;> first | exact absurd (by decide) hf | rfl) ((State.pumpRecord_touches _).mono (by decide))

theorem State.takeConsumer_touches (s : State) (w : Word) : Touches [.report] s (s.takeConsumer w) := by
  unfold State.takeConsumer
  try dsimp only
  (repeat' split) <;> (intro f hf; cases f <;> first | exact absurd (by decide) hf | rfl)

/-! ### Zone Table -/

theorem State.putMould_touches (s : State) (p : Profile) (w : Word) : Touches [.ev, .zone] s (s.putMould p w) := by
  intro f hf; cases f <;> first | exact absurd (by decide) hf | rfl

theorem State.receiveEvent_touches (s : State) (z : Option Nat) (w : Nat) (n : Word) (oct : Nat) (a : Bool) : Touches [.zone] s (s.receiveEvent z w n oct a) := by
  unfold State.receiveEvent
  try dsimp only
  (repeat' split) <;> (intro f hf; cases f <;> first | exact absurd (by decide) hf | rfl)

theorem State.endZones_touches (s : State) : Touches [.report] s s.endZones := by
  unfold State.endZones
  try dsimp only
  (repeat' split) <;> (intro f hf; cases f <;> first | exact absurd (by decide) hf | rfl)

theorem State.evalZones_touches (p : Policy) (b : Bool) (n : Word) :
    ∀ (zs : List Nat) (s : State), Touches [.zone, .report] s (State.evalZones p b n zs s)
  | [], s => (State.endZones_touches s).mono (by decide)
  | z :: zs, s => by
    unfold State.evalZones
    split
    · exact State.evalZones_touches p b n zs s
    · split
      · exact State.evalZones_touches p b n zs s
      · dsimp only
        split
        · refine Touches.trans ?_ (State.evalZones_touches p b n zs _)
          intro f hf; cases f <;> first | exact absurd (by decide) hf | rfl
        · intro f hf; cases f <;> first | exact absurd (by decide) hf | rfl

theorem State.evalFrom_touches (s : State) (z : Nat) : Touches [.zone, .report] s (s.evalFrom z) := by
  unfold State.evalFrom
  split
  · exact Touches.refl _ s
  · exact State.evalZones_touches _ _ _ _ s

theorem State.beginEval_touches (s : State) (m : CycleSummary) : Touches [.zone, .report, .status] s (s.beginEval m) := by
  unfold State.beginEval
  dsimp only
  split
  · exact Touches.trans (by intro f hf; cases f <;> first | exact absurd (by decide) hf | rfl) ((State.endZones_touches _).mono (by decide))
  · exact Touches.trans (by intro f hf; cases f <;> first | exact absurd (by decide) hf | rfl) ((State.evalFrom_touches _ _).mono (by decide))

theorem State.afterZoneChange_touches (s : State) (z : Nat) (b : Bool) : Touches [.zone, .report, .notice] s (s.afterZoneChange z b) := by
  unfold State.afterZoneChange
  split
  · dsimp only
    split
    · exact Touches.trans (by intro f hf; cases f <;> first | exact absurd (by decide) hf | rfl) ((State.evalFrom_touches _ _).mono (by decide))
    · exact Touches.trans (by intro f hf; cases f <;> first | exact absurd (by decide) hf | rfl) ((State.evalFrom_touches _ _).mono (by decide))
  · exact Touches.refl _ s

theorem State.afterCycleRecord_touches (s : State) : Touches [.zone, .asm, .notice] s s.afterCycleRecord := by
  unfold State.afterCycleRecord
  split
  · exact Touches.refl _ s
  · next e _ =>
    have h1 : Touches [.zone, .asm, .notice] s (s.serveBatch .cycle) := (State.serveBatch_touches s .cycle).mono (by decide)
    have h2 : ∀ t : State, Touches [.zone, .asm, .notice] t (if e.blind then t.raise fBlindCycle else t) := fun t =>
      Touches.ite ((State.raise_touches t _).mono (by decide)) (Touches.refl _ t)
    dsimp only
    split
    · exact ((h1.trans (h2 _)).trans ((State.raise_touches _ fCycleFault).mono (by decide))).trans (by intro f hf; cases f <;> first | exact absurd (by decide) hf | rfl)
    · exact ((h1.trans (h2 _)).trans ((State.raise_touches _ fCycleFault).mono (by decide))).trans (by intro f hf; cases f <;> first | exact absurd (by decide) hf | rfl)
    · exact (h1.trans (h2 _)).trans (by intro f hf; cases f <;> first | exact absurd (by decide) hf | rfl)

/-! ### Capture Unit -/

theorem State.holdCapture_touches (s : State) (c : Fin 4) (b : Bool) : Touches [.cap, .report, .notice] s (s.holdCapture c b) := by
  intro f hf; cases f <;> first | exact absurd (by decide) hf | rfl

theorem State.decideCapture_touches (s : State) (c : Fin 4) (n : Nat) : Touches [.cap, .report, .notice] s (s.decideCapture c n) := by
  unfold State.decideCapture
  dsimp only
  split
  · exact State.holdCapture_touches s c false
  · split
    · exact State.holdCapture_touches s c true
    · intro f hf; cases f <;> first | exact absurd (by decide) hf | rfl

theorem State.runOn_touches (s : State) (c : Fin 4) (n : Nat) (ws : List Half) :
    Touches [.cap, .report, .notice] s (s.runOn c n ws).1 := by
  unfold State.runOn
  split
  · exact State.decideCapture_touches s c n
  · intro f hf; cases f <;> first | exact absurd (by decide) hf | rfl

theorem State.takeWanted_touches (c : Fin 4) (n : Nat) (ws : List Half) (s : State) :
    Touches [.cap, .report, .notice] s (State.takeWanted c n ws s).1 := by
  unfold State.takeWanted
  split
  · exact State.runOn_touches s c n []
  · split
    · exact Touches.trans (by intro f hf; cases f <;> first | exact absurd (by decide) hf | rfl) (State.runOn_touches _ c n _)
    · split
      · exact State.holdCapture_touches s c true
      · split
        · intro f hf; cases f <;> first | exact absurd (by decide) hf | rfl
        · exact Touches.trans (by intro f hf; cases f <;> first | exact absurd (by decide) hf | rfl) (State.runOn_touches _ c n _)

theorem State.takeTrigger_touches (s : State) (t : Trigger) : Touches [.cap, .report, .notice] s (s.takeTrigger t).1 := by
  unfold State.takeTrigger
  split
  · intro f hf; cases f <;> first | exact absurd (by decide) hf | rfl
  · split
    · intro f hf; cases f <;> first | exact absurd (by decide) hf | rfl
    · next c _ =>
      have h := State.takeWanted_touches c t.post (wantedFrames t s.cap.latest) (s.modCapture c fun _ => Capture.opening t)
      split
      · next s1 he => rw [he] at h; exact Touches.trans (by intro f hf; cases f <;> first | exact absurd (by decide) hf | rfl) h
      · next s1 he => rw [he] at h; exact Touches.trans (by intro f hf; cases f <;> first | exact absurd (by decide) hf | rfl) h

theorem State.continueRun_touches (s : State) (r : CaptureRun) : Touches [.cap, .report, .notice] s (s.continueRun r).1 :=
  Touches.trans (by intro f hf; cases f <;> first | exact absurd (by decide) hf | rfl) (State.takeWanted_touches _ _ _ _)

theorem State.resumeRun_touches (s : State) (r : CaptureRun) (l : Fin 32) (p : Fin 48) :
    Touches [.cap, .report, .notice] s (s.resumeRun r l p).1 := by
  unfold State.resumeRun
  dsimp only
  split
  · exact Touches.trans (by intro f hf; cases f <;> first | exact absurd (by decide) hf | rfl) (State.runOn_touches _ _ _ _)
  · split
    · split
      · exact Touches.trans (by intro f hf; cases f <;> first | exact absurd (by decide) hf | rfl) (State.holdCapture_touches _ _ _)
      · exact Touches.trans (by intro f hf; cases f <;> first | exact absurd (by decide) hf | rfl) (State.runOn_touches _ _ _ _)
    · exact Touches.trans (by intro f hf; cases f <;> first | exact absurd (by decide) hf | rfl) (State.runOn_touches _ _ _ _)

theorem State.afterPostFreeze_touches (s : State) (c : Fin 4) : Touches [.cap, .report, .notice] s (s.afterPostFreeze c) := by
  unfold State.afterPostFreeze
  try dsimp only
  (repeat' split) <;> (intro f hf; cases f <;> first | exact absurd (by decide) hf | rfl)

theorem State.freezePost_touches (s : State) (l : Fin 32) (q : Half) : Touches [.cap, .report, .notice] s (s.freezePost l q) := by
  unfold State.freezePost
  split
  · exact Touches.refl _ s
  · split
    · exact State.holdCapture_touches s _ true
    · exact Touches.trans (by intro f hf; cases f <;> first | exact absurd (by decide) hf | rfl) (State.afterPostFreeze_touches _ _)

theorem State.resumePost_touches (s : State) (p : PostFreeze) : Touches [.cap, .report, .notice] s (s.resumePost p) := by
  unfold State.resumePost
  dsimp only
  split
  · exact Touches.trans (by intro f hf; cases f <;> first | exact absurd (by decide) hf | rfl) (State.freezePost_touches _ _ _)
  · intro f hf; cases f <;> first | exact absurd (by decide) hf | rfl

theorem State.makePost_touches (s : State) : Touches [.cap, .report, .notice] s s.makePost := by
  unfold State.makePost
  split
  · exact Touches.refl _ s
  · exact State.resumePost_touches s _

theorem State.closeOpenCapture_touches (s : State) : Touches [.cap, .report, .notice] s s.closeOpenCapture := by
  unfold State.closeOpenCapture
  try dsimp only
  (repeat' split) <;> (intro f hf; cases f <;> first | exact absurd (by decide) hf | rfl)

theorem State.releaseCapture_touches (s : State) (c : Fin 4) : Touches [.asm, .cap] s (s.releaseCapture c) := by
  intro f hf; cases f <;> first | exact absurd (by decide) hf | rfl

/-! ### Event Builder -/

theorem State.hitStart_touches (s : State) (c : Fin 4) (t : Nat) (q : Half) (k : Cls) (n : Word) : Touches [.ev, .asm] s (s.hitStart c t q k n) := by
  unfold State.hitStart
  try dsimp only
  (repeat' split) <;> (intro f hf; cases f <;> first | exact absurd (by decide) hf | rfl)

theorem State.endMember_touches (s : State) (c : Fin 4) (st : MemberState) : Touches [.ev] s (s.endMember c st) := by
  unfold State.endMember
  try dsimp only
  (repeat' split) <;> (intro f hf; cases f <;> first | exact absurd (by decide) hf | rfl)

theorem State.handEvent_touches (s : State) (c : Completion) : Touches [.ev, .report] s (s.handEvent c) := by
  intro f hf; cases f <;> first | exact absurd (by decide) hf | rfl

theorem State.completeWith_touches (s : State) (p : Profile) (e : OpenEvent) : Touches [.ev, .asm, .free, .zone, .report] s (s.completeWith p e) := by
  have hb (t : State) (b : EventBuilder) : Touches [.ev, .asm, .free, .zone, .report] t { t with ev := b } := by
    intro f hf; cases f <;> first | exact absurd (by decide) hf | rfl
  have h1 (b : EventBuilder) (a : Assembler) (n : Nat) :
      Touches [.ev, .asm, .free, .zone, .report] s { s with ev := b, asm := a, free := n } := by
    intro f hf; cases f <;> first | exact absurd (by decide) hf | rfl
  have hr (t : State) (z : Option Nat) (w : Nat) (c : Word) (o : Nat) (a : Bool) :
      Touches [.ev, .asm, .free, .zone, .report] t (t.receiveEvent z w c o a) :=
    (State.receiveEvent_touches t z w c o a).mono (by decide)
  have hh (t : State) (c : Completion) : Touches [.ev, .asm, .free, .zone, .report] t (t.handEvent c) :=
    (State.handEvent_touches t c).mono (by decide)
  unfold State.completeWith
  exact Touches.ite (((h1 _ _ _).trans (hr _ _ _ _ _ _)).trans (hb _ _)) (((h1 _ _ _).trans (hr _ _ _ _ _ _)).trans (hh _ _))

theorem State.answerTrigger_touches (s : State) (id : Option (Fin 4)) : Touches [.ev, .report] s (s.answerTrigger id) := by
  unfold State.answerTrigger
  try dsimp only
  (repeat' split) <;> (intro f hf; cases f <;> first | exact absurd (by decide) hf | rfl)

/-! ### Press lines and the gate program -/

theorem State.handCycleEnd_touches (s : State) (m : CycleSummary) : Touches [.aq, .zone] s (s.handCycleEnd m) := by
  unfold State.handCycleEnd
  try dsimp only
  (repeat' split) <;> (intro f hf; cases f <;> first | exact absurd (by decide) hf | rfl)

theorem State.endCycle_touches (s : State) (c : Cause) (t : Nat) : Touches [.gate, .aq, .zone] s (s.endCycle c t) := by
  unfold State.endCycle
  split
  · exact Touches.trans (by intro f hf; cases f <;> first | exact absurd (by decide) hf | rfl) ((State.handCycleEnd_touches _ _).mono (by decide))
  · exact Touches.refl _ s

theorem State.startCycle_touches (s : State) (t : Nat) : Touches [.gate, .aq, .zone, .asm] s (s.startCycle t) := by
  intro f hf; cases f <;> first | exact absurd (by decide) hf | rfl

theorem State.stepDone_touches (s : State) (r : CycleRun) (g : GateStep) (t : Nat) : Touches [.gate, .aq, .zone, .asm] s (s.stepDone r g t) := by
  unfold State.stepDone
  dsimp only
  split
  · exact Touches.trans (by intro f hf; cases f <;> first | exact absurd (by decide) hf | rfl) ((State.endCycle_touches _ _ _).mono (by decide))
  · intro f hf; cases f <;> first | exact absurd (by decide) hf | rfl

theorem State.truncateCycle_touches (s : State) (r : CycleRun) (t : Nat) : Touches [.gate, .aq, .zone, .asm] s (s.truncateCycle r t) := by
  unfold State.truncateCycle
  exact (((State.endCycle_touches s _ _).mono (by decide)).trans (State.startCycle_touches _ t)).trans (by intro f hf; cases f <;> first | exact absurd (by decide) hf | rfl)

theorem State.edge_touches (s : State) (i : Fin 5) : Touches [.gate, .aq, .zone, .asm] s (s.edge i) := by
  unfold State.edge State.cycEdge State.lineEdge
  split
  · split
    · exact Touches.refl _ s
    · exact State.startCycle_touches s _
    · exact State.truncateCycle_touches s _ _
  · split
    · exact Touches.ite (State.stepDone_touches s _ _ _) (Touches.refl _ s)
    · exact Touches.refl _ s

theorem State.takeEdge_touches (s : State) (i : Fin 5) : Touches [.gate, .aq, .zone, .asm, .status] s (s.takeEdge i) := by
  have h1 (t : State) (g : Sequencer) : Touches [.gate, .aq, .zone, .asm, .status] t { t with gate := g } := by
    intro f hf; cases f <;> first | exact absurd (by decide) hf | rfl
  have h2 (t : State) : Touches [.gate, .aq, .zone, .asm, .status] t (t.edge i) := (State.edge_touches t i).mono (by decide)
  have h3 (t u : State) : Touches [.gate, .aq, .zone, .asm, .status] t (t.noteChanges u) :=
    (State.noteChanges_touches _ _).mono (by decide)
  unfold State.takeEdge
  exact Touches.ite (((h1 s _).trans (h2 _)).trans (h3 _ _)) (Touches.refl _ s)

theorem State.takeEdges_touches (s : State) (lines : List (Fin 5)) :
    Touches [.gate, .aq, .zone, .asm, .status] s (s.takeEdges lines) :=
  Touches.fold _ (fun t i => State.takeEdge_touches t i) _ _

theorem State.samplePress_touches (s : State) (pins : Vector Bool 5) : Touches [.lines, .gate] s (s.samplePress pins) := by
  intro f hf; cases f <;> first | exact absurd (by decide) hf | rfl

theorem State.bandCheck_touches (s : State) (p : Nat) : Touches [.tacho, .gate, .notice] s (s.bandCheck p) := by
  unfold State.bandCheck
  try dsimp only
  (repeat' split) <;> (intro f hf; cases f <;> first | exact absurd (by decide) hf | rfl)

theorem State.measuringEdge_touches (s : State) : Touches [.tacho, .gate, .notice] s s.measuringEdge := by
  unfold State.measuringEdge
  dsimp only
  split
  · exact Touches.trans (by intro f hf; cases f <;> first | exact absurd (by decide) hf | rfl) (State.bandCheck_touches _ _)
  · intro f hf; cases f <;> first | exact absurd (by decide) hf | rfl

theorem State.tachoFilter_touches (s : State) (b : Bool) : Touches [.tacho, .gate, .notice] s (s.tachoFilter b) := by
  unfold State.tachoFilter
  dsimp only
  split
  · exact Touches.trans (by intro f hf; cases f <;> first | exact absurd (by decide) hf | rfl) (State.measuringEdge_touches _)
  · intro f hf; cases f <;> first | exact absurd (by decide) hf | rfl

theorem State.sampleTacho_touches (s : State) (b : Bool) : Touches [.tacho, .gate, .notice] s (s.sampleTacho b) := by
  unfold State.sampleTacho
  dsimp only
  split
  · intro f hf; cases f <;> first | exact absurd (by decide) hf | rfl
  · exact Touches.trans (by intro f hf; cases f <;> first | exact absurd (by decide) hf | rfl) (State.tachoFilter_touches _ _)

theorem State.takeStall_touches (s : State) : Touches [.tacho, .gate, .notice] s s.takeStall := by
  unfold State.takeStall
  exact Touches.trans (by intro f hf; cases f <;> first | exact absurd (by decide) hf | rfl) (State.bandCheck_touches _ _)

theorem State.stall_touches (s : State) (b : Bool) : Touches [.tacho, .gate, .notice, .status] s (s.stall b) :=
  (((State.takeStall_touches s).mono (by decide)).trans ((State.noteChanges_touches _ _).mono (by decide))).trans
    ((State.tachoFilter_touches _ b).mono (by decide))

/-! ### Analysis -/

theorem State.applyPending_touches (s : State) : Touches [.asm, .aq, .det, .ev] s s.applyPending := by
  intro f hf; cases f <;> first | exact absurd (by decide) hf | rfl

theorem State.gapChannel_touches (s : State) (c : Fin 4) : Touches [.asm, .aq, .det, .ev] s (s.gapChannel c) := by
  unfold State.gapChannel
  split
  · exact Touches.trans (by intro f hf; cases f <;> first | exact absurd (by decide) hf | rfl) ((State.endMember_touches _ _ _).mono (by decide))
  · intro f hf; cases f <;> first | exact absurd (by decide) hf | rfl

theorem State.abandonChannel_touches (s : State) (c : Fin 4) : Touches [.asm, .aq, .det, .ev] s (s.abandonChannel c) := by
  unfold State.abandonChannel
  split
  · exact Touches.trans (by intro f hf; cases f <;> first | exact absurd (by decide) hf | rfl) ((State.endMember_touches _ _ _).mono (by decide))
  · intro f hf; cases f <;> first | exact absurd (by decide) hf | rfl

theorem State.abandonAll_touches (s : State) : Touches [.asm, .aq, .det, .ev] s s.abandonAll := by
  unfold State.abandonAll
  exact Touches.trans (Touches.fold _ State.abandonChannel_touches _ s) (by intro f hf; cases f <;> first | exact absurd (by decide) hf | rfl)

theorem State.gapStep_touches (s : State) (m : Nat) : Touches [.asm, .aq, .det, .ev] s (s.gapStep m) := by
  unfold State.gapStep
  exact Touches.trans (Touches.trans (by intro f hf; cases f <;> first | exact absurd (by decide) hf | rfl) (Touches.fold _ State.gapChannel_touches _ (s.advance (gapSpan m)))) (by intro f hf; cases f <;> first | exact absurd (by decide) hf | rfl)

theorem State.skipOrAnalyse_touches (s : State) (f : QFrame) : Touches [.asm, .aq, .det, .ev] s (s.skipOrAnalyse f) := by
  have hp (t : State) : Touches [.asm, .aq, .det, .ev] t (t.setPhase .skip) := by intro f hf; cases f <;> first | exact absurd (by decide) hf | rfl
  have he (t : State) : Touches [.asm, .aq, .det, .ev] t t.endWork := by intro f hf; cases f <;> first | exact absurd (by decide) hf | rfl
  unfold State.skipOrAnalyse
  split
  · exact Touches.ite ((State.abandonAll_touches s).trans (hp _)) ((State.abandonAll_touches s).trans (he _))
  · intro f hf; cases f <;> first | exact absurd (by decide) hf | rfl

theorem State.takeFrame_touches (s : State) (f : QFrame) (rest : List AQEntry) : Touches [.asm, .aq, .det, .ev] s (s.takeFrame f rest) := by
  unfold State.takeFrame
  dsimp only
  have h : Touches [.asm, .aq, .det, .ev] s (State.applyPending { s with aq := { entries := rest, work := some ⟨f, .gap⟩ } }) := by
    intro f hf; cases f <;> first | exact absurd (by decide) hf | rfl
  split
  · exact h.trans (State.skipOrAnalyse_touches _ _)
  · split
    · exact h.trans (State.gapStep_touches _ _)
    · exact (h.trans (State.gapStep_touches _ _)).trans (State.skipOrAnalyse_touches _ _)

theorem State.afterSet_touches (s : State) (f : QFrame) (n : Nat) : Touches [.asm, .aq, .det, .ev] s (s.afterSet f n) := by
  unfold State.afterSet State.endFrame
  try dsimp only
  (repeat' split) <;> (intro f hf; cases f <;> first | exact absurd (by decide) hf | rfl)

theorem State.endSet_touches (s : State) (f : QFrame) (n : Nat) : Touches [.asm, .aq, .det, .ev] s (s.endSet f n) := by
  unfold State.endSet
  dsimp only
  split
  · intro f hf; cases f <;> first | exact absurd (by decide) hf | rfl
  · exact Touches.trans (by intro f hf; cases f <;> first | exact absurd (by decide) hf | rfl) (State.afterSet_touches _ _ _)

theorem State.runChannels_touches (g : QFrame) (n : Nat) :
    ∀ (cs : List (Fin 4)) (s : State), Touches [.asm, .aq, .det, .ev] s (State.runChannels g n cs s)
  | [], s => State.endSet_touches s g n
  | c :: cs, s => by
    unfold State.runChannels
    dsimp only
    split
    · exact Touches.trans (by intro f hf; cases f <;> first | exact absurd (by decide) hf | rfl) (State.runChannels_touches g n cs _)
    · exact Touches.trans (Touches.trans (by intro f hf; cases f <;> first | exact absurd (by decide) hf | rfl) ((State.hitStart_touches _ _ _ _ _ _).mono (by decide)))
        (State.runChannels_touches g n cs _)
    · intro f hf; cases f <;> first | exact absurd (by decide) hf | rfl

theorem State.endHit_touches (s : State) (c : Fin 4) : Touches [.asm, .aq, .det, .ev] s (s.endHit c) := by
  unfold State.endHit
  split
  · exact Touches.trans (by intro f hf; cases f <;> first | exact absurd (by decide) hf | rfl) ((State.endMember_touches _ _ _).mono (by decide))
  · exact Touches.refl _ s

theorem State.endLong_touches (s : State) (c : Fin 4) : Touches [.asm, .aq, .det, .ev] s (s.endLong c) := by
  unfold State.endLong
  split
  · exact Touches.trans (by intro f hf; cases f <;> first | exact absurd (by decide) hf | rfl) ((State.endMember_touches _ _ _).mono (by decide))
  · exact Touches.refl _ s

theorem State.resumeFrame_touches (s : State) : Touches [.asm, .aq, .det, .ev] s s.resumeFrame := by
  unfold State.resumeFrame
  split
  · exact State.skipOrAnalyse_touches s _
  · intro f hf; cases f <;> first | exact absurd (by decide) hf | rfl
  · intro f hf; cases f <;> first | exact absurd (by decide) hf | rfl
  · exact Touches.refl _ s

/-! ### Frame Assembler -/

theorem State.sequenceCheck_touches (s : State) (x : Assembly) : Touches [.asm, .aq, .notice, .cap, .report] s (s.sequenceCheck x) := by
  unfold State.sequenceCheck
  try dsimp only
  (repeat' split) <;> (intro f hf; cases f <;> first | exact absurd (by decide) hf | rfl)

theorem State.postFrame_touches (s : State) (x : Assembly) (b : Bool) : Touches [.asm, .aq, .notice, .cap, .report] s (s.postFrame x b) := by
  unfold State.postFrame
  split
  · intro f hf; cases f <;> first | exact absurd (by decide) hf | rfl
  · exact (State.freezePost_touches s _ _).mono (by decide)

theorem State.trailer_touches (s : State) (x : Assembly) (w : Word) (b : Bool) : Touches [.asm, .aq, .notice, .cap, .report] s (s.trailer x w b) := by
  unfold State.trailer
  split
  · exact Touches.trans (Touches.trans (by intro f hf; cases f <;> first | exact absurd (by decide) hf | rfl) (State.postFrame_touches _ _ _)) (State.sequenceCheck_touches _ _)
  · intro f hf; cases f <;> first | exact absurd (by decide) hf | rfl

theorem State.stray_touches (s : State) (p : Fin 48) : Touches [.asm, .aq, .notice, .cap, .report] s (s.stray p) := by
  unfold State.stray
  try dsimp only
  (repeat' split) <;> (intro f hf; cases f <;> first | exact absurd (by decide) hf | rfl)

theorem State.assembleWrite_touches (s : State) (l : Fin 32) (p : Fin 48) (i : Fin 128) (lanes : Lanes) (w : Word) (b k : Bool) : Touches [.asm, .aq, .notice, .cap, .report] s (s.assembleWrite l p i lanes w b k) := by
  unfold State.assembleWrite
  split
  · split
    · intro f hf; cases f <;> first | exact absurd (by decide) hf | rfl
    · split
      · split
        · unfold State.fullWrite
          split
          · exact State.trailer_touches s _ w b
          · intro f hf; cases f <;> first | exact absurd (by decide) hf | rfl
        · exact State.stray_touches s p
      · exact State.stray_touches s p
  · dsimp only
    split
    · split
      · intro f hf; cases f <;> first | exact absurd (by decide) hf | rfl
      · exact Touches.trans (by intro f hf; cases f <;> first | exact absurd (by decide) hf | rfl) (State.stray_touches _ p)
    · exact Touches.trans (by intro f hf; cases f <;> first | exact absurd (by decide) hf | rfl) (State.stray_touches _ p)

/-! ### Command Unit -/

theorem State.slotDone_touches (s : State) (i : Fin 8) : Touches [.iq, .cmd, .notice] s (s.slotDone i) := by
  intro f hf; cases f <;> first | exact absurd (by decide) hf | rfl

theorem State.placeCompletion_touches (s : State) (i : Fin 8) (c : Code) : Touches [.iq, .cmd, .notice] s (s.placeCompletion i c) := by
  unfold State.placeCompletion
  try dsimp only
  (repeat' split) <;> (intro f hf; cases f <;> first | exact absurd (by decide) hf | rfl)

theorem State.placeCompletions_touches :
    ∀ (l : List (Fin 8 × Code)) (s : State), Touches [.iq, .cmd, .notice] s (State.placeCompletions l s)
  | [], s => by
    intro f hf; cases f <;> first | exact absurd (by decide) hf | rfl
  | (i, c) :: rest, s => by
    unfold State.placeCompletions
    split
    · exact (State.placeCompletion_touches s i c).trans (State.placeCompletions_touches rest _)
    · intro f hf; cases f <;> first | exact absurd (by decide) hf | rfl

theorem State.complete_touches (s : State) (c : Code) : Touches [.iq, .cmd, .notice] s (s.complete c) := by
  unfold State.complete State.queueCompletion
  split
  · exact Touches.trans (by intro f hf; cases f <;> first | exact absurd (by decide) hf | rfl) (State.placeCompletions_touches _ _)
  · exact Touches.refl _ s

theorem State.slotWrite_touches (s : State) (i : Fin 8) (k : Fin 16) (lanes : Lanes) (w : Word) : Touches [.iq, .cmd, .notice] s (s.slotWrite i k lanes w) := by
  unfold State.slotWrite State.testTerminator State.queueCompletion
  dsimp only
  split
  · split
    · split
      · intro f hf; cases f <;> first | exact absurd (by decide) hf | rfl
      · intro f hf; cases f <;> first | exact absurd (by decide) hf | rfl
      · exact Touches.trans (by intro f hf; cases f <;> first | exact absurd (by decide) hf | rfl) (State.placeCompletions_touches _ _)
    · intro f hf; cases f <;> first | exact absurd (by decide) hf | rfl
  · split
    · intro f hf; cases f <;> first | exact absurd (by decide) hf | rfl
    · exact Touches.refl _ s
  · intro f hf; cases f <;> first | exact absurd (by decide) hf | rfl

theorem State.modTable_touches (s : State) (g : Vector Byte 196 → Vector Byte 196) : Touches [.ev, .loader] s (s.modTable g) := by
  unfold State.modTable
  try dsimp only
  (repeat' split) <;> (intro f hf; cases f <;> first | exact absurd (by decide) hf | rfl)

theorem State.placeLoads_touches : ∀ (l : List Nat) (s : State), Touches [.iq, .cmd] s (State.placeLoads l s)
  | [], s => by
    intro f hf; cases f <;> first | exact absurd (by decide) hf | rfl
  | a :: rest, s => by
    unfold State.placeLoads
    split
    · exact Touches.trans (by intro f hf; cases f <;> first | exact absurd (by decide) hf | rfl) (State.placeLoads_touches rest _)
    · intro f hf; cases f <;> first | exact absurd (by decide) hf | rfl

theorem State.receiveTableWord_touches (s : State) (w : Word) : Touches [.iq, .cmd, .notice, .ev, .loader] s (s.receiveTableWord w) := by
  unfold State.receiveTableWord
  split
  · dsimp only
    split
    · intro f hf; cases f <;> first | exact absurd (by decide) hf | rfl
    · split
      · exact ((State.modTable_touches s _).mono (by decide)).trans ((State.complete_touches _ _).mono (by decide))
      · exact (State.complete_touches s _).mono (by decide)
  · exact Touches.refl _ s

theorem State.changeZone_touches (s : State) (z : Nat) (a b : ZoneRecord) : Touches [.iq, .cmd, .notice, .zone, .report] s (s.changeZone z a b) := by
  unfold State.changeZone
  dsimp only
  split
  · exact Touches.trans (by intro f hf; cases f <;> first | exact absurd (by decide) hf | rfl) ((State.complete_touches _ _).mono (by decide))
  · intro f hf; cases f <;> first | exact absurd (by decide) hf | rfl

theorem State.reportZones_touches :
    ∀ (zs : List Nat) (s : State), Touches [.iq, .cmd, .notice, .report] s (State.reportZones zs s)
  | [], s => (State.complete_touches s _).mono (by decide)
  | z :: zs, s => by
    unfold State.reportZones
    split
    · exact State.reportZones_touches zs s
    · intro f hf; cases f <;> first | exact absurd (by decide) hf | rfl

theorem State.writePage_touches (s : State) (l : List Byte) (n : Nat) : Touches [.cmd, .loader] s (s.writePage l n) := by
  intro f hf; cases f <;> first | exact absurd (by decide) hf | rfl

theorem State.beginReadback_touches (s : State) (l : List Byte) : Touches [.cmd, .loader] s (s.beginReadback l) := by
  intro f hf; cases f <;> first | exact absurd (by decide) hf | rfl

theorem State.mouldSettle_touches (s : State) (p : Profile) (w : Word) : Touches [.asm, .aq, .det, .ev, .cmd, .report, .zone] s (s.mouldSettle p w) := by
  have h := (State.abandonAll_touches s).mono (U := [.asm, .aq, .det, .ev, .cmd, .report, .zone]) (by decide)
  have hj (t : State) : Touches [.asm, .aq, .det, .ev, .cmd, .report, .zone] t (t.setJob (.mould p w .events)) := by intro f hf; cases f <;> first | exact absurd (by decide) hf | rfl
  have hr (t : State) : Touches [.asm, .aq, .det, .ev, .cmd, .report, .zone] t (t.mouldHandRecord p w) := by intro f hf; cases f <;> first | exact absurd (by decide) hf | rfl
  unfold State.mouldSettle
  exact Touches.ite (h.trans (hj _)) (h.trans (hr _))

theorem State.mouldBegin_touches (s : State) (p : Profile) (w : Word) : Touches [.gate, .asm, .aq, .det, .ev, .cmd, .report, .zone] s (s.mouldBegin p w) := by
  unfold State.mouldBegin
  dsimp only
  have h := (State.endCycle_touches s .mould s.endTime).mono (U := [.gate, .asm, .aq, .det, .ev, .cmd, .report, .zone]) (by decide)
  split
  · exact h.trans ((State.mouldSettle_touches _ _ _).mono (by decide))
  · exact h.trans (by intro f hf; cases f <;> first | exact absurd (by decide) hf | rfl)

theorem State.mouldClose_touches (s : State) : Touches [.cap, .report, .notice, .iq, .cmd] s s.mouldClose :=
  ((State.closeOpenCapture_touches s).mono (by decide)).trans ((State.complete_touches _ _).mono (by decide))

theorem State.mouldFinish_touches (s : State) : Touches [.cap, .report, .notice, .iq, .cmd] s s.mouldFinish := by
  unfold State.mouldFinish
  split
  · refine Touches.ite ?_ (((State.makePost_touches s).mono (by decide)).trans (State.mouldClose_touches _))
    intro f hf; cases f <;> first | exact absurd (by decide) hf | rfl
  · exact Touches.refl _ s

theorem State.mouldAfterFreeze_touches (s : State) : Touches [.cap, .report, .notice, .iq, .cmd] s s.mouldAfterFreeze := by
  unfold State.mouldAfterFreeze
  split
  · exact State.mouldClose_touches s
  · exact Touches.refl _ s

theorem State.enterReloading_touches (s : State) : Touches [.path, .asm, .aq, .cap, .gate, .zone, .det, .ev, .cmd, .loader] s s.enterReloading := by
  have h1 (t : State) (p : PathUnit) (a : Assembler) : Touches [.path, .asm, .aq, .cap, .gate, .zone, .det, .ev, .cmd, .loader] t
      { t with path := p, asm := a, aq := {}, cap := {} } := by intro f hf; cases f <;> first | exact absurd (by decide) hf | rfl
  have h2 (t : State) (g : Sequencer) (d : Detectors) (b : EventBuilder) (c : CommandUnit) (l : Loader) :
      Touches [.path, .asm, .aq, .cap, .gate, .zone, .det, .ev, .cmd, .loader] t
        { t with gate := g, det := d, ev := b, cmd := c, loader := l } := by intro f hf; cases f <;> first | exact absurd (by decide) hf | rfl
  unfold State.enterReloading
  exact ((h1 s _ _).trans ((State.endCycle_touches _ _ _).mono (by decide))).trans (h2 _ _ _ _ _ _)

theorem State.reload_touches (s : State) : Touches [.path, .asm, .aq, .cap, .gate, .zone, .det, .ev, .cmd, .loader, .iq, .notice] s s.reload := by
  unfold State.reload
  dsimp only
  refine Touches.trans ?_ ((State.enterReloading_touches _).mono (by decide))
  exact Touches.trans (by intro f hf; cases f <;> first | exact absurd (by decide) hf | rfl) ((State.placeCompletions_touches _ _).mono (by decide))

theorem State.reloadOn_touches (s : State) :
    Touches [.path, .asm, .aq, .cap, .gate, .zone, .det, .ev, .cmd, .loader, .iq, .notice] s s.reloadOn := by
  unfold State.reloadOn
  split
  · exact Touches.ite (Touches.refl _ s) (State.reload_touches s)
  · exact Touches.refl _ s

/-! ### Records resumed, the port, start-up -/

theorem State.afterCompletion_touches (s : State) : Touches [.asm, .aq, .det, .ev, .zone, .cap, .report, .notice, .iq, .cmd] s s.afterCompletion := by
  unfold State.afterCompletion
  split
  · exact Touches.refl _ s
  · split
    · intro f hf; cases f <;> first | exact absurd (by decide) hf | rfl
    · exact (State.resumeFrame_touches s).mono (by decide)

theorem State.endCompletion_touches (s : State) : Touches [.asm, .aq, .det, .ev, .zone, .cap, .report, .notice, .iq, .cmd] s s.endCompletion := by
  unfold State.endCompletion
  dsimp only
  exact Touches.trans (Touches.trans ((State.serveBatch_touches s .event).mono (by decide)) (by intro f hf; cases f <;> first | exact absurd (by decide) hf | rfl)) (State.afterCompletion_touches _)

theorem State.mouldAfterEval_touches (s : State) : Touches [.asm, .aq, .det, .ev, .zone, .cap, .report, .notice, .iq, .cmd] s s.mouldAfterEval := by
  unfold State.mouldAfterEval
  split
  · exact (State.mouldSettle_touches s _ _).mono (by decide)
  · exact Touches.refl _ s

theorem State.runCont_touches (s : State) (c : Cont) : Touches [.asm, .aq, .det, .ev, .zone, .cap, .report, .notice, .iq, .cmd] s (s.runCont c) := by
  unfold State.runCont
  split
  · exact Touches.refl _ s
  · exact State.endCompletion_touches s
  · exact (State.afterZoneChange_touches s _ _).mono (by decide)
  · exact ((State.afterCycleRecord_touches s).mono (by decide)).trans (State.mouldAfterEval_touches _)
  · exact (State.complete_touches s _).mono (by decide)
  · exact (State.reportZones_touches _ s).mono (by decide)
  · exact (State.mouldFinish_touches s).mono (by decide)

theorem State.resume_touches (r : State × Option Cont) :
    Touches [.asm, .aq, .det, .ev, .zone, .cap, .report, .notice, .iq, .cmd] r.1 (State.resume r) := by
  unfold State.resume
  split
  · exact Touches.refl _ r.1
  · exact State.runCont_touches r.1 _

theorem State.pump_touches (s : State) (src : Source) : Touches [.path, .loader, .asm, .aq, .gate, .det, .ev, .zone, .cap, .report, .notice, .iq, .cmd, .status] s (s.pump src) := by
  unfold State.pump
  split
  · exact ((State.pumpRecord_touches s).mono (by decide)).trans ((State.resume_touches _).mono (by decide))
  · exact (State.pumpStatus_touches s).mono (by decide)
  · exact ((State.placeCompletions_touches _ s).mono (by decide)).trans ((State.reloadOn_touches _).mono (by decide))
  · exact (State.placeLoads_touches _ s).mono (by decide)

theorem State.receive_touches (s : State) (a : Addr) (op : BusOp) : Touches [.path] s (s.receive a op) := by
  unfold State.receive
  try dsimp only
  (repeat' split) <;> (intro f hf; cases f <;> first | exact absurd (by decide) hf | rfl)

theorem State.performBus_touches (s : State) (b : BusAccess) : Touches [.mem, .path] s (s.performBus b) := by
  unfold State.performBus
  try dsimp only
  (repeat' split) <;> (intro f hf; cases f <;> first | exact absurd (by decide) hf | rfl)

theorem State.snoopNotice_touches (s : State) (lanes : Lanes) (w : Word) : Touches [.path, .notice] s (s.snoopNotice lanes w) := by
  intro f hf; cases f <;> first | exact absurd (by decide) hf | rfl

theorem State.snoopConsumer_touches (s : State) (lanes : Lanes) (w : Word) : Touches [.path, .report] s (s.snoopConsumer lanes w) := by
  unfold State.snoopConsumer
  exact Touches.trans (by intro f hf; cases f <;> first | exact absurd (by decide) hf | rfl) ((State.takeConsumer_touches _ _).mono (by decide))

theorem State.performInternal_touches (s : State) (r : Request) (rest : List Request) : Touches [.mem, .path, .iq, .cmd, .notice, .ev, .loader] s (s.performInternal r rest) := by
  unfold State.performInternal
  dsimp only
  split
  · intro f hf; cases f <;> first | exact absurd (by decide) hf | rfl
  · intro f hf; cases f <;> first | exact absurd (by decide) hf | rfl
  · exact Touches.trans (by intro f hf; cases f <;> first | exact absurd (by decide) hf | rfl) ((State.receiveTableWord_touches _ _).mono (by decide))

theorem State.applyBlocks_touches (s : State) (cfg : ImageConfig) (st : ImageStatus) :
    Touches [.path, .iq, .loader, .lines, .tacho, .gate, .det, .ev, .zone, .report, .cmd] s (s.applyBlocks cfg st) := by
  intro f hf; cases f <;> first | exact absurd (by decide) hf | rfl

theorem State.applyMould_touches (s : State) (cfg : ImageConfig) : Touches [.ev, .zone] s (s.applyMould cfg) := by
  unfold State.applyMould
  split
  · intro f hf; cases f <;> first | exact absurd (by decide) hf | rfl
  · exact State.putMould_touches s _ _

theorem State.applyNotice_touches (s : State) (cfg : ImageConfig) : Touches [.notice] s (s.applyNotice cfg) := by
  have h1 := (State.loadBatch_touches s .event cfg.batchEvent).trans (State.loadBatch_touches _ .cycle cfg.batchCycle)
  have h2 (t : State) (n : NoticeUnit) : Touches [.notice] t { t with notice := n } := by
    intro f hf; cases f <;> first | exact absurd (by decide) hf | rfl
  exact h1.trans (h2 _ _)

theorem State.enterRunning_touches (s : State) (cfg : ImageConfig) (st : ImageStatus) :
    Touches [.path, .iq, .loader, .lines, .tacho, .gate, .det, .ev, .zone, .report, .cmd, .notice, .status] s (s.enterRunning cfg st) := by
  have h1 : Touches [.path, .iq, .loader, .lines, .tacho, .gate, .det, .ev, .zone, .report, .cmd, .notice, .status] s (s.applyBlocks cfg st) :=
    (State.applyBlocks_touches s cfg st).mono (by decide)
  have h2 (t : State) : Touches [.path, .iq, .loader, .lines, .tacho, .gate, .det, .ev, .zone, .report, .cmd, .notice, .status] t (t.applyMould cfg) :=
    (State.applyMould_touches t cfg).mono (by decide)
  have h3 (t : State) : Touches [.path, .iq, .loader, .lines, .tacho, .gate, .det, .ev, .zone, .report, .cmd, .notice, .status] t (t.applyNotice cfg) :=
    (State.applyNotice_touches t cfg).mono (by decide)
  have h4 (t : State) (n : Nat) : Touches [.path, .iq, .loader, .lines, .tacho, .gate, .det, .ev, .zone, .report, .cmd, .notice, .status] t (t.raise n) := (State.raise_touches t n).mono (by decide)
  have h5 (t : State) (p : Nat → Bool) : Touches [.path, .iq, .loader, .lines, .tacho, .gate, .det, .ev, .zone, .report, .cmd, .notice, .status] t (t.markWhere p) := (State.markWhere_touches t p).mono (by decide)
  have h := (h1.trans (h2 _)).trans (h3 _)
  unfold State.enterRunning
  dsimp only
  split
  · exact (h.trans (h4 _ _)).trans (h5 _ _)
  · exact h.trans (h5 _ _)

/-! ## What the operations of one answer give -/

/-- Outside the instant of a truncation, or without the operand, a header takes the tag of the Gate Sequencer's present
state (R28). -/
theorem State.frameTag_present (s : State) (between : Bool) (h : between = false ∨ ∀ n, s.gate.truncated ≠ some (n, s.clock)) :
    s.frameTag between = ⟨s.gate.cycle, s.gate.gates⟩ := by
  unfold State.frameTag
  split
  · next n t e =>
    rcases h with h | h
    · simp [h]
    · have : t ≠ s.clock := fun ht => h n (by rw [e, ht])
      simp [this]
  · rfl

/-- At the instant of a truncation, with the operand set, a header takes the old number with all gates closed (R50). -/
theorem State.frameTag_between (s : State) (n : Word) (h : s.gate.truncated = some (n, s.clock)) :
    s.frameTag true = ⟨n, {}⟩ := by
  simp [State.frameTag, h]

/-- With no operation in progress the NVM link is idle (R159). -/
theorem State.linkLevels_idle (s : State) (h : s.linkBusy = false) : s.linkLevels = .idle := by
  simp [State.linkLevels, h]

/-- There is room for the words of a RELOAD exactly when none waits before them and all fit (R15, R157). -/
theorem State.roomForAll_iff (s : State) :
    s.roomForAll = true ↔ s.cmd.waits = [] ∧ s.iq.length + (s.cmd.queue.length + 1) ≤ 64 := by
  rw [State.roomForAll, Bool.and_eq_true, List.isEmpty_iff, decide_eq_true_eq]
  exact Iff.rfl

/-- An access to physical slot `p` is in progress exactly when the access in progress is a sample-window access that was
translated to `p` (R122). -/
theorem State.accessTo_iff (s : State) (p : Fin 48) :
    s.accessTo p = true ↔ ∃ b l i, s.path.bus = some b ∧ b.place = .sample l p i := by
  unfold State.accessTo
  split
  · next b hb =>
    split
    · next l q i hp => simp [hb, hp]
    · next hp => simpa [hb] using fun l i h => hp l p i h
  · next hb => simp [hb]

/-- Time `t` can come exactly when no edge event is due or it is no later than the present sample instant. -/
theorem State.canReach_iff (s : State) (t : Nat) : s.canReach t = true ↔ s.gate.due = [] ∨ t ≤ s.clock := by
  simp [State.canReach]

/-- An edge event that is not due has no effect. -/
theorem State.takeEdge_absent (s : State) (i : Fin 5) (h : i ∉ s.gate.due) : s.takeEdge i = s := by
  simp [State.takeEdge, h]

/-- With no edge event due, none is taken. -/
theorem State.takeEdges_none (s : State) (lines : List (Fin 5)) (h : s.gate.due = []) : s.takeEdges lines = s := by
  unfold State.takeEdges
  induction lines with
  | nil => rfl
  | cons i is ih => rw [List.foldl_cons, State.takeEdge_absent s i (by simp [h])]; exact ih

end Sys2Proof.Machine
end

