-- ==== Sys2Proof/Tests/Slice0.lean ====
section
/-! SUPPORT. Tests of the model: ill-formed commands that the check refuses, worked examples of the manual, and for each statement with premises a state that meets them. Expected results are the manual's own, or worked out by hand from its rules. -/

namespace Sys2Proof.Tests

open Sys2Proof.Machine

/-! ## Well-formedness: a term for each check that the check refuses -/

theorem test_imageRead_short : (Instr.imageRead 0 []).wellFormed = false := by decide
theorem test_nvmReadback_short : (Instr.nvmReadback 0 [0x00, 0xFF]).wellFormed = false := by decide
theorem test_lineSample_repeat : (Instr.lineSample (Vector.replicate 5 false) ⟨false, [0, 3, 3]⟩).wellFormed = false := by decide
theorem test_lineSample_wellFormed :
    (Instr.lineSample (Vector.replicate 5 false) ⟨false, [4, 3, 2, 1, 0]⟩).wellFormed = true := by decide
theorem test_no_word_spells_a_command : decodeTableWord 16 0xFFFF = none := by decide

/-! ## Small states -/

/-- The state a step gives; the reset state if it gives none. -/
def after : Host.Outcome State Fault Refusal → State
  | .next s => s
  | _ => State.reset

/-- RUNNING with the default windows, the default profile of four zones and the default program, the gates closed. -/
def base : State :=
  { State.reset with
    path := { state := .running, windows := some {} }
    loader := { phase := .idle, stored := [defaultProfile] }
    gate := { state := .idle, active := some builtInDefaults.program }
    ev := { profile := some defaultProfile }
    zone := { records := clearedRecords defaultProfile, mouldType := 1 } }

/-- Word `k` of the shadow of a command of function `fn` with arguments. -/
def shadowOf (fn : Nat) (args : List Nat) : Vector Word 16 :=
  Vector.ofFn fun k => BitVec.ofNat 32 (((fn :: args)[k.val]?).getD 0)

/-- Slot 0 PENDING with a command, at the head of the command queue of `s`. -/
def queued (s : State) (fn : Nat) (args : List Nat) : State :=
  { s with cmd := { slots := s.cmd.slots.set 0 ⟨.pending, shadowOf fn args, false⟩, queue := [0] } }

/-- A bus-side access that has the memory-side port. -/
def holding (s : State) (op : BusOp) (m : Nat) (place : Place) (snooped : Bool) : State :=
  { s with path := { s.path with port := some .busSide, bus := some ⟨op, m, place, snooped⟩ } }

/-! ## Worked examples of the manual -/

/-- The first table of the programming tip of chapter 1: the map takes logical slot 5 to physical slot 33. -/
def tipState : State :=
  { base with cap := { base.cap with
      map := base.cap.map.set 5 33
      table := base.cap.table.set 1 { state := .held, frames := [(1, 40), (2, 41), (3, 7)] } } }

/-- Write 010BFCH: translated to 0143FCH, logical slot 5, word 127. -/
theorem test_busAccess_sample :
    (after (exec (.busAccess 0x010BFC (.write 0xF 0)) tipState)).path.bus
      = some ⟨.write 0xF 0, 0x0143FC, .sample 5 33 127, true⟩ := by decide

/-- Read 019C0CH: the evidence of capture 1, frame 2, at 010E0CH; read 01A00CH: FFFFFFFFH. -/
theorem test_busAccess_evidence :
    ((after (exec (.busAccess 0x019C0C .read) tipState)).path.bus.map (·.memAddr) = some 0x010E0C)
      ∧ (after (exec (.busAccess 0x01A00C .read) tipState)).path.reply = .data 0xFFFFFFFF := by decide

/-- Write 0202F8H on lanes 0 and 1: the copy of word 62 takes the two low bytes (section 1.8's tip). -/
theorem test_noticeControlWord_merges :
    (after (exec .noticeControlWord (holding base (.write 0x3 0xAABBCCDD) 0x0202F8 .noticeWord true))).path.copy62
      = 0x0000CCDD := by decide

/-- Section 1.8: at 49 waiting entries after a bus-side grant the oldest entry is granted, at 48 after it the bus side. -/
theorem test_arbiter_near_the_mark :
    arbiterChoice 47 true .busSide = some .busSide ∧ arbiterChoice 49 true .busSide = some .internal
      ∧ arbiterChoice 48 true .internal = some .busSide ∧ arbiterChoice 64 true .internal = some .internal := by decide

/-- The filtering example of section 3.1, from sample 2 on. -/
theorem test_filter_bounce :
    filterStep 3 false 1 true = (false, 2, false) ∧ filterStep 3 false 2 false = (false, 0, false)
      ∧ filterStep 3 false 2 true = (true, 0, true) := by decide

/-- Section 4.8: the first three positions of the burst. -/
theorem test_envelope_burst :
    envelopeStep 180 1200 2 = 435 ∧ envelopeStep 435 900 2 = 551 ∧ envelopeStep 551 300 2 = 488 := by decide

/-- Section 4.8: position 48,301, where the hit starts. -/
theorem test_burst_starts :
    (Channel.step { f := 40, code := 0, hdt := 8, lockout := 0 } { env := 435, prev := 1200, frameTh := 500 } 48301 900 7 .a 1).1.state
      = .active 500 ⟨48301, 7, .a, 1, 900, 1, 196, 48301, 196, 0, false⟩ := by decide

/-- Section 4.8: the five floor updates. -/
theorem test_floor_five_frames :
    floorStep 6 200 150 = 188 ∧ floorStep 6 188 180 = 186 ∧ floorStep 6 186 184 = 186 ∧ floorStep 6 186 300 = 187
      ∧ floorStep 6 187 260 = 188 := by decide

/-- Section 4.11: rectified values, clipping and energy terms. -/
theorem test_rectify_limits :
    rectify (-20000) = 20000 ∧ energyTerm 20000 = 97344 ∧ rectify (-32768) = 32767 ∧ rectify (-32767) = 32767
      ∧ clippedSample (-32767) = false ∧ clippedSample (-32768) = true ∧ energyTerm 32767 = 261121 := by decide

/-- Section 4.11: frame thresholds. -/
theorem test_frame_thresholds :
    frameThreshold { f := 48, code := 1 } 0 = 256 ∧ frameThreshold { f := 40, code := 0 } 200 = 500
      ∧ frameThreshold { f := 16, code := 31 } 100 = 4096 ∧ frameThreshold { f := 255, code := 31 } 2000 = 31875
      ∧ frameThreshold { f := 255, code := 31 } 2100 = 32767 := by decide

/-- Section 5.8: channels 2 and 1 with a delay of 37 and q = 2 look up entry 121; the weight is 10, and that of the single hit
of section 4.8 is 7. -/
theorem test_location_and_weight :
    entryIndex (pairRow 2 1) (bucketOf 37 2) = 121 ∧ octave 3100 = 11 ∧ octave 900 = 9
      ∧ weightOf { slope := 2, octFloor := 8 } .a 11 false = 10 ∧ weightOf { slope := 3, octFloor := 8 } .a 9 false = 7 := by
  decide

/-- Section 6.7: the evaluations of cycles 402, 404, 408 and 409. -/
theorem test_zone_builds :
    let eval (r : ZoneRecord) (blind : Bool) := let u := r.updated {} blind; (u.score, u.streak, u.judged {})
    eval ⟨.watch, 88, 1, 3, 0, 0, none, none⟩ false = (96, 2, .watch)
      ∧ eval ⟨.watch, 92, 0, 0, 0, 0, none, none⟩ true = (92, 0, .watch)
      ∧ eval ⟨.suspect, 300, 3, 2, 0, 0, none, none⟩ false = (308, 4, .cracked)
      ∧ eval ⟨.cracked, 308, 4, 0, 0, 0, none, none⟩ false = (304, 0, .cracked) := by decide

/-- Section 6.8: the drop tests at 110, 106, 30 and 26; section 6.9: a loud cycle without a streak. -/
theorem test_zone_drops :
    let eval (r : ZoneRecord) := let u := r.updated {} false; (u.score, u.judged {})
    eval ⟨.suspect, 114, 0, 0, 0, 0, none, none⟩ = (110, .suspect) ∧ eval ⟨.suspect, 110, 0, 0, 0, 0, none, none⟩ = (106, .watch)
      ∧ eval ⟨.watch, 34, 0, 0, 0, 0, none, none⟩ = (30, .watch) ∧ eval ⟨.watch, 30, 0, 0, 0, 0, none, none⟩ = (26, .clear)
      ∧ eval ⟨.clear, 320, 0, 20, 0, 0, none, none⟩ = (320, .suspect) := by decide

/-- Section 7.9: the wanted frames of the trigger. -/
theorem test_wanted_frames :
    wantedFrames ⟨2310, 0, 1, 5120, 2, 2⟩ (some 5122) = [5118, 5119, 5120, 5121, 5122] := by decide

/-- Section 7.9 before its trigger: the frames of the wanted run, of which 5119 was disturbed. -/
def capturing : State :=
  { base with
    asm := { base.asm with tags := Vector.ofFn fun p =>
      if p.val = 30 then .complete 5118 else if p.val = 31 then .disturbed else if p.val < 3 then .complete (5120 + BitVec.ofNat 16 p.val)
      else .empty }
    cap := { base.cap with latest := some 5122 } }

/-- A completion whose trigger, that of section 7.9, waits for its answer. -/
def triggering : Completion :=
  ⟨⟨2310, 100, 500, false, .a, 1, 7, [], 0, .completes⟩, false, false, true, 0, 6, false, none, .trigger ⟨2310, 0, 1, 5120, 2, 2⟩⟩

/-- Section 7.9: the trigger takes entry 0 and freezes 5118 first; the run goes on. -/
theorem test_capture_begins :
    let t := after (exec .captureTrigger { capturing with ev := { capturing.ev with completion := some triggering } })
    t.cap.table[0].frames = [(5118, 30)] ∧ t.cap.map[30] = 32 ∧ t.cap.run = some ⟨0, [5119, 5120, 5121, 5122], 2, none⟩ := by
  decide +kernel

/-- The run of section 7.9 before its last frame, with three frames taken and 5119 missed. -/
def lastWanted : State :=
  { capturing with
    ev := { capturing.ev with completion := some triggering }
    cap := { capturing.cap with
      run := some ⟨0, [5122], 2, none⟩
      table := capturing.cap.table.set 0 { frames := [(5118, 30), (5120, 0), (5121, 1)], missed := 1 } } }

/-- Section 7.9: the last frame taken; the capture is OPEN with 2 frames to come. R127: where a write falls before that frame
and disturbs its slot, it is missed. -/
theorem test_capture_taken :
    let t := after (exec .captureTrigger lastWanted)
    let u := after (exec .captureTrigger { lastWanted with asm := { lastWanted.asm with tags := lastWanted.asm.tags.set 2 .disturbed } })
    (t.cap.table[0].frames = [(5118, 30), (5120, 0), (5121, 1), (5122, 2)] ∧ t.cap.table[0].missed = 1
        ∧ t.cap.table[0].state = .opened ∧ t.cap.table[0].remaining = 2 ∧ t.cap.run = none)
      ∧ u.cap.table[0].frames = [(5118, 30), (5120, 0), (5121, 1)] ∧ u.cap.table[0].missed = 2 := by decide +kernel

/-- Section 8.5: the ring with R = 16, P = 3 and C = 5, then full with P = 4. -/
def ringAt (p gap : Nat) : State :=
  { base with
    path := { base.path with windows := some { r := 16 } }
    report := { p := p, c := 5, seq := 900, gap := gap, handed := [⟨.capture, [1], 0, .nothing⟩] } }

theorem test_record_written :
    let t := after (exec .recordTaken (ringAt 3 0))
    t.report.p = 4 ∧ t.report.seq = 901 ∧ t.iq.length = 32 ∧ t.iq.head? = some ⟨0x21180, .write 0x03840304⟩ := by decide

theorem test_record_suppressed :
    let t := after (exec .recordTaken (ringAt 4 0))
    t.report.p = 4 ∧ t.report.gap = 1 ∧ t.notice.pending = 0x0080 ∧ t.iq = [] := by decide

/-- Section 8.6: a zone enters CRACKED with COMMAND_DONE pending. -/
def noticing : NoticeUnit := { pending := 0x0400, mask := 2, levels := (NoticeUnit.levels {}).set 3 7 }

theorem test_cracked_sets_latch :
    let n := noticing.raise 3 0
    noticing.noticeActive = false ∧ n.pending = 0x4408 ∧ n.latch = true ∧ n.cause = some 3 ∧ n.noticeActive = true
      ∧ (n.control 0x00020008 0).cause = some 10 ∧ (n.control 0x00020008 0).noticeActive = false := by decide

/-- Section 9.4: SET TACHO BAND expects two arguments, so the terminator is data at word 2 and taken at word 3. -/
theorem test_terminator_place :
    terminatorTest (shadowOf 0x2108 [18000, 0xFFFFFFFF]) 2 = .plain ∧ terminatorTest (shadowOf 0x2108 [18000, 22000]) 3 = .taken
      ∧ completionWord 0x2108 .done true = 0x01012108 := by decide

theorem test_setTachoBand :
    let t := after (exec .setTachoBand (queued base 0x08 [18000, 22000]))
    t.tacho.pmin = 18000 ∧ t.tacho.pmax = 22000 ∧ t.iq = [⟨0x20000, .completion 0 0x00010008⟩] := by decide

/-- R44: the cycle number wraps from FFFFFFFFH to 1. -/
theorem test_cycle_number_wraps : nextCycle 0xFFFFFFFF = 1 ∧ nextCycle 0 = 1 := by decide

/-- R160: CRC-16 with polynomial 1021H and initial value FFFFH, of the letter A in ASCII (the published value of this CRC). -/
theorem test_crc : crc16 [0x41] = 0xB915 := by decide

/-- R25: distances 1, 32768, 32769 and 0 from the last accepted sequence. -/
theorem test_sequence_distance :
    missingCount (some 65535) 0 = some 0 ∧ missingCount (some 5) 32773 = some 32767 ∧ missingCount (some 5) 32774 = none
      ∧ missingCount (some 5) 5 = none := by decide

end Sys2Proof.Tests

namespace Sys2Proof.Tests

open Sys2Proof.Machine

/-! ## Premises met: the step and the invariants

Each theorem `met_<statement>` gives, for each clause of the statement that has premises, a state and operands that meet them
together, at boundary values where the clause has a range. -/

/-- A command that completes, waiting in front of the queue. -/
def waitingFor (c : Instr) (s : State) : State := { s with pending := [c] }

theorem met_StepRunsFrontCommand :
    (waitingFor .nop base).pending = .nop :: [] ∧ base.pending = [] := ⟨rfl, rfl⟩

theorem met_ColdResetLeavesColdState :
    let s : State := { base with path := { base.path with bus := some ⟨.read, 0, .other, false⟩, port := some .internal } }
    (s.path.bus = some ⟨.read, 0, .other, false⟩ ∧ s.path.port ≠ some .busSide) ∧ base.path.bus = none := by decide

theorem met_StepKeepsMemoryCanonical :
    State.MemoryCanonical { base with mem := [(0, 1), (16777215, 255)] }
      ∧ ∃ t, step (waitingFor .nop { base with mem := [(0, 1), (16777215, 255)] }) = .next t := by
  refine ⟨?_, _, rfl⟩
  unfold State.MemoryCanonical
  decide

/-- A HELD capture of one frame: the map, the spare list and the frame list share the 48 slots out. -/
def holdingFrame : State :=
  { base with
    asm := { base.asm with tags := Vector.ofFn fun p => if p = 0 then .complete 7 else .empty }
    cap := { base.cap with
      map := Vector.ofFn fun l => if l = 0 then 32 else Fin.castLE (by decide) l
      spare := [33, 34, 35, 36, 37, 38, 39, 40, 41, 42, 43, 44, 45, 46, 47]
      table := base.cap.table.set 0 { state := .held, frames := [(7, 0)] } } }

theorem met_StepKeepsSlotsInOrder :
    holdingFrame.SlotsInOrder ∧ ∃ t, step (waitingFor .nop holdingFrame) = .next t := by
  have tag : ∀ p : Fin 48, holdingFrame.asm.tags[p] = if p = 0 then .complete 7 else .empty := fun p => by
    simp [holdingFrame]
  refine ⟨⟨?_, ⟨by decide +kernel, by decide +kernel⟩, ?_, ⟨by decide +kernel, fun r h => by cases h⟩, ?_, ?_, ?_, ?_⟩, _, rfl⟩
  · unfold CaptureUnit.Partitioned
    decide +kernel
  · unfold CaptureUnit.FreeEmpty
    decide +kernel
  · intro p hp
    rw [tag, if_neg]
    rintro rfl
    revert hp
    decide
  · have all : ∀ c : Fin 4, ∀ f ∈ holdingFrame.cap.table[c].frames, f = (7, 0) := by
      intro c f hf
      fin_cases c <;> simp [holdingFrame, base, State.reset] at hf
      exact hf
    intro c f hf
    rw [all c f hf, tag]
    rfl
  · intro x h
    cases h
  · intro b l p i h
    cases h

theorem inRange_builtInDefaults : builtInDefaults.InRange := by
  refine ⟨by decide, ?_, ?_, ?_, ?_, ?_, ?_, ?_, by decide, ?_, ?_, by decide, by decide, ?_⟩
  · unfold DetSettings.InRange within
    decide
  · unfold EventSettings.InRange within
    decide
  · unfold Policy.InRange within
    decide
  · unfold bandInRange
    decide
  · unfold within
    decide
  · unfold within
    decide
  · unfold programInRange GateStep.InRange within
    decide
  · unfold within
    decide
  · unfold within
    decide
  · unfold profilesInRange Profile.InRange within
    decide +kernel

theorem inRange_default : defaultProfile.InRange := by
  unfold Profile.InRange within
  decide +kernel

theorem inRange_program : programInRange builtInDefaults.program := by
  unfold programInRange GateStep.InRange within
  decide

theorem settings_running : base.SettingsInRange where
  windows := by
    intro t h
    cases h
    decide
  detector := by
    refine ⟨?_, fun d h => by cases h⟩
    unfold DetSettings.InRange within
    decide
  events := by
    refine ⟨?_, fun e h => by cases h⟩
    unfold EventSettings.InRange within
    decide
  policy := by
    unfold Policy.InRange within
    decide
  band := by
    unfold bandInRange
    decide
  filters := by
    unfold within
    decide
  programs := by
    refine ⟨?_, fun p h => by cases h⟩
    intro p h
    cases h
    exact inRange_program
  notices := by
    unfold NoticeUnit.InRange within
    decide
  profiles := by
    intro _
    refine ⟨by unfold within; decide, ?_, by decide⟩
    intro p h
    cases List.mem_singleton.1 h
    exact inRange_default
  mould := by
    refine ⟨by decide, fun e h => by cases h⟩
  ready := fun cfg st h => by cases h
  running := fun _ => ⟨by decide, by decide⟩

/-- The built-in defaults are ready to be applied. -/
def readyBase : State := { base with loader := { base.loader with phase := .ready builtInDefaults {} } }

theorem settings_readyBase : readyBase.SettingsInRange :=
  { settings_running with ready := fun cfg st h => by cases h; exact inRange_builtInDefaults }

theorem met_StepKeepsSettingsInRange :
    (readyBase.SettingsInRange ∧ ∃ t, step (waitingFor .runningEntry readyBase) = .next t)
      ∧ base.SettingsInRange ∧ base.path.state = .running :=
  ⟨⟨settings_readyBase, _, rfl⟩, settings_running, rfl⟩

/-- Slot 3 EXECUTING a command with work `job`. -/
def executing (job : Job) : State :=
  { base with cmd := { slots := base.cmd.slots.set 3 ⟨.executing, shadowOf 1 [], false⟩, exec := some ⟨3, job⟩ } }

/-- The completion word of slot 3 has the memory-side port. -/
def finishing : State :=
  { executing .completing with
    iq := [⟨0x200C0, .completion 3 0x00010001⟩]
    path := { base.path with port := some .internal } }

/-- NOP, its terminator not yet written, in slot 5: the write of the terminator has the port. -/
def terminating : State := holding { base with cmd := { slots := base.cmd.slots.set 5 ⟨.free, shadowOf 1 [], false⟩ } }
  (.write 0xF 0xFFFFFFFF) 0x20144 (.command 5 1) true

/-- Every clause has a step that takes it: the queue as it was, a command added, one begun, one ended, and all discarded. -/
theorem met_StepKeepsQueueRingAndCommandOrder :
    (State.QueueBounded { base with iq := List.replicate 64 ⟨0, .write 0⟩ }
        ∧ ∃ t, step (waitingFor .nop { base with iq := List.replicate 64 ⟨0, .write 0⟩ }) = .next t)
      ∧ (base.SettingsInRange ∧ base.RingInRange ∧ ∃ t, step (waitingFor .nop base) = .next t)
      ∧ ((executing .completing).OneExecuting ∧ ∃ t, step (waitingFor .nop (executing .completing)) = .next t)
      ∧ (State.WaitsOrdinary { base with cmd := { base.cmd with waits := [(2, .done)] } }
        ∧ ∃ t, step (waitingFor .nop { base with cmd := { base.cmd with waits := [(2, .done)] } }) = .next t)
      ∧ ((after (exec .commandWindowWrite terminating)).cmd.queue = [5]
        ∧ (after (exec .nop (queued base 0x01 []))).cmd.exec.map (·.slot) = some 0
        ∧ (after (exec (.internalAccessComplete none) finishing)).cmd.exec = none
        ∧ (after (exec .reload (queued base 0x15 []))).cmd.queue = []
        ∧ (executing .reloading).cmd.exec = some ⟨3, .reloading⟩) := by
  refine ⟨⟨?_, _, rfl⟩, ⟨settings_running, ?_, _, rfl⟩, ⟨?_, _, rfl⟩, ⟨?_, _, rfl⟩, by decide +kernel⟩
  · unfold State.QueueBounded
    decide
  · intro t h
    cases h
    exact ⟨by decide, by decide, fun n h => by cases h⟩
  · intro i hi
    refine ⟨⟨3, .completing⟩, rfl, ?_⟩
    revert hi
    revert i
    decide
  · unfold State.WaitsOrdinary
    decide

/-- Four events open, each with a member on every channel. -/
def crowded : State :=
  let e (id : Half) : OpenEvent := ⟨id, 100, 500, false, .a, 1, 7, (List.finRange 4).map fun c => ⟨c, 100, .running⟩, 0, .stays⟩
  { base with ev := { base.ev with openEvents := [e 0, e 1, e 2, e 3] } }

theorem met_StepKeepsZonesAndEventsInRange :
    (base.ZonesInRange ∧ ∃ t, step (waitingFor .nop base) = .next t)
      ∧ crowded.EventsBounded ∧ ∃ t, step (waitingFor .nop crowded) = .next t := by
  refine ⟨⟨?_, _, rfl⟩, ?_, _, rfl⟩
  · intro z r h
    have hz : z < 24 := by
      by_contra hz
      simp [ZoneTable.record?, vget, hz] at h
    have key : ∀ z < 24, ∀ r, base.zone.record? z = some r → r = ⟨.clear, 0, 0, 0, 0, 0, none, none⟩ := by
      intro z hz
      interval_cases z <;> intro r h <;> first | (cases h; rfl) | cases h
    rw [key z hz r h]
    unfold ZoneRecord.InRange
    decide
  · unfold State.EventsBounded
    decide

/-- Sample set 0 of a frame, channel 1 ACTIVE at the least threshold of code 3 and every frame threshold at the greatest. -/
def thresholded : State :=
  let work : FrameWork := ⟨⟨7, 0xF, false, ⟨1, {}⟩, 0, Vector.replicate 126 0⟩, .sets 0⟩
  let ch : Channel := { frameTh := 32767 }
  { base with
    aq := { work := some work }
    det := { base.det with
      settings := { base.det.settings with code := 3 }
      chans := ⟨#[ch, { ch with state := .active 512 ⟨100, 7, .a, 1, 900, 3, 196, 130, 180, 0, false⟩ }, ch, ch], rfl⟩ } }

theorem met_StepKeepsChannelsAndThresholdsInRange :
    (base.SettingsInRange ∧ base.ChannelsInRange ∧ ∃ t, step (waitingFor .nop base) = .next t)
      ∧ thresholded.SettingsInRange ∧ thresholded.ThresholdsInUse ∧ ∃ t, step (waitingFor .sampleSet thresholded) = .next t := by
  refine ⟨⟨settings_running, ?_, _, rfl⟩, ?_, ⟨?_, ?_, ?_⟩, _, rfl⟩
  · unfold State.ChannelsInRange Channel.InRange floorsInRange
    decide
  · refine { settings_running with detector := ⟨?_, fun d h => by cases h⟩ }
    unfold DetSettings.InRange within
    decide
  · intro h
    exact absurd rfl h
  · intro c t h
    have key : ∀ c : Fin 4, thresholded.det.chans[c].state.latched? = if c = 1 then some 512 else none := by decide
    rw [key] at h
    split at h <;> cases h
    unfold thresholdOk
    decide
  · intro w _ _
    unfold thresholdOk
    decide

theorem met_StreamPositionNeverDecreases :
    let s : State := { base with asm := { base.asm with position := positionTop } }
    s.asm.position ≤ positionTop ∧ (∃ t, step (waitingFor .nop s) = .next t) ∧ (∃ t, step (waitingFor .coldReset s) = .next t)
      ∧ (waitingFor .nop s).pending.head? ≠ some .coldReset ∧ (waitingFor .coldReset s).pending.head? = some .coldReset :=
  ⟨le_refl _, ⟨_, rfl⟩, ⟨_, rfl⟩, by decide, by decide⟩

/-- Zone 3 CRACKED, and RESET ZONE 3 at the head of the command queue. -/
def crackedReset : State :=
  queued { base with zone := { base.zone with records := base.zone.records.set 3 (some { state := .cracked, score := 308 }) } } 0x0E [3]

theorem met_CrackedLeavesOnlyByCommand :
    crackedReset.zone.record? 3 = some { state := .cracked, score := 308 }
      ∧ (∃ t, step (waitingFor .resetZone crackedReset) = .next t)
      ∧ (after (step (waitingFor .resetZone crackedReset))).zone.record? 3 = some { state := .clear } :=
  ⟨by decide, ⟨_, rfl⟩, by decide⟩

theorem met_SramChangesOnlyAtGrantedWrites :
    let s := holding base (.write 0xF 1) 0x030006 .other false
    (∃ t, exec .busAccessComplete s = .next t) ∧ storeAddress .busAccessComplete s = some 0x030006
      ∧ (0x030003 < 0x030006 - 0x030006 % 4) ∧ (0x030006 - 0x030006 % 4 + 4 ≤ 0x030008) := ⟨⟨_, rfl⟩, by decide, by decide, by decide⟩

/-! ## Premises met: the configuration image -/

theorem met_SavedImageReadsBack :
    (builtInDefaults.InRange ∧ (0x00 : Byte) ≠ 0xFF)
      ∧ (builtInDefaults.program.length ≤ 2 ∧ (2 : Nat) < 12) ∧ builtInDefaults.profiles.length ≤ 1 ∧ (1 : Nat) < 4 :=
  ⟨⟨inRange_builtInDefaults, by decide⟩, by decide, by decide +kernel⟩

/-- The part of the default image that the CRC covers has its 1,018 bytes. -/
theorem body_length : (imageBody builtInDefaults).length = 1018 := by decide +kernel

/-- An image carries the CRC of its body. -/
theorem crcOk_of_length (c : ImageConfig) (h : (imageBody c).length = 1018) : crcOk (buildImage c) = true := by
  have h1 : ((buildImage c).drop 2).take 1018 = imageBody c := by
    simp [buildImage, ← h]
  have h2 : imageWord16 (buildImage c) 1020 = (crc16 (imageBody c)).toNat := by
    have key : ∀ (r : BitVec 16), (BitVec.ofNat 8 (r.toNat >>> 8)).toNat * 256 + (BitVec.ofNat 8 r.toNat).toNat = r.toNat := by
      intro r
      have := r.isLt
      simp [Nat.shiftRight_eq_div_pow]
      omega
    rw [← key]
    simp [imageWord16, imageByte, buildImage, h, bytesBE, List.range_succ]
  simp [crcOk, h1, h2]

/-- R156, R164: the default image with its 1,024 bytes, 0 in its third step word, in its second profile slot and before its CRC. -/
theorem test_default_image_zeros :
    let bs := buildImage builtInDefaults
    bs.length = 1024 ∧ [72, 111, 338, 539, 944, 1019].map (imageByte bs) = [0, 0, 0, 0, 0, 0] := by decide +kernel

/-- The image of the built-in defaults passes the checks. -/
theorem ok_defaults : imageOk (buildImage builtInDefaults) = true := by
  have h := crcOk_of_length _ body_length
  have h1 : markersOk (buildImage builtInDefaults) = true := by decide +kernel
  have h2 : windowsOk (imageWindows (buildImage builtInDefaults)) = true := by decide +kernel
  have h3 : orderOk (buildImage builtInDefaults) = true := by decide +kernel
  have h4 : programOk (buildImage builtInDefaults) = true := by decide +kernel
  simp only [imageOk, h, h1, h2, h3, h4, Bool.and_self]
/-- The image of the built-in defaults without a profile, so that no profile slot counts. -/
def noProfile : ImageConfig := { builtInDefaults with profiles := [] }

/-- An image built from the built-in windows, policy, band and program passes. -/
theorem passes_of (c : ImageConfig) (h : (imageBody c).length = 1018) (m : markersOk (buildImage c) = true)
    (s : imagePair (buildImage c) 17 = 64)
    (w : [2, 5, 8, 11, 14].map (imageTriple (buildImage c)) = [0x10000, 0x18000, 0x20000, 0x20200, 0x21000])
    (o : [40, 42, 44, 53, 55].map (imagePair (buildImage c)) = [40, 120, 300, 15000, 25000])
    (p : imageByte (buildImage c) 63 = 2 ∧ ∀ i < 2, stepOfWord (imageStep (buildImage c) i) ≠ none) :
    ImagePasses 0x00 (buildImage c) := by
  have k := crcOk_of_length c h
  simp only [List.map_cons, List.map_nil, List.cons.injEq, and_true] at w o
  obtain ⟨w1, w2, w3, w4, w5⟩ := w
  obtain ⟨o1, o2, o3, o4, o5⟩ := o
  refine ⟨by decide, by simpa [markersOk, and_assoc] using m, ?_, by simp [s], by simp [w1, w2, w3, w4, w5], ?_, ?_,
    by simp [p.1], by simp [p.1], by rw [p.1]; exact p.2⟩
  · simpa [crcOk, imageWord16, imagePair, Nat.mul_comm] using k
  · rw [w1, w2, w3, w4, w5, s]
    decide
  · rw [o1, o2, o3, o4, o5]
    decide

theorem met_AcceptedImageIsInRange :
    (ImagePasses 0x00 (buildImage builtInDefaults) ∧ (List.range 4).filter (imageKeepsSlot (buildImage builtInDefaults)) ≠ [])
      ∧ (ImagePasses 0x00 (buildImage noProfile) ∧ (List.range 4).filter (imageKeepsSlot (buildImage noProfile)) = [])
      ∧ ¬ ImagePasses 0xFF (buildImage builtInDefaults) ∧ ¬ ImagePasses 0x00 [0xC2] := by
  have d := passes_of builtInDefaults body_length (by decide +kernel) (by decide +kernel) (by decide +kernel) (by decide +kernel)
    (by decide +kernel)
  have n := passes_of noProfile (by decide +kernel) (by decide +kernel) (by decide +kernel) (by decide +kernel) (by decide +kernel)
    (by decide +kernel)
  exact ⟨⟨d, by decide +kernel⟩, ⟨n, by decide +kernel⟩, fun h => h.answers rfl, fun h => absurd h.markers.1 (by decide)⟩

/-- R160: a number outside its range is brought to the nearest limit, which is CLAMPED; a mask set member at the zone count is
dropped, which is not. -/
theorem test_image_clamps :
    let high := buildImage { builtInDefaults with det := { kEnv := 9, kUp := 2 } }
    let trimmed := buildImage { builtInDefaults with profiles := [{ defaultProfile with mask := 0x18 }] }
    ((imageConfig high).det.kEnv = 6 ∧ (imageConfig high).det.kUp = 4 ∧ imageClamped high = true)
      ∧ ((imageConfig trimmed).profiles.map (·.mask) = [0x08] ∧ imageClamped trimmed = false) := by decide +kernel

theorem met_GateStepWordsAgree :
    GateStep.InRange ⟨.edge, 15, 4, Gates.ofNat 15, true⟩ ∧ stepOfWord 0x1F4F1 = some ⟨.edge, 15, 4, Gates.ofNat 15, true⟩
      ∧ stepOfWord 0x00000502 = none ∧ stepOfWord 0x00000501 = none := by
  refine ⟨⟨by decide, by decide, fun _ => ⟨by decide, by decide⟩⟩, by decide, by decide, by decide⟩

end Sys2Proof.Tests

namespace Sys2Proof.Tests

open Sys2Proof.Machine

/-! ## Premises met: the memory path -/

/-- `n` entries on the internal queue. -/
def entries (n : Nat) : List Request := List.replicate n ⟨0x21000, .write 0⟩

/-- A bus-side access waits beside `n` internal entries, with the port free after a grant to `last`. -/
def contending (n : Nat) (busWaits : Bool) (last : Claimant) : State :=
  { base with
    iq := entries n
    path := { base.path with
      lastGrant := last
      bus := if busWaits then some ⟨.read, 0x030000, .other, false⟩ else none } }

theorem met_ArbiterGrantsAndSettleMarks :
    (holding base .read 0 .other false).path.port ≠ none
      ∧ ((contending 0 false .busSide).iq.length = 0 ∧ (contending 0 false .busSide).path.bus = none
        ∧ (contending 0 false .busSide).path.port = none)
      ∧ ((contending 0 true .busSide).iq.length = 0 ∧ (contending 0 true .busSide).path.bus ≠ none)
      ∧ (0 < (contending 1 false .busSide).iq.length ∧ (contending 1 false .busSide).path.bus = none)
      ∧ ((contending 1 true .busSide).iq.length = 1 ∧ (contending 47 true .busSide).iq.length = 47
        ∧ (contending 47 true .busSide).path.bus ≠ none)
      ∧ ((contending 48 true .busSide).iq.length = 48 ∧ (contending 63 true .busSide).path.lastGrant = .busSide)
      ∧ ((contending 63 true .internal).iq.length = 63 ∧ (contending 48 true .internal).path.lastGrant = .internal)
      ∧ ((contending 64 true .busSide).iq.length = 64 ∧ (contending 64 true .busSide).path.bus ≠ none)
      ∧ State.reset.path.state = .starting ∧ base.path.state ≠ .starting := by decide +kernel

/-- Each window is met at its first and last address, and the gap below and above the windows. -/
theorem met_BusAccessIsTreatedByWindow :
    let t : WindowTable := {}
    let rd : BusOp := .read
    let s : State := { base with cap := { base.cap with
      table := (base.cap.table.set 0 { state := .held, frames := [(1, 40)] }).set 3 { state := .held, frames := List.replicate 12 (2, 41) } } }
    (holding base rd 0 .other false).path.bus ≠ none
      ∧ (State.reset.path.bus = none ∧ State.reset.path.state = .starting)
      ∧ (s.path.bus = none ∧ s.path.state ≠ .starting ∧ s.path.windows = some t ∧ windowsOk t = true)
      ∧ (t.bs ≤ 0x10000 ∧ 0x13FFF < t.bs + 16384 ∧ 31 = (0x13FFF - t.bs) / 512 ∧ 127 = (0x13FFF - t.bs) % 512 / 4)
      ∧ (t.bs + 16384 ≤ 0x14000 ∧ 0x15FFF < t.bs + 24576)
      ∧ (t.be ≤ 0x18000 ∧ 0x1DFFF < t.be + 24576 ∧ isWrite (.write 0xF 0) = true ∧ isWrite rd = false)
      ∧ (0 = (0x18000 - t.be) / 6144 ∧ s.cap.table[0].state ≠ .free
        ∧ s.cap.table[0].frames[(0x181FF - t.be) % 6144 / 512]? = some (1, 40)
        ∧ s.cap.table[0].frames.length ≤ (0x18200 - t.be) % 6144 / 512)
      ∧ (1 = (0x19800 - t.be) / 6144 ∧ s.cap.table[1].state = .free)
      ∧ (3 = (0x1DFFF - t.be) / 6144 ∧ s.cap.table[3].frames[(0x1DFFF - t.be) % 6144 / 512]? = some (2, 41))
      ∧ (t.bc ≤ 0x20000 ∧ 0x201FF < t.bc + 512 ∧ 7 = (0x201FF - t.bc) / 64 ∧ 15 = (0x201FF - t.bc) % 64 / 4)
      ∧ (t.bt ≤ 0x20200 ∧ 0x202F7 < t.bt + 248) ∧ (t.bt + 248 ≤ 0x202F8 ∧ 0x202FB < t.bt + 252)
      ∧ (t.bt + 252 ≤ 0x202FC ∧ 0x202FF < t.bt + 256) ∧ (t.br ≤ 0x21000 ∧ 0x22FFF < t.br + 128 * t.r)
      ∧ (0x0FFFF < t.bs ∧ 0x0FFFF < t.be ∧ 0x0FFFF < t.bc ∧ 0x0FFFF < t.bt ∧ 0x0FFFF < t.br)
      ∧ (t.bs + 24576 ≤ 0x23000 ∧ t.be + 24576 ≤ 0x23000 ∧ t.bc + 512 ≤ 0x23000 ∧ t.bt + 256 ≤ 0x23000
        ∧ t.br + 128 * t.r ≤ 0x23000) := by decide +kernel

theorem met_GrantedAccessesComplete :
    let r := holding base .read 0xFFFFFF .other false
    let w := holding base (.write 0x9 7) 0 .other false
    let n (u : NoticeUnit) : State := holding { base with notice := u } (.write 0xF 0x00070008) 0x202F8 .noticeWord true
    let c (u : ReportWriter) (w : Word) : State := holding { base with report := u } (.write 0xF w) 0x202FC .consumerWord true
    (r.path.port = some .busSide ∧ r.path.bus = some ⟨.read, 0xFFFFFF, .other, false⟩)
      ∧ (w.path.port = some .busSide ∧ w.path.bus = some ⟨.write 0x9 7, 0, .other, false⟩)
      ∧ Memory.wf [(3, 0x80)] = true
      ∧ (State.Snoops (n {}) .noticeWord 0x202F8 0xF 0x00070008 ∧ (n {}).notice.clearMode = .clearOnOne)
      ∧ (State.Snoops (n { clearMode := .replace }) .noticeWord 0x202F8 0xF 0x00070008
        ∧ (8 : Half) &&& ~~~(NoticeUnit.pending {}) &&& (NoticeUnit.sources {}) ≠ 0 ∧ (NoticeUnit.latch {}) = false)
      ∧ (State.Snoops (n { clearMode := .replace, latch := true }) .noticeWord 0x202F8 0xF 0x00070008)
      ∧ (State.Snoops (c {} 64) .consumerWord 0x202FC 0xF 64 ∧ base.path.windows = some {} ∧ (WindowTable.r {}) = 64)
      ∧ (State.Snoops (c {} 63) .consumerWord 0x202FC 0xF 63 ∧ (c {} 63).report.placing = none)
      ∧ (State.Snoops (c { placing := some ⟨.event, 0x21000, [0], .nothing⟩ } 63) .consumerWord 0x202FC 0xF 63
        ∧ (c { placing := some ⟨.event, 0x21000, [0], .nothing⟩ } 63).report.placing ≠ none) := by
  unfold State.Snoops
  decide

/-- The oldest entry of the internal queue has the port. -/
def serving (s : State) (act : ReqAct) : State :=
  { s with iq := [⟨0x20000, act⟩], path := { s.path with port := some .internal } }

/-- LOAD LOCATION TABLE has `n` entries of value `b`. -/
def loadingTable (n : Nat) (b : Byte) : State :=
  serving { base with cmd := { base.cmd with exec := some ⟨2, .loading (List.replicate n b)⟩ }
                      mem := [(0x20000, b), (0x20001, b), (0x20002, b), (0x20003, b)] } .tableRead

theorem met_InternalAccessCompletes :
    ((serving base (.write 1)).path.port = some .internal ∧ (serving base (.write 1)).iq = ⟨0x20000, .write 1⟩ :: [])
      ∧ (serving base (.completion 7 1)).iq = ⟨0x20000, .completion 7 1⟩ :: []
      ∧ ((loadingTable 188 23).cmd.exec = some ⟨2, .loading (List.replicate 188 23)⟩ ∧ 188 + 4 < 196)
      ∧ ((loadingTable 192 23).cmd.exec = some ⟨2, .loading (List.replicate 192 23)⟩ ∧ 196 ≤ 192 + 4
        ∧ ∀ b ∈ List.replicate 192 (23 : Byte), b.toNat ≤ 23 ∨ b.toNat = 31)
      ∧ ((loadingTable 192 24).cmd.exec = some ⟨2, .loading (List.replicate 192 24)⟩
        ∧ ¬ ∀ b ∈ List.replicate 192 (24 : Byte), b.toNat ≤ 23 ∨ b.toNat = 31)
      ∧ (serving base .tableRead).cmd.exec = none := by decide +kernel

theorem met_WaitingRequestsArePlacedInOrder :
    let waits (n : Nat) (u : ReportWriter) : State := { base with iq := entries n, report := u }
    let upd (n : Nat) (ws : List Nat) : State := { base with iq := entries n, status := { update := some (ws ++ [0]) } }
    State.WaitsOrdinary { base with cmd := { base.cmd with waits := [(2, .done), (7, .nvmFault)] } }
      ∧ (base.cmd.exec = none ∧ base.WaitsOrdinary)
      ∧ ((executing .reloading).cmd.exec = some ⟨3, .reloading⟩ ∧ (executing .reloading).WaitsOrdinary)
      ∧ ((waits 63 { placing := some ⟨.cycle, 0x21000, [1, 2], .nothing⟩ }).report.placing = some ⟨.cycle, 0x21000, [1, 2], .nothing⟩
        ∧ 64 - (waits 63 {}).iq.length < 2)
      ∧ ((waits 62 { placing := some ⟨.cycle, 0x21000, [1, 2], .nothing⟩ }).report.placing = some ⟨.cycle, 0x21000, [1, 2], .nothing⟩
        ∧ 2 ≤ 64 - (waits 62 {}).iq.length)
      ∧ ((upd 62 [61]).status.update = some ([61] ++ [0]) ∧ 0 ∉ [61] ∧ [61].length < 64 - (upd 62 [61]).iq.length)
      ∧ ((upd 63 [61]).status.update = some ([61] ++ [0]) ∧ 64 - (upd 63 [61]).iq.length ≤ [61].length) := by
  unfold State.WaitsOrdinary
  decide +kernel

/-! ## Premises met: sample frames -/

/-- A snooped sample write of `w` on `lanes` to word `i` of logical slot `l` under the identity map. -/
def writing (s : State) (l : Fin 32) (i : Fin 128) (lanes : Lanes) (w : Word) : State :=
  holding s (.write lanes w) (0x10000 + 512 * l.val + 4 * i.val) (.sample l (Fin.castLE (by decide) l) i) true

/-- An assembly of sequence 65535 in logical slot 31, every word of which is marked `marked`. -/
def assembling (marked torn : Bool) : Assembly :=
  { slot := 31, phys := 31, seq := 65535, valid := 0xF, overload := false, buf := Vector.replicate 126 0,
    written := Vector.replicate 126 marked, torn := torn, tag := ⟨0, {}⟩ }

/-- The state with that assembly in progress. -/
def assemblingState (marked torn : Bool) : State :=
  { base with asm := { base.asm with assembly := some (assembling marked torn), tags := base.asm.tags.set 31 .assembling } }

/-- Cycle 7 has been truncated at the present instant. -/
def truncating : State :=
  { base with gate := { base.gate with cycle := 8, gates := { a := true }, truncated := some (7, 0) } }

theorem met_HeaderWriteStartsAssembly :
    (State.SnoopsSample (writing base 0 0 0xF 0x000F0001) 0 0 0 0x10000 0xF 0x000F0001 ∧ base.asm.assembly = none)
      ∧ (State.SnoopsSample (writing (assemblingState false false) 31 0 0xF 1) 31 31 0 (0x10000 + 512 * 31) 0xF 1
        ∧ (assemblingState false false).asm.assembly = some (assembling false false))
      ∧ (Gates.blank {} = false ∧ Gates.c { c := true } = true) ∧ ¬ (Gates.blank { blank := true } = false)
      ∧ (truncating.gate.truncated = some (7, truncating.clock) ∧ truncating.frameTag true = ⟨7, closedGates⟩)
      ∧ (base.gate.truncated ≠ some (7, base.clock) ∧ truncating.frameTag false = ⟨8, { a := true }⟩) := by
  unfold State.SnoopsSample State.Snoops
  refine ⟨⟨⟨⟨rfl, rfl⟩, fun f h => by cases h⟩, rfl⟩, ⟨⟨⟨rfl, rfl⟩, fun f h => by cases h⟩, rfl⟩, by decide, by decide,
    by decide, by decide⟩

theorem met_DataPartialAndStrayWrites :
    (State.SnoopsSample (writing (assemblingState false false) 31 1 0xF 9) 31 31 1 (0x10000 + 512 * 31 + 4) 0xF 9
        ∧ ((1 : Fin 128).val = (0 : Fin 126).val + 1))
      ∧ (State.SnoopsSample (writing (assemblingState false false) 31 126 0xF 9) 31 31 126 (0x10000 + 512 * 31 + 504) 0xF 9
        ∧ ((126 : Fin 128).val = (125 : Fin 126).val + 1))
      ∧ (State.SnoopsSample (writing (assemblingState false false) 31 127 0x7 9) 31 31 127 (0x10000 + 512 * 31 + 508) 0x7 9
        ∧ (assembling false false).slot = 31 ∧ (0x7 : Lanes) ≠ 0xF)
      ∧ (State.SnoopsSample (writing (assemblingState false false) 0 0 0xE 9) 0 0 0 0x10000 0xE 9 ∧ (0xE : Lanes) ≠ 0xF
        ∧ (assembling false false).slot ≠ 0 ∧ ∀ r, base.gate.state ≠ .inCycle r)
      ∧ (State.SnoopsSample (writing { base with gate := { base.gate with state := .inCycle ⟨0, 0, 0, ⟨1, false, false, none, none⟩⟩ } }
            0 1 0xF 9) 0 0 1 0x10004 0xF 9
        ∧ base.asm.assembly = none ∧ (1 : Fin 128) ≠ 0)
      ∧ (let s : State := { writing base 0 0 0xF 1 with cap := { base.cap with post := some ⟨3, 3, 7⟩ } }
         s.Snoops (.sample 0 0 0) 0x10000 0xF 1 ∧ s.cap.post = some ⟨3, 3, 7⟩ ∧ (3 : Fin 48) ≠ 0) := by
  unfold State.SnoopsSample State.Snoops
  refine ⟨⟨⟨⟨rfl, rfl⟩, fun f h => by cases h⟩, rfl⟩, ⟨⟨⟨rfl, rfl⟩, fun f h => by cases h⟩, rfl⟩,
    ⟨⟨⟨rfl, rfl⟩, fun f h => by cases h⟩, rfl, by decide⟩,
    ⟨⟨⟨rfl, rfl⟩, fun f h => by cases h⟩, by decide, by decide, fun r h => by cases h⟩,
    ⟨⟨⟨rfl, rfl⟩, fun f h => by cases h⟩, rfl, by decide⟩, ⟨rfl, rfl⟩, rfl, by decide⟩

/-- The complete frame's trailer while capture 2 is OPEN. -/
def openTrailer : State :=
  writing { assemblingState true false with cap := { base.cap with
    table := base.cap.table.set 2 { state := .opened, remaining := 2 } } } 31 127 0xF 0x0000FFFF

/-- While a capture is OPEN the frame is frozen at once or later, as the operand says. -/
theorem test_trailer_freezes :
    (after (exec (.sampleWrite ⟨false, false⟩) openTrailer)).cap.table[2].frames = [(65535, 31)]
      ∧ (after (exec (.sampleWrite ⟨true, false⟩) openTrailer)).cap.post = some ⟨31, 31, 65535⟩ := by decide +kernel

theorem met_TrailerClosesAssembly :
    (State.SnoopsSample (writing (assemblingState true false) 31 127 0xF 0x0000FFFF) 31 31 127 (0x10000 + 512 * 31 + 508) 0xF 0x0000FFFF
        ∧ (∀ c : Fin 4, base.cap.table[c].state ≠ .opened)
        ∧ fieldOf 0x0000FFFF 0 16 = (assembling true false).seq.toNat
        ∧ fieldOf 0x0000FFFF 16 16 = 65535 - (assembling true false).seq.toNat ∧ (assembling true false).torn = false)
      ∧ (∀ j : Fin 126, (assembling true false).written[j] = true) ∧ ¬ ((assembling true true).torn = false)
      ∧ (State.SnoopsSample openTrailer 31 31 127 (0x10000 + 512 * 31 + 508) 0xF 0x0000FFFF
        ∧ openTrailer.cap.table[2].state = .opened) := by
  unfold State.SnoopsSample State.Snoops
  refine ⟨⟨⟨⟨rfl, rfl⟩, fun f h => by cases h⟩, by decide, by decide, by decide, by decide⟩, ?_, by decide,
    ⟨⟨rfl, rfl⟩, fun f h => by cases h⟩, by decide⟩
  intro j
  simp [assembling]

/-- A queued frame of cycle `n`. -/
def frame (n : Word) (missing : Nat) (overload : Bool) : QFrame :=
  { seq := 7, valid := 0xF, overload := overload, tag := ⟨n, { a := true }⟩, missing := missing, data := Vector.replicate 126 0 }

/-- A cycle's summary with its end. -/
def summaryOf (n : Word) : CycleSummary := ⟨⟨n, false, false, none, none⟩, .endStep, 10⟩

theorem met_SequenceCheckClassifiesFrames :
    let d (s last : Half) : Nat := (s.toNat + 65536 - last.toNat) % 65536
    let framesIn (es : List AQEntry) : Nat := (es.filterMap fun e => match e with
      | .frame f => some f
      | .marker _ => none).length
    let two : List AQEntry := [.frame (frame 1 0 false), .marker (summaryOf 1), .frame (frame 2 0 false)]
    base.asm.lastAccepted = none ∧ framesIn two < 3 ∧ 3 ≤ framesIn (two ++ [.frame (frame 2 0 false)])
      ∧ d 0 65535 = 1 ∧ d 5 3 = 2 ∧ d 32771 3 = 32768 ∧ d 3 3 = 0 ∧ d 32772 3 = 32769 := by decide +kernel

end Sys2Proof.Tests

namespace Sys2Proof.Tests

open Sys2Proof.Machine

/-! ## Premises met: press lines, gates and tacho -/

/-- Five line conditioners with one agreement count, the first with the edge mode BOTH. -/
def lined (agree : Nat) : State :=
  { base with lines := ⟨#[⟨{ mode := .both }, false, agree⟩, ⟨{}, false, agree⟩, ⟨{ polarity := .inverted }, false, agree⟩,
      ⟨{}, true, 0⟩, ⟨{}, false, 0⟩], rfl⟩ }

/-- Line 0 changes at the third agreeing sample, line 2 reads its level and line 3 begins to disagree. -/
theorem met_LineSampleFiltersAndHandsEdges :
    let pins : Vector Bool 5 := ⟨#[true, false, true, false, false], rfl⟩
    let s := lined 2
    let ls := (s.nextSample pins).lines
    let reading (i : Fin 5) : Bool := if s.lines[i].settings.polarity = .inverted then !pins[i] else pins[i]
    let changes (i : Fin 5) : Bool :=
      reading i != s.lines[i].level && decide (s.lines[i].settings.filter ≤ s.lines[i].agree + 1)
    State.reset.path.state = .starting ∧ s.path.state ≠ .starting ∧ s.gate.due = []
      ∧ (∀ i : Fin 5, ls[i].settings = s.lines[i].settings
        ∧ (reading i = s.lines[i].level → ls[i].level = s.lines[i].level ∧ ls[i].agree = 0)
        ∧ (changes i = true → ls[i].level = reading i ∧ ls[i].agree = 0)
        ∧ (reading i ≠ s.lines[i].level → changes i = false →
          ls[i].level = s.lines[i].level ∧ ls[i].agree = s.lines[i].agree + 1))
      ∧ changes 0 = true ∧ reading 1 = s.lines[1].level ∧ reading 3 ≠ s.lines[3].level ∧ changes 3 = false
      ∧ (0 ∈ (s.nextSample pins).gate.due ∧ 4 ∉ (s.nextSample pins).gate.due) := by decide

/-- Cycle 7 waits in its last step for line 4, and edge events of lines 4 and 0 are due. -/
def meeting : State :=
  { base with gate :=
    { state := .inCycle ⟨0, 0, 0, ⟨7, false, false, none, none⟩⟩, cycle := 7, gates := { a := true },
      active := some [⟨.edge, 15, 4, {}, true⟩], due := [0, 4] } }

/-- R44: a header between the edge that ends cycle 7 and the CYC edge that starts cycle 8 takes the old number, all gates
closed. -/
theorem test_header_between_edges :
    let ended := after (exec (.lineSample (Vector.replicate 5 false) ⟨true, [4]⟩) meeting)
    let started := after (exec (.lineSample (Vector.replicate 5 false) ⟨true, [0]⟩) ended)
    ended.frameTag false = ⟨7, closedGates⟩ ∧ ended.gate.state = .idle ∧ ended.clock = meeting.clock
      ∧ started.gate.cycle = 8 ∧ started.gate.due = [] := by decide

/-- A cycle run at step `n`. -/
def runAt (n : Nat) : CycleRun := ⟨n, 0, 0, ⟨7, false, false, none, none⟩⟩

/-- An EDGE step on line 4, a DELAY step and a last step that opens gate A. -/
def program : List GateStep :=
  [⟨.edge, 15, 4, {}, false⟩, ⟨.delay, 0, 0, {}, false⟩, ⟨.delay, 0, 0, { a := true }, true⟩]

/-- IN_CYCLE at step `n` of that program, gate A open. -/
def inCycle (n : Nat) : State :=
  { base with gate :=
    { state := .inCycle (runAt n), cycle := 7, gates := { a := true }, active := some program, staged := some program } }

theorem met_EdgeEventsDriveTheCycle :
    State.reset.gate.state = .stopped ∧ base.gate.state = .idle ∧ (inCycle 0).gate.state = .inCycle (runAt 0)
      ∧ ((inCycle 0).gate.active.getD [])[(runAt 0).step]? = some ⟨.edge, 15, 4, {}, false⟩
      ∧ ((inCycle 1).gate.active.getD [])[(runAt 1).step]? = some ⟨.delay, 0, 0, {}, false⟩
      ∧ ∀ r, base.gate.state ≠ .inCycle r := by
  refine ⟨rfl, rfl, rfl, rfl, rfl, fun r h => by cases h⟩

theorem met_StepWaitsEnd :
    (∀ n < 3, (inCycle n).gate.state = .inCycle (runAt n) ∧ ((inCycle n).gate.active.getD [])[(runAt n).step]? = program[n]?)
      ∧ (program[1]?.map fun st => (st.wait, st.isEnd)) = some (.delay, false)
      ∧ (program[0]?.map fun st => (st.wait, st.isEnd)) = some (.edge, false)
      ∧ ((runAt 1).step + 1 < ((inCycle 1).gate.active.getD []).length)
      ∧ (program[2]?.map fun st => st.isEnd) = some true ∧ ((inCycle 2).gate.active.getD []).length ≤ (runAt 2).step + 1
      ∧ ((inCycle 1).gate.due = [] ∧ ¬ (meeting.gate.due = [] ∨ (runAt 0).stepStart + 10 * 2 ^ 15 ≤ { meeting with clock := 327679 }.clock)
        ∧ (runAt 0).stepStart + 10 * 2 ^ 15 ≤ { meeting with clock := 327680 }.clock) := by
  decide

theorem met_CycleEndIsHandedOver :
    let s : State := { inCycle 0 with aq := { entries := [.frame (frame 6 0 false), .frame (frame 7 0 false), .frame (frame 8 0 false)] } }
    let w : FrameWork := ⟨frame 7 0 false, .sets 0⟩
    let carries (e : AQEntry) : Prop := ∃ f, e = .frame f ∧ f.tag.cycle = 7
    (s.gate.state = .inCycle (runAt 0) ∧ s.aq.entries = [.frame (frame 6 0 false)] ++ .frame (frame 7 0 false) :: [.frame (frame 8 0 false)]
        ∧ (frame 7 0 false).tag.cycle = 7 ∧ ∀ e ∈ [AQEntry.frame (frame 8 0 false)], ¬ carries e)
      ∧ ((∀ e ∈ [AQEntry.frame (frame 8 0 false)], ¬ carries e) ∧ w.frame.tag.cycle = 7)
      ∧ ((∀ e ∈ (inCycle 0).aq.entries, ¬ carries e) ∧ ∀ w, (inCycle 0).aq.work = some w → w.frame.tag.cycle ≠ 7) := by
  have none8 : ∀ e ∈ [AQEntry.frame (frame 8 0 false)], ¬ ∃ f, e = .frame f ∧ f.tag.cycle = 7 := by
    rintro e he ⟨f, rfl, hf⟩
    simp at he
    subst he
    revert hf
    decide
  refine ⟨⟨rfl, rfl, rfl, none8⟩, ⟨none8, rfl⟩, ?_, ?_⟩
  · intro e he
    cases he
  · intro w h
    cases h

/-- The tacho's boundary cases: the count that saturates and the one that does not, and the measuring edge with and without
the reference. -/
theorem met_TachoMeasuresAndStalls :
    let c (n : Nat) (st : Bool) : TachoCell := { count := n, stalled := st, agree := 2 }
    (min 65535 ((c 65525 false).count + 10) = 65535 ∧ (c 65525 false).stalled = false ∧ (c 65525 false).stallHeld = none)
      ∧ min 65535 ((c 65524 false).count + 10) < 65535 ∧ (c 65535 true).stalled = true
      ∧ ({ c 0 false with stallHeld := some true } : TachoCell).stallHeld = some true
      ∧ (true ≠ (c 0 false).level ∧ (c 0 false).settings.filter ≤ (c 0 false).agree + 1
        ∧ ({ c 0 false with agree := 1 } : TachoCell).agree + 1 < (c 0 false).settings.filter)
      ∧ (c 0 false).settings.edge = .rising ∧ (c 0 false).reference = false
      ∧ ({ c 0 false with reference := true } : TachoCell).stalled = false
      ∧ ((inCycle 0).gate.gates.a = true ∧ (inCycle 0).gate.state = .inCycle (runAt 0))
      ∧ (base.gate.gates.a = false ∧ base.gate.gates.b = false ∧ base.gate.gates.c = false)
      ∧ (base.tacho.pmin ≤ 15000 ∧ 14999 < base.tacho.pmin ∧ 25000 ≤ base.tacho.pmax ∧ base.tacho.pmax < 25001)
      ∧ (runAt 0).summary.vibOff = false ∧ ({ (runAt 0).summary with vibOff := true } : RunSummary).vibOff = true := by
  decide

/-! ## Premises met: analysis -/

/-- A hit that began at position 100. -/
def hit : HitRecord := ⟨100, 7, .a, 1, 900, 3, 196, 130, 180, 0, false⟩

/-- A channel in a state, with frame threshold 500. -/
def chanIn (st : ChanState) : Channel := { state := st, env := 435, prev := 300, frameTh := 500, floors := ⟨100, 0, 0, 0⟩ }

theorem met_ChannelStepAndFloorArithmetic :
    let out (d : DetSettings) (ch : Channel) (p : Nat) (x : BitVec 16) : Channel × ChanOut := ch.step d p x 7 .a 1
    let d : DetSettings := { hdt := 8, dMax := 64, lockout := 0 }
    ((out d (chanIn .idle) 5 900).2 = .started ∧ (out d (chanIn .idle) 5 30).2 = .quiet)
      ∧ (out d (chanIn (.active 500 { hit with belowRun := 7 })) 110 0).2 = .due .hitEnd
      ∧ (out d (chanIn (.active 500 { hit with belowRun := 6 })) 162 0).2 = .quiet
      ∧ (out d (chanIn (.active 500 { hit with belowRun := 6 })) 163 0).2 = .due .longHit
      ∧ (out d (chanIn (.holdoff 500 7)) 0 0).2 = .due .holdoffEnd ∧ (out d (chanIn (.holdoff 500 6)) 0 0).2 = .quiet
      ∧ (out d (chanIn (.lockout 1)) 0 0).2 = .due .lockoutEnd ∧ (out d (chanIn (.lockout 2)) 0 0).2 = .quiet
      ∧ ({ chanIn .idle with quiet := true, minEnv := 101 } : Channel).minEnv > (chanIn .idle).floors.get .a
      ∧ ({ chanIn .idle with quiet := true, minEnv := 100 } : Channel).minEnv ≤ (chanIn .idle).floors.get .a
      ∧ (chanIn .idle).quiet = false := by decide

/-- A frame at the head of the Analysis Queue, and channel 1 in a state. -/
def ready (f : QFrame) (st : ChanState) : State :=
  { base with
    aq := { entries := [.frame f] }
    det := { base.det with chans := base.det.chans.set 1 (chanIn st) } }

/-- A queued frame with the gates it was tagged with. -/
def gated (g : Gates) : QFrame := { frame 1 0 false with tag := ⟨1, g⟩ }

/-- R28: LISTEN_A goes before B, B before C, and C before U. -/
theorem test_class_order :
    (gated { a := true, b := true, c := true }).cls = .a ∧ (gated { b := true, c := true }).cls = .b
      ∧ (gated { c := true }).cls = .c ∧ (gated {}).cls = .u ∧ (gated { a := true, blank := true }).skipped = true := by decide

theorem met_FrameTakenBeginsAnalysis :
    (∀ f ∈ [frame 1 0 false, frame 1 0 true, frame 1 1 false],
      (ready f .idle).aq.work = none ∧ (ready f .idle).aq.entries = .frame f :: [] ∧ (ready f .idle).evalOwed = false
        ∧ (ready f .idle).checkBusy = false ∧ (ready f .idle).analysisHeld = false)
      ∧ ((frame 1 0 false).missing = 0 ∧ (frame 1 0 false).overload = false ∧ (frame 1 0 false).tag.gates.blank = false)
      ∧ (frame 1 0 true).overload = true ∧ 0 < (frame 1 1 false).missing
      ∧ (ready (frame 1 0 false) (.active 500 hit)).det.chans[1].state = .active 500 hit
      ∧ (∀ t h, (ready (frame 1 0 false) (.lockout 2)).det.chans[1].state ≠ .active t h)
      ∧ (gated ⟨true, true, true, false⟩).tag.gates.a = true
      ∧ (gated ⟨false, true, true, false⟩).tag.gates.b = true
      ∧ (gated ⟨false, false, true, false⟩).tag.gates.c = true
      ∧ (gated ⟨false, false, false, false⟩).tag.gates.blank = false := by
  refine ⟨by decide +kernel, by decide, by decide, by decide, by decide, fun t h e => (by cases e), by decide, by decide, by decide,
    by decide⟩

/-- A frame under analysis in phase `p`. -/
def analysing (p : Phase) (st : ChanState) : State :=
  { ready (frame 1 0 false) st with aq := { work := some ⟨frame 1 0 false, p⟩ } }

/-- An event with its members and the end of its window. -/
def event (id : Half) (windowEnd : Nat) (ms : List Member) : OpenEvent :=
  ⟨id, 100, windowEnd, true, .a, 1, 7, ms, 0, .stays⟩

/-- A collecting event. -/
def collecting (s : State) (e : OpenEvent) : State := { s with ev := { s.ev with openEvents := [e] } }

/-- Sample sets 0 and 62 hold data, and channel 3 is not valid. -/
def sampled : QFrame :=
  { frame 1 0 false with
    valid := 0x7
    data := ((((Vector.replicate 126 (0 : Word)).set 0 0x22221111).set 1 0x44443333).set 124 0x66665555).set 125 0x88887777 }

/-- R18, R30: the low half of a sample set's first word is channel 0, the high half of its second channel 3, here not valid. -/
theorem test_sample_channels :
    [0, 1, 2, 3].map (sampled.sample 0) = [0x1111, 0x2222, 0x3333, 0]
      ∧ [0, 1, 2, 3].map (sampled.sample 62) = [0x5555, 0x6666, 0x7777, 0] := by decide +kernel

theorem met_SampleSetStepsTheChannels :
    let f := frame 1 0 false
    let out (s : State) (c : Fin 4) : ChanOut := (s.chanStep f 0 c).2
    let s (st : ChanState) := analysing (.sets 0) st
    let loud : State := { s .idle with det := { (s .idle).det with chans := (s .idle).det.chans.set 1 { frameTh := 0 } } }
    (((s .idle).aq.work = some ⟨f, .sets 0⟩ ∧ (s .idle).analysisHeld = false) ∧ (s .idle).checkBusy = false
        ∧ ∀ c, out (s .idle) c = .quiet)
      ∧ ((∀ b : Fin 4, b < 1 → out (s (.lockout 1)) b = .quiet) ∧ out (s (.lockout 1)) 1 = .due .lockoutEnd)
      ∧ (out loud 1 = .started ∧ ∀ b, b ≠ 1 → out loud b = .quiet)
      ∧ ((collecting (s .idle) (event 3 0 [])).ev.collecting? = some (event 3 0 []) ∧ (event 3 0 []).windowEnd ≤ (s .idle).asm.position)
      ∧ (s .idle).ev.collecting? = none ∧ (61 : Nat) < 62
      ∧ (let both : State := { s (.lockout 1) with det := { (s (.lockout 1)).det with
            chans := (s (.lockout 1)).det.chans.set 0 { frameTh := 0 } } }
         both.aq.work = some ⟨f, .sets 0⟩ ∧ out both 0 = .started ∧ out both 1 = .due .lockoutEnd ∧ out both 2 = .quiet)
      ∧ sampled.valid.getLsbD (3 : Fin 4) = false ∧ sampled.valid.getLsbD (0 : Fin 4) = true
      ∧ sampled.valid.getLsbD (2 : Fin 4) = true := by
  decide +kernel

theorem met_ChannelTransitions :
    let s (w : Due) (st : ChanState) := analysing (.due 62 1 w) st
    ((s .hitEnd (.active 500 hit)).Analyses (frame 1 0 false) (.due 62 1 .hitEnd)
        ∧ (s .hitEnd (.active 500 hit)).det.chans[1].state = .active 500 hit)
      ∧ ((s .longHit (.active 500 hit)).Analyses (frame 1 0 false) (.due 62 1 .longHit)
        ∧ (s .longHit (.active 500 hit)).det.chans[1].state = .active 500 hit)
      ∧ (s .holdoffEnd (.holdoff 500 7)).Analyses (frame 1 0 false) (.due 62 1 .holdoffEnd)
      ∧ (s .lockoutEnd (.lockout 1)).Analyses (frame 1 0 false) (.due 62 1 .lockoutEnd)
      ∧ (analysing (.window 62) .idle).Analyses (frame 1 0 false) (.window 62) :=
  ⟨⟨⟨rfl, rfl⟩, rfl⟩, ⟨⟨rfl, rfl⟩, rfl⟩, ⟨rfl, rfl⟩, ⟨rfl, rfl⟩, ⟨rfl, rfl⟩⟩

/-! ## Premises met: events -/

theorem met_HitsAreGroupedIntoEvents :
    let e := event 3 500 [⟨0, 100, .running⟩]
    let shut (n : Nat) : State := { base with ev := { base.ev with openEvents := List.replicate n { e with collecting := false } } }
    let owned : State := { base with ev := { base.ev with assign := base.ev.assign.set 0 (.member 3) } }
    ((collecting base e).ev.openEvents = [] ++ e :: [] ∧ e.collecting = true ∧ (∀ m ∈ e.members, m.ch ≠ 1))
      ∧ (∃ m ∈ e.members, m.ch = 0)
      ∧ ((∀ x ∈ (shut 3).ev.openEvents, x.collecting = false) ∧ (shut 3).ev.openEvents.length < 4)
      ∧ ((∀ x ∈ (shut 4).ev.openEvents, x.collecting = false) ∧ 4 ≤ (shut 4).ev.openEvents.length)
      ∧ owned.ev.assign[0] = .member 3 ∧ ∀ id, base.ev.assign[0] ≠ .member id := by
  refine ⟨by decide, by decide, by decide, by decide, by decide, fun id h => by cases h⟩

theorem met_EventsAreLocatedAndWeighed :
    let m (c : Fin 4) : Member := ⟨c, 100, .running⟩
    ((m 2).ch ≠ (m 1).ch ∧ (m 1).ch < (m 2).ch) ∧ (Cls.a ≠ .u) ∧ (Cls.u = .u) ∧ 0 < 32767
      ∧ (8 ≤ 8 ∧ ¬ 8 ≤ 7) := by decide

/-- The features of the hit. -/
def feats : Features := ⟨100, 130, 31, 900, 3, 180, false, false, false⟩

/-- An event that is due to complete or to be abandoned, with its members. -/
def dueEvent (fate : Fate) (ms : List Member) : OpenEvent := { event 3 500 ms with collecting := false, fate := fate }

/-- One CLOSED member on channel 0. -/
def oneClosed : List Member := [⟨0, 100, .closed feats⟩]

/-- That event on the open list, with the weight W_CAP from which an event triggers. -/
def completingEvent (e : OpenEvent) (wCap : Nat) : State :=
  { base with
    ev := { base.ev with openEvents := [e], settings := { base.ev.settings with wCap := wCap } }
    gate := { base.gate with cycle := 1 }
    zone := { base.zone with started := true }
    asm := { base.asm with accounts := [{ cycle := 1 }] } }

/-- An event with one CLOSED member is due to complete. -/
def completing (wCap : Nat) : State := completingEvent (dueEvent .completes oneClosed) wCap

theorem met_EventCompletesInOrder :
    ∀ e ∈ [dueEvent .completes oneClosed, dueEvent .completes [⟨0, 100, .abandoned⟩], dueEvent .abandons [⟨0, 100, .running⟩],
        dueEvent .abandons (oneClosed ++ [⟨1, 120, .running⟩]), { dueEvent .completes oneClosed with cycle := 0 },
        { dueEvent .completes oneClosed with cycle := 9 }],
      ∀ wCap ∈ [0, 1],
        (completingEvent e wCap).ev.completion = none ∧ (completingEvent e wCap).evalBusy = false
        ∧ (completingEvent e wCap).outputWaits = false ∧ (completingEvent e wCap).ev.profile = some defaultProfile
        ∧ (completingEvent e wCap).ev.nextDue = some e := by decide +kernel

/-- With W_CAP 1 the event of weight 4 + 2 x (9 - 8) = 6 triggers; with W_CAP 0 in a CLEAR zone it does not. -/
theorem met_EventCompletesInOrder_cases :
    ((after (exec .eventComplete (completing 1))).ev.completion.map (·.stage))
        = some (.trigger ⟨3, 0, 1, 7, 2, 2⟩)
      ∧ ((after (exec .eventComplete (completing 0))).ev.completion.map fun c => (c.stage, c.weight)) = some (.record, 6) := by
  decide +kernel

/-- An abandoned event keeps its CLOSED member and has weight 0; with no CLOSED member a free value is drawn. -/
theorem test_abandoned_event :
    ((after (exec .eventComplete (completingEvent (dueEvent .abandons (oneClosed ++ [⟨1, 120, .running⟩])) 1))).ev.completion.map
        fun c => (c.event.members, c.weight, c.abandoned)) = some (oneClosed, 0, true)
      ∧ (after (exec .eventComplete (completingEvent (dueEvent .abandons [⟨0, 100, .running⟩]) 1))).free = 1 := by decide +kernel

theorem met_CompletionChecksPickEvents :
    let b (es : List OpenEvent) : EventBuilder := { base.ev with openEvents := es }
    let still (ms : List Member) : OpenEvent := dueEvent .stays ms
    let s (es : List OpenEvent) (p : Phase) : State := { analysing p .idle with ev := b es }
    let loud : QFrame := frame 1 0 true
    let changing (es : List OpenEvent) : State :=
      { base with ev := b es, cmd := { base.cmd with exec := some ⟨0, .mould defaultProfile 9 .events⟩ } }
    ((b [event 3 500 []]).collecting? = some (event 3 500 []) ∧ 500 < 501)
      ∧ (∀ e ∈ [still oneClosed, event 3 500 []], (b [e]).openEvents = [] ++ e :: [])
      ∧ ((dueEvent .completes []).fate = .completes ∧ (dueEvent .abandons []).fate = .abandons)
      ∧ ((s [still oneClosed] (.sets 62)).aq.work = some ⟨frame 1 0 false, .sets 62⟩ ∧ (s [still oneClosed] (.sets 62)).ev.completion = none
        ∧ (∃ e ∈ (s [still oneClosed] (.sets 62)).ev.check.openEvents, e.fate ≠ .stays)
        ∧ ¬ ∃ e ∈ (s [still [⟨0, 100, .running⟩]] (.sets 62)).ev.check.openEvents, e.fate ≠ .stays)
      ∧ (loud.overload = true ∧ (s [still oneClosed] .gap).ev.openEvents ≠ [] ∧ (s [] .gap).ev.openEvents = [])
      ∧ (∀ ph ∈ [Phase.gap, .skip, .check, .sets 0], (s [still oneClosed] ph).aq.work = some ⟨frame 1 0 false, ph⟩
        ∧ (∀ x ∈ (s [still oneClosed] ph).ev.openEvents, x.fate = .stays) ∧ (s [still oneClosed] ph).cmd.exec = none)
      ∧ ((∃ e ∈ (s [dueEvent .completes []] .check).ev.openEvents, e.fate ≠ .stays))
      ∧ ((∀ x ∈ (changing [still []]).ev.openEvents, x.fate = .stays) ∧ (changing [still []]).ev.completion = none
        ∧ (changing [still []]).cmd.exec = some ⟨0, .mould defaultProfile 9 .events⟩)
      ∧ (let f := frame 1 1 false
         (∀ es ∈ [[], [still oneClosed]], { ready f .idle with ev := b es }.aq.entries = [.frame f]
          ∧ { ready f .idle with ev := b es }.analysisHeld = false ∧ { ready f .idle with ev := b es }.checkBusy = false) ∧ 0 < f.missing) := by
  decide +kernel

theorem met_RecordLayouts :
    let c : Completion := ⟨event 3 500 [⟨0, 100, .closed feats⟩, ⟨1, 4195, .closed feats⟩], false, false, true, 31, 63, false, some 3, .record⟩
    let e : Capture := { frames := [(7, 0), (8, 1)] }
    (c.weight ≤ 63 ∧ c.zone ≤ 31 ∧ c.event.secondary ≤ 15
        ∧ feats.peak ≤ 32767 ∧ feats.dur ≤ 4095 ∧ feats.counts ≤ 255 ∧ 4195 - c.event.t1 ≤ 4095 ∧ 0 < feats.peak
        ∧ (eventRecord c).body.length = 9)
      ∧ ({} : Capture).frames = [] ∧ e.frames = (7, 0) :: ([] ++ [(8, 1)])
      ∧ (base.zone.record? 4 = none ∧ base.zone.record? 0 = some {}) := by decide +kernel

/-- Section 11.5: a CAPTURE record's words 2 and 3, and the high hits bits of zone 11 in a MOULD record. -/
theorem test_record_words :
    (captureRecord 2 { triggers := [9], frames := [(7, 0), (8, 1)], missed := 1, zone := 5 }).body.take 2 = [0x00051212, 0x00080007]
      ∧ (State.mouldRecord { base with zone := { base.zone with
          records := base.zone.records.set 3 (some { state := .suspect, score := 1, totalHits := 0x1001 }) } }).body[2]? = some 0x10000
      ∧ (State.mouldRecord { base with zone := { base.zone with
          records := base.zone.records.set 3 (some { state := .suspect, score := 1, totalHits := 0x1001 }) } }).body[9]?
        = some 0x0020000A := by decide +kernel

/-! ## Premises met: zones -/

theorem met_EvidenceReachesTheZone :
    let s := completing 0
    let masked : State := { s with zone := { s.zone with records := s.zone.records.set 0 (some { state := .masked }) } }
    (s.zone.firstCycle ≠ 0 ∧ s.gate.cycle ≠ 0) ∧ s.outgoing 1 = false ∧ s.outgoing 2 = true
      ∧ s.zone.record? 0 = some {} ∧ masked.zone.record? 0 = some { state := .masked } ∧ masked.outgoing 1 = false := by
  decide +kernel

theorem met_ZoneEvaluationArithmetic :
    let p : Policy := {}
    let at' (st : ZoneState) (score streak hits : Nat) : ZoneRecord := ⟨st, score, streak, hits, 0, 0, none, none⟩
    (p.tWatch < p.tSuspect ∧ p.tSuspect < p.tCrack) ∧ (at' .watch 299 3 0).target p = .suspect ∧ (at' .watch 300 3 0).target p = .cracked
      ∧ (at' .watch 300 2 0).target p = .suspect ∧ (at' .clear 119 0 0).target p = .watch ∧ (at' .clear 39 0 0).target p = .clear
      ∧ 0 < (at' .clear 0 255 1).hitsCycle ∧ (at' .clear 3 0 0).hitsCycle = 0
      ∧ ((at' .watch 30 0 0).judged p = .watch ∧ (at' .watch 29 0 0).judged p = .clear)
      ∧ ((at' .suspect 110 0 0).judged p = .suspect ∧ (at' .suspect 109 0 0).judged p = .watch) := by decide

/-- The evaluation of cycle 1 is due at once, or its marker stands at the head. -/
def evaluating (marker : Bool) (hits : Nat) : State :=
  let s := completing 0
  { s with
    ev := { s.ev with openEvents := [] }
    zone := { s.zone with
      records := s.zone.records.set 1 (some { state := .watch, score := 119, hitsCycle := hits, streak := 2 })
      due := if marker then [] else [summaryOf 1] }
    aq := { entries := if marker then [.marker (summaryOf 1)] else [] } }

/-- With no hit no zone changes; with one, zone 1 rises from WATCH to SUSPECT at score 127. -/
theorem met_CycleEndEvaluationTakesZones :
    let due := evaluating false 1
    let mk := evaluating true 0
    let work : EvalWork := ⟨{ cycle := 1 }, summaryOf 1, {}, true, false, 0⟩
    let busy : State := { base with zone := { base.zone with eval := some work, records := base.zone.records.set 1 (some { state := .cracked }) } }
    (busy.zone.eval = some work ∧ work.blind = true ∧ busy.mouldBusy = false ∧ busy.zone.record? 1 = some { state := .cracked })
      ∧ (due.zone.eval = none ∧ due.mouldPast = false ∧ due.zone.due = summaryOf 1 :: [])
      ∧ (mk.zone.eval = none ∧ mk.mouldBusy = false ∧ mk.zone.due = [] ∧ mk.aq.work = none ∧ mk.checkBusy = false
        ∧ mk.aq.entries = .marker (summaryOf 1) :: [])
      ∧ (due.outgoing 1 = false ∧ due.outgoing 9 = true)
      ∧ ((after (exec .cycleEndEvaluation mk)).report.handed.map (·.kind) = [.cycle])
      ∧ ((after (exec .cycleEndEvaluation due)).report.handed.map fun r => (r.kind, r.cont)) = [(.zoneChange, .evalZone 1 true)] := by
  decide +kernel

end Sys2Proof.Tests

namespace Sys2Proof.Tests

open Sys2Proof.Machine

/-! ## Premises met: captures -/

/-- The trigger of section 7.9. -/
def trig : Trigger := ⟨2310, 0, 1, 5120, 2, 2⟩

/-- `s` with a completion whose trigger waits, and the capture table entries in states. -/
def triggered (s : State) (states : List CapState) : State :=
  { s with
    ev := { s.ev with completion := some ⟨event 2310 500 [], false, false, true, 0, 6, false, none, .trigger trig⟩ }
    cap := { s.cap with table := Vector.ofFn fun c => { state := (states[c.val]?).getD .free } } }

theorem met_CaptureTriggerIsTaken :
    let s := triggered base
    let waitsFor (states : List CapState) : Prop :=
      (s states).cap.run = none ∧ (s states).recordOutstanding .capture = false
        ∧ (s states).ev.completion.map (·.stage) = some (.trigger trig)
    (waitsFor [.held, .opened] ∧ (s [.held, .opened]).cap.table[1].state = .opened
        ∧ ∀ b : Fin 4, b < 1 → (s [.held, .opened]).cap.table[b].state ≠ .opened)
      ∧ (waitsFor [.held, .held, .held, .held] ∧ ∀ c : Fin 4, (s [.held, .held, .held, .held]).cap.table[c].state = .held)
      ∧ (waitsFor [.held, .held, .held] ∧ (∀ b : Fin 4, (s [.held, .held, .held]).cap.table[b].state ≠ .opened)
        ∧ (s [.held, .held, .held]).cap.table[3].state = .free
        ∧ ∀ b : Fin 4, b < 3 → (s [.held, .held, .held]).cap.table[b].state ≠ .free)
      ∧ (let run (waits : Option (Fin 32 × Fin 48)) : State :=
           { s [.held] with cap := { (s [.held]).cap with run := some ⟨1, [5121, 5122], 2, waits⟩ } }
         ((run (some (1, 1))).cap.run.map fun r => r.waits.isSome) = some true
          ∧ ((run none).cap.run.map (·.waits)) = some none ∧ (run none).ev.completion.map (·.stage) = some (.trigger trig))
      ∧ { trig with pre := 5 }.pre ≤ 5
      ∧ (wantedFrames { trig with pre := 5 } (some 5130)).length = 12
      ∧ (wantedFrames { trig with pre := 0 } (some 5119)).length = 1 := by
  unfold State.recordOutstanding
  decide +kernel

/-- Both outcomes of a wanted frame taken: the trigger answered with the last one, and the run going on. -/
theorem met_CaptureTriggerIsTaken_answers :
    (State.takeWanted 0 2 [5122] capturing).2 = true ∧ (State.takeWanted 0 2 [5121, 5122] capturing).2 = false
      ∧ (State.takeWanted 0 2 [5120] (writing capturing 0 0 0xF 1)).2 = false := by decide +kernel

theorem met_WantedFramesAreFrozen :
    let holds (s : State) (l : Fin 32) (w : Half) : Prop := s.asm.tags[s.cap.map[l]] = .complete w
    let bare : State := { capturing with cap := { capturing.cap with spare := [] } }
    let twelve : Capture := { frames := List.replicate 12 (1, 40) }
    (∀ l, ¬ holds capturing l 5119)
      ∧ (holds capturing 0 5120 ∧ (∀ k, k < (0 : Fin 32) → ¬ holds capturing k 5120) ∧ capturing.cap.spare.head? = some 32
        ∧ capturing.accessTo capturing.cap.map[(0 : Fin 32)] = false)
      ∧ (holds bare 0 5120 ∧ bare.cap.spare = [])
      ∧ (writing capturing 0 0 0xF 1).accessTo capturing.cap.map[(0 : Fin 32)] = true
      ∧ 12 ≤ twelve.frames.length ∧ capturing.cap.table[0].frames.length < 12
      ∧ (writing capturing 31 0 0xF 1).path.bus.map (·.place) = some (.sample 31 31 0) ∧ capturing.path.bus = none := by decide +kernel

/-- R122: an access to slot 31's frame is one to the physical slot it was translated to, and to no other. -/
theorem test_access_to_slot :
    (writing capturing 31 0 0xF 1).accessTo 31 = true ∧ (writing capturing 31 0 0xF 1).accessTo 30 = false
      ∧ (holding capturing .read 0x020000 .other false).accessTo 31 = false := by decide

/-- A freeze of slot 0's frame 5120 waits, for a post-frame or for a trigger's run. -/
def freezing (post : Bool) (spare : List (Fin 48)) (tag : ContentTag) : State :=
  { capturing with
    asm := { capturing.asm with tags := capturing.asm.tags.set 0 tag }
    cap := { capturing.cap with
      spare := spare
      table := capturing.cap.table.set 0 { state := if post then .opened else .free, remaining := 1 }
      post := if post then some ⟨0, 0, 5120⟩ else none
      run := if post then none else some ⟨0, [5120], 0, some (0, 0)⟩ } }

/-- A MOULD CHANGE whose record has been dealt with, or one that waits further for a post-frame's freeze. -/
def moulding (s : State) (stage : MouldStage) : State :=
  { s with cmd := { s.cmd with exec := some ⟨0, .mould defaultProfile 9 stage⟩ } }

/-- The OPEN capture for which a freeze waits still has one post-frame to come after it. -/
def freezingOn (spare : List (Fin 48)) : State :=
  let s := freezing true spare (.complete 5120)
  { s with cap := { s.cap with table := s.cap.table.set 0 { state := .opened, remaining := 2 } } }

/-- R130: with another post-frame to come the capture stays OPEN after a freeze, and is HELD and TRUNCATED if that freeze took
the last spare slot. -/
theorem test_freeze_goes_on :
    let frozen (spare : List (Fin 48)) := (after (exec .freeze (freezingOn spare))).cap.table[0]
    ((frozen [32, 33]).state = .opened ∧ (frozen [32, 33]).remaining = 1 ∧ (frozen [32, 33]).frames = [(5120, 0)])
      ∧ (frozen [32]).state = .held ∧ (frozen [32]).truncated = true := by decide +kernel

theorem met_WaitingFreezesAreMade :
    let kept (s : State) : Prop := s.asm.tags[(0 : Fin 48)] = .complete 5120 ∧ s.cap.map[(0 : Fin 32)] = 0
    (∀ post ∈ [true, false],
      let s := freezing post [32] (.complete 5120)
      s.accessTo 0 = false ∧ kept s ∧ (writing s 0 0 0xF 1).accessTo 0 = true ∧ ¬ kept (freezing post [32] .disturbed))
      ∧ (freezing false [] (.complete 5120)).cap.spare = [] ∧ kept (freezing false [] (.complete 5120))
      ∧ (freezing true [32] (.complete 5120)).cap.post = some ⟨0, 0, 5120⟩
      ∧ (freezing false [32] (.complete 5120)).cap.post = none
      ∧ (freezing false [32] (.complete 5120)).cap.run = some ⟨0, 5120 :: [], 0, some (0, 0)⟩
      ∧ (let s (waits : Option (Fin 32 × Fin 48)) : State := { freezing false [32] (.complete 5120) with
           cap := { (freezing false [32] (.complete 5120)).cap with run := some ⟨0, 5120 :: [5121], 0, waits⟩ } }
         (s (some (0, 0))).cap.run = some ⟨0, 5120 :: [5121], 0, some (0, 0)⟩ ∧ (s (some (0, 0))).accessTo 0 = false
          ∧ kept (s (some (0, 0))) ∧ ((s none).cap.run.map (·.waits)) = some none)
      ∧ ((freezing true [32] (.complete 5120)).cap.table[0].state = .opened
        ∧ (freezing true [32] (.complete 5120)).cap.table[0].remaining - 1 = 0
        ∧ (freezing true [32, 33] (.complete 5120)).cap.spare = 32 :: [33])
      ∧ (∀ rest ∈ [[], [33]],
        let s := freezingOn (32 :: rest)
        State.OpenCapture s 0 ∧ s.cap.spare = 32 :: rest ∧ 0 < s.cap.table[0].remaining - 1
          ∧ (s.cap.table[0].frames ++ [(5120, 0)]).length < 12)
      ∧ (State.OpenCapture (freezing true [] (.complete 5120)) 0 ∧ (freezing true [] (.complete 5120)).cap.spare = [])
      ∧ (∀ c : Fin 4, base.cap.table[c].state ≠ .opened)
      ∧ ((moulding (freezing true [32] (.complete 5120)) .capture).cmd.exec = some ⟨0, .mould defaultProfile 9 .capture⟩
        ∧ base.cmd.exec = none) := by
  unfold State.OpenCapture
  decide +kernel

/-! ## Premises met: records, status block, notices -/

theorem met_RecordIsWrittenOrSuppressed :
    let r : Record := ⟨.capture, [1], 0, .nothing⟩
    let s := ringAt 4 0
    let tight : State := { ringAt 3 0 with iq := entries 33 }
    (s.path.state ≠ .starting ∧ s.path.windows = some { r := 16 } ∧ s.report.placing = none ∧ s.report.handed = r :: []
        ∧ r.body.length ≤ 30)
      ∧ (4 + 1) % 16 = s.report.c ∧ (3 + 1) % 16 ≠ (ringAt 3 0).report.c ∧ 32 ≤ 64 - (ringAt 3 0).iq.length
      ∧ 64 - tight.iq.length < 32 ∧ (List.replicate 30 (0 : Word)).length ≤ 30 := by decide +kernel

theorem met_StatusWordLayout :
    ({ base with notice := noticing.raise 3 0 } : State).notice.cause = some 3 ∧ base.notice.cause = none := by decide

/-- Section 11.4: words 3, 6 and 10 with no current cause, IDLE at step 0, and the producer index at 3. -/
theorem test_status_words :
    base.statusWord 3 = 0x00100000 ∧ base.statusWord 6 = 1 ∧ (ringAt 3 0).statusWord 10 = 3
      ∧ ({ base with notice := noticing.raise 3 0 } : State).statusWord 3 = 0x02034408 := by decide

theorem met_StatusBlockUpdatePlacesMarkedWords :
    let s (n : Nat) : State := { base with status := { marks := [61] }, iq := entries n }
    let ws := ((List.range 62).drop 1).filter fun w => [61].contains w || w == 17 || w == 18 || w == 19
    ((s 59).status.marks ≠ [] ∧ (s 59).status.update = none ∧ (s 59).path.state ≠ .starting)
      ∧ ws.length < 64 - (s 59).iq.length ∧ 64 - (s 60).iq.length ≤ ws.length := by decide +kernel

theorem met_NoticeFactorsAndStopLatch :
    let n : NoticeUnit := {}
    let one : NoticeUnit := { pending := 0x0408 }
    let can (f : Fin 16) : Prop := one.pending.getLsbD f = true ∧ one.enables.getLsbD f = true ∧ 0 < one.levels[f]
    (n.pending.getLsbD 3 = false ∧ n.sources.getLsbD 3 = true ∧ n.latch = false) ∧ (n.pending.getLsbD 15 = false ∧ n.sources.getLsbD 15 = false)
      ∧ one.pending.getLsbD 3 = true
      ∧ (can 3 ∧ (∀ g, can g → one.levels[g] ≤ one.levels[(3 : Fin 16)])
        ∧ ∀ g, can g → one.levels[g] = one.levels[(3 : Fin 16)] → (3 : Fin 16) ≤ g)
      ∧ ((∀ f : Fin 16, ¬ (n.pending.getLsbD f = true)) ∧ ({ n with mask := 15 } : NoticeUnit).cause = none)
      ∧ ({ n with batchEvent := ⟨3, 0⟩ } : NoticeUnit).batch .event = ⟨3, 0⟩ ∧ n.batch .cycle = ⟨1, 0 + 1⟩
      ∧ ({ n with pulse := some 5 } : NoticeUnit).pulse = some 5
      ∧ (base.gate.due = [] ∧ meeting.gate.due ≠ [] ∧ ¬ (5 + 10 * 2 ^ 0 ≤ { meeting with clock := 14 }.clock)) := by decide +kernel

/-! ## Premises met: start-up -/

/-- The read of the status byte: NVM_CS_N is low for two bytes of 8 bits, 05H first, its bits most significant first. -/
theorem test_status_poll_levels :
    (instrLevels [0x05]).length = 34
      ∧ ((instrLevels [0x05]).take 17).map (fun x => (x.csN, x.dout))
        = [(false, some false), (false, some false), (false, some false), (false, some false), (false, some false), (false, some false),
          (false, some false), (false, some false), (false, some false), (false, some false), (false, some true), (false, some true),
          (false, some false), (false, some false), (false, some true), (false, some true), (false, none)] := by decide

theorem met_ImageReadRetriesOnce :
    State.reset.loader.phase = .held
      ∧ (∃ c k, judgeRead 0x00 (buildImage builtInDefaults) = some (c, k))
      ∧ judgeRead 0xFF [] = none
      ∧ ({ phase := .retryWait 5 } : Loader).phase = .retryWait 5
      ∧ (let s := after (exec .resetRelease State.reset)
         s.loader.phase = .reading false ∧ s.loader.sent ≠ [])
      ∧ ([0x05, 0x03] : List Byte)[0]? = some 0x05 := by
  refine ⟨rfl, ⟨imageConfig (buildImage builtInDefaults), imageClamped (buildImage builtInDefaults), ?_⟩, by decide, rfl, by decide,
    rfl⟩
  unfold judgeRead
  rw [ok_defaults]
  rfl

/-- The defaults are ready, for a part that was RUNNING under a profile, or that was not. -/
def entering (profile : Option Profile) (zones : Nat) : State :=
  { base with
    path := { base.path with state := .reloading }
    loader := { base.loader with phase := .ready { builtInDefaults with profiles := [defaultProfile] } ⟨true, true, false⟩ }
    ev := { base.ev with profile := profile.map fun p => { p with zoneCount := zones } } }

/-- R143, R148: the pending flags and the latch are kept, IMAGE is raised, and the mode LATCH of the defaults stops the pulse
timer. -/
theorem test_runningEntry_keeps_notices :
    let s := entering none 4
    let n := (after (exec .runningEntry { s with notice := { s.notice with
      pending := 0x0005, latch := true, mode := .pulse, pulse := some 3 } })).notice
    n.pending = 0x2005 ∧ n.latch = true ∧ n.pulse = none := by decide +kernel

theorem met_RunningEntryAppliesConfiguration :
    let cfg : ImageConfig := { builtInDefaults with profiles := [defaultProfile] }
    let s := entering (some defaultProfile) 4
    (s.loader.phase = .ready cfg ⟨true, true, false⟩ ∧ s.report.placing = none ∧ s.status.update = none ∧ s.zone.eval = none
        ∧ s.zone.due = [] ∧ s.tacho.stallHeld = none)
      ∧ (s.ev.profile = some { defaultProfile with zoneCount := 4 }
        ∧ (cfg.profiles.find? fun q => q.type == s.zone.mouldType && q.zoneCount == 4) = some defaultProfile)
      ∧ ((∀ q ∈ cfg.profiles, ¬ (q.type = (entering (some defaultProfile) 5).zone.mouldType ∧ q.zoneCount = 5))
        ∧ (∀ cur, (entering none 4).ev.profile ≠ some cur))
      ∧ (if cfg.profiles.any (fun q => q.type == cfg.initialType)
          then cfg.profiles.find? fun q => q.type == cfg.initialType else cfg.profiles.head?) = some defaultProfile := by
  refine ⟨⟨rfl, rfl, rfl, rfl, rfl, rfl⟩, ⟨rfl, by decide +kernel⟩, ⟨by decide +kernel, fun cur h => by cases h⟩, by decide +kernel⟩

/-! ## Premises met: command slots -/

/-- A snooped write of `w` to word `k` of slot 7, which is in state `st` and holds the shadow of `fn` and arguments. -/
def slotWrite (st : SlotState) (fn : Nat) (args : List Nat) (k : Fin 16) (lanes : Lanes) (w : Word) : State :=
  holding { base with cmd := { base.cmd with slots := base.cmd.slots.set 7 ⟨st, shadowOf fn args, false⟩ } }
    (.write lanes w) (0x20000 + 64 * 7 + 4 * k.val) (.command 7 k) true

/-- For each clause: a plain write; a terminator where the function expects it, at the least and the greatest count, and
elsewhere; an unknown function; LOAD GATE PROGRAM with counts 0, 1, 12 and 13; and the other slot states. -/
theorem met_CommandWindowWritesActOnSlots :
    (∀ st k lanes w, State.Snoops (slotWrite st 1 [] k lanes w) (.command 7 k) (0x20000 + 64 * 7 + 4 * k.val) lanes w)
      ∧ (slotWrite .free 1 [] 15 0xF 5).cmd.slots[7].state = .free
      ∧ (terminatorTest (shadowOf 0x01 [0xFFFFFFFF]) 1 = .taken
        ∧ terminatorTest (shadowOf 0x05 [1, 2, 3, 4, 5, 6, 7, 8, 9, 0xFFFFFFFF]) 10 = .taken
        ∧ terminatorTest (shadowOf 0x05 [1, 2, 3, 4, 5, 6, 7, 8, 0xFFFFFFFF]) 9 = .plain)
      ∧ terminatorTest (shadowOf 0x00 [0xFFFFFFFF]) 1 = .unknown ∧ terminatorTest (shadowOf 0x16 [0xFFFFFFFF]) 1 = .unknown
      ∧ (terminatorTest (shadowOf 0x06 [1, 0, 0xFFFFFFFF]) 3 = .taken ∧ terminatorTest (shadowOf 0x06 [12]) 14 = .taken
        ∧ terminatorTest (shadowOf 0x06 [12]) 13 = .plain)
      ∧ (terminatorTest (shadowOf 0x06 [0]) 2 = .taken ∧ terminatorTest (shadowOf 0x06 [13]) 2 = .taken
        ∧ terminatorTest (shadowOf 0x06 [0xFFFFFFFF]) 1 = .plain) := by
  refine ⟨fun st k lanes w => ⟨rfl, rfl⟩, ?_⟩
  decide +kernel

/-- A command of function `fn` with arguments heads the queue of `s` in slot 0. -/
theorem begins_queued (s : State) (fn : Nat) (args : List Nat) (hs : s.path.state = .running) (hf : fn < 256) :
    (queued s fn args).Begins fn 0 [] := by
  refine ⟨hs, rfl, rfl, ?_⟩
  have h : (queued s fn args).cmd.slots[(0 : Fin 8)].shadow[0] = BitVec.ofNat 32 fn := by
    simp [queued, shadowOf]
  rw [h, BitVec.toNat_ofNat]
  omega

/-- Argument `n` of that command. -/
theorem arg_queued (s : State) (fn : Nat) (args : List Nat) (n : Fin 16) :
    (queued s fn args).arg 0 n = (((fn :: args)[n.val]?).getD 0) % 2 ^ 32 := by
  simp [State.arg, queued, shadowOf]

theorem met_NopAndSetLocationEntry :
    (queued base 0x01 []).Begins 0x01 0 []
      ∧ (∀ args ∈ [[16, 0, 0], [12, 1, 0], [15, 0, 24], [0, 16, 31], [15, 0, 31], [11, 15, 23]],
        (queued base 0x09 args).Begins 0x09 0 [])
      ∧ (11 ≤ 15 ∧ 15 ≤ 15 ∧ (12 ≤ 11 → 15 = 0) ∧ (23 ≤ 23 ∨ 23 = 31)) ∧ base.ev.profile = some defaultProfile
      ∧ lookup { defaultProfile with zoneCount := 3 } [⟨3, 0, .running⟩] = some 3 := by
  refine ⟨begins_queued _ _ _ rfl (by decide), fun a _ => begins_queued _ _ _ rfl (by decide), by decide, rfl, ?_⟩
  decide +kernel

theorem met_CompletionWordsArePlaced :
    (∀ x ∈ base.cmd.waits ++ [((7 : Fin 8), Code.discarded), (0, .done)].tail, x.2 ≠ .accepted ∧ x.2 ≠ .discarded)
      ∧ State.reset.path.state ≠ .running ∧ base.cmd.queue = []
      ∧ (queued base 0x01 []).cmd.queue = 0 :: [] ∧ fieldOf (queued base 0x01 []).cmd.slots[0].shadow[0] 0 8 ≠ 0x02
      ∧ { base.cmd with exec := some ⟨0, .completing⟩ }.exec ≠ none := by decide +kernel

/-- The boundary values of each clause: below, at and above each limit; REFUSED_VALUE; REFUSED_ORDER. -/
theorem met_SettingsCommandsClampOrRefuse :
    (∀ args ∈ [[1, 4, 16, 0, 8, 0, 64], [7, 11, 256, 32, 1024, 1024, 4096]], (queued base 0x02 args).Begins 0x02 0 [])
      ∧ (∀ args, (queued base 0x03 args).Begins 0x03 0 [])
      ∧ (2 ≤ (queued base 0x03 [0, 64, 2, 6, 7]).arg 0 3 ∧ (queued base 0x03 [0, 64, 1, 6, 7]).arg 0 3 ≤ 1)
      ∧ (∀ args, (queued base 0x04 args).Begins 0x04 0 []) ∧ (∀ args, (queued base 0x05 args).Begins 0x05 0 [])
      ∧ (2 ≤ (queued base 0x05 [1, 2, 3, 0, 1, 0, 0, 0, 2]).arg 0 9 ∧ (queued base 0x05 [1, 2, 3, 0, 1, 0, 0, 0, 1]).arg 0 9 ≤ 1)
      ∧ (limited 1 1023 0 < limited 1 1023 2 ∧ limited 1 1023 2 < limited 1 1023 1024)
      ∧ ¬ (limited 1 1023 0 < limited 1 1023 1)
      ∧ (∀ args, (queued base 0x08 args).Begins 0x08 0 [])
      ∧ limited 1 65535 65536 ≤ limited 1 65535 65535 ∧ limited 1 65535 1 < limited 1 65535 2 := by
  refine ⟨fun a _ => begins_queued _ _ _ rfl (by decide), fun a => begins_queued _ _ _ rfl (by decide), ?_,
    fun a => begins_queued _ _ _ rfl (by decide), fun a => begins_queued _ _ _ rfl (by decide), ?_, by decide, by decide,
    fun a => begins_queued _ _ _ rfl (by decide), by decide, by decide⟩ <;> simp [arg_queued]

theorem met_ProgramAndLineCommands :
    (∀ args, (queued base 0x06 args).Begins 0x06 0 []) ∧ (∀ args, (queued base 0x07 args).Begins 0x07 0 [])
      ∧ ((queued base 0x06 [0]).arg 0 1 = 0 ∧ (queued base 0x06 [13]).arg 0 1 = 13 ∧ (queued base 0x06 [12]).arg 0 1 = 12)
      ∧ ((List.range 1).map fun j => stepOfWord (((queued base 0x06 [1, 0x1F4F1]).cmd.slots[0].shadow[j + 2]?).getD 0))
        = [⟨.edge, 15, 4, Gates.ofNat 15, true⟩].map some
      ∧ none ∈ ((List.range 1).map fun j => stepOfWord (((queued base 0x06 [1, 2]).cmd.slots[0].shadow[j + 2]?).getD 0))
      ∧ (let s := queued base 0x07 [4, 9, 0x0201]; s.argByte 0 3 0 = 1 ∧ s.argByte 0 3 1 = 2 ∧ s.arg 0 1 = 4)
      ∧ (let s := queued base 0x07 [5, 8, 0x0100]; s.argByte 0 3 0 = 0 ∧ s.argByte 0 3 1 = 1 ∧ s.arg 0 1 = 5)
      ∧ (queued base 0x07 [5, 8, 0x0300]).argByte 0 3 1 = 3
      ∧ (queued base 0x07 [5, 8, 0x0100]).tacho.stallHeld = none
      ∧ ({ base.tacho with stallHeld := some true } : TachoCell).stallHeld ≠ none := by
  refine ⟨fun a => begins_queued _ _ _ rfl (by decide), fun a => begins_queued _ _ _ rfl (by decide), ?_⟩
  decide +kernel

theorem met_CaptureStopAndNoticeCommands :
    let held : State := { base with cap := { base.cap with
      table := (base.cap.table.set 3 { state := .held, frames := [(7, 0)] }).set 1 { state := .opened } } }
    (∀ args, (queued held 0x0F args).Begins 0x0F 0 []) ∧ (queued base 0x10 []).Begins 0x10 0 []
      ∧ (∀ args, (queued base 0x12 args).Begins 0x12 0 []) ∧ (∀ args, (queued base 0x11 args).Begins 0x11 0 [])
      ∧ ((queued held 0x0F [4]).arg 0 1 = 4 ∧ (queued held 0x0F [3]).arg 0 1 = 3
        ∧ held.cap.table[3].state = .held ∧ held.cap.table[1].state = .opened ∧ held.cap.table[0].state = .free)
      ∧ ((queued base 0x12 [8, 0x0F02]).argByte 0 2 0 = 2 ∧ (queued base 0x12 [8, 0x1001]).argByte 0 2 0 = 1
        ∧ (queued base 0x12 [8, 0x1001]).argByte 0 2 1 = 16)
      ∧ ((queued base 0x11 [16, 1, 1]).arg 0 1 = 16 ∧ (queued base 0x11 [15, 0x0701, 1]).arg 0 1 = 15
        ∧ (queued base 0x11 [15, 0x0701, 1]).argByte 0 2 0 = 1 ∧ (queued base 0x11 [4, 0x0802, 256]).argByte 0 2 0 = 2)
      ∧ (0 < base.notice.batchEvent.counter ∧ 0 < base.notice.batchCycle.counter)
      ∧ (let spent : State := { base with notice := { base.notice with batchEvent := ⟨3, 0⟩, batchCycle := ⟨3, 0⟩ } }
         (∀ args, (queued spent 0x11 args).Begins 0x11 0 []) ∧ spent.notice.batchEvent.counter = 0
          ∧ spent.notice.batchCycle.counter = 0) := by
  refine ⟨fun a => begins_queued _ _ _ rfl (by decide), begins_queued _ _ _ rfl (by decide),
    fun a => begins_queued _ _ _ rfl (by decide), fun a => begins_queued _ _ _ rfl (by decide), by decide +kernel,
    by decide +kernel, by decide +kernel, by decide, fun a => begins_queued _ _ _ rfl (by decide), rfl, rfl⟩

theorem met_ZoneCommandsChangeOneZone :
    let zoned : State := { base with zone := { base.zone with records := base.zone.records.set 3 (some { state := .masked }) } }
    let bare : State := { base with zone := { base.zone with records := Vector.replicate 24 none } }
    let waiting : State := { base with cmd := { base.cmd with exec := some ⟨0, .records⟩ } }
    base.zone.eval = none
      ∧ (∀ fn ∈ [0x0C, 0x0D, 0x0E, 0x13], ∀ args, (queued zoned fn args).Begins fn 0 [])
      ∧ (zoned.zone.record? 4 = none ∧ zoned.zone.record? 3 = some { state := .masked } ∧ zoned.zone.record? 0 = some {})
      ∧ (∀ x < 0, zoned.zone.record? x = none)
      ∧ (evaluating false 0).zone.eval = none
      ∧ { base.zone with eval := some ⟨{ cycle := 1 }, summaryOf 1, {}, true, false, 0⟩ }.eval ≠ none
      ∧ ((queued bare 0x13 []).Begins 0x13 0 [] ∧ ∀ y, (queued bare 0x13 []).zone.record? y = none)
      ∧ (waiting.cmd.exec = some ⟨0, .records⟩ ∧ waiting.zone.record? 3 = some {} ∧ ∀ y < 24, 4 ≤ y → waiting.zone.record? y = none) := by
  refine ⟨rfl, fun fn hfn a => begins_queued _ _ _ rfl ?_, by decide, by decide, rfl, by decide,
    ⟨begins_queued _ _ _ rfl (by decide), fun y => ?_⟩, rfl, by decide, by decide⟩
  · revert fn
    decide
  · by_cases h : y < 24
    · simp [ZoneTable.record?, vget, h, queued]
    · simp [ZoneTable.record?, vget, h]

/-- MOULD CHANGE to the default type in slot 0. -/
def changing (s : State) : State := queued s 0x0B [1, 9]

/-- The same with an open event whose window has not passed. -/
def withEvent (s : State) : State := collecting s (event 3 500 [])

/-- A MOULD CHANGE to the default type, with nothing that it must wait for, can act. -/
theorem takesMould (s : State) (h : (changing s).mouldMustWait = false)
    (p : s.loader.stored = [defaultProfile]) (b : (changing s).Begins 0x0B 0 []) : (changing s).TakesMould 0 [] defaultProfile := by
  have a : (changing s).arg 0 1 = 1 := by simp [changing, arg_queued]
  refine ⟨h, b, by rw [a], by rw [a]; decide, ?_⟩
  rw [a]
  show s.loader.stored.find? _ = _
  rw [p]
  rfl

theorem met_MouldChangeActsInOrder :
    ((∀ args, (queued base 0x0B args).Begins 0x0B 0 []) ∧ (changing base).mouldMustWait = false
        ∧ ∀ p ∈ base.loader.stored, p.type ≠ 2)
      ∧ (∀ s ∈ [base, withEvent base], (changing s).TakesMould 0 [] defaultProfile ∧ (changing s).gate.state = .idle)
      ∧ ((changing base).ev.openEvents = [] ∧ (changing (withEvent base)).ev.openEvents ≠ [])
      ∧ (∀ q ∈ [{}, { entries := [.frame (frame 7 0 false)] }, { work := some ⟨frame 7 0 false, .sets 0⟩ }],
        ∀ s ∈ [{ inCycle 0 with aq := q }, withEvent { inCycle 0 with aq := q }],
          (changing s).TakesMould 0 [] defaultProfile ∧ (changing s).gate.state = .inCycle (runAt 0) ∧ (changing s).aq = q)
      ∧ (frame 7 0 false).tag.cycle = (runAt 0).summary.cycle
      ∧ (let s (tag : ContentTag) : State := moulding (freezing true [32, 33] tag) .record
         let kept (s : State) : Prop := s.asm.tags[(0 : Fin 48)] = .complete 5120 ∧ s.cap.map[(0 : Fin 32)] = 0
         (s .empty).cmd.exec = some ⟨0, .mould defaultProfile 9 .record⟩ ∧ (moulding base .record).cap.post = none
          ∧ (s .empty).cap.post = some ⟨0, 0, 5120⟩ ∧ (writing (s .empty) 0 0 0xF 1).accessTo 0 = true
          ∧ (s .empty).accessTo 0 = false ∧ kept (s (.complete 5120)) ∧ ¬ kept (s .disturbed)
          ∧ State.OpenCapture (s .empty) 0 ∧ ∀ c : Fin 4, base.cap.table[c].state ≠ .opened)
      ∧ (let s (es : List OpenEvent) : State := { base with
          cmd := { base.cmd with exec := some ⟨0, .mould defaultProfile 9 .evaluation⟩ }
          ev := { base.ev with openEvents := es }
          zone := { base.zone with eval := some ⟨{ cycle := 1 }, summaryOf 1, {}, true, false, 0⟩ } }
         (s []).cmd.exec = some ⟨0, .mould defaultProfile 9 .evaluation⟩ ∧ (s []).ev.completion = none
          ∧ (s [event 3 500 []]).ev.openEvents ≠ [] ∧ (s []).ev.openEvents = [] ∧ (s []).zone.eval ≠ none)
      ∧ (changing { base with zone := { base.zone with due := [summaryOf 1] } }).mouldMustWait = true := by
  refine ⟨⟨fun a => begins_queued _ _ _ rfl (by decide), rfl, by decide +kernel⟩, ?_, ⟨rfl, by decide +kernel⟩, ?_, rfl,
    (by unfold State.OpenCapture; decide +kernel), by decide +kernel, rfl⟩
  · simp only [List.forall_mem_cons, List.not_mem_nil, false_implies, implies_true, and_true]
    exact ⟨⟨takesMould _ rfl rfl (begins_queued _ _ _ rfl (by decide)), rfl⟩,
      takesMould _ rfl rfl (begins_queued _ _ _ rfl (by decide)), rfl⟩
  · simp only [List.forall_mem_cons, List.not_mem_nil, false_implies, implies_true, and_true]
    refine ⟨⟨⟨?_, rfl, rfl⟩, ?_, rfl, rfl⟩, ⟨⟨?_, rfl, rfl⟩, ?_, rfl, rfl⟩, ⟨?_, rfl, rfl⟩, ?_, rfl, rfl⟩
    all_goals exact takesMould _ rfl rfl (begins_queued _ _ _ rfl (by decide))

/-- Section 6.10: a MOULD CHANGE with an open event, while a frame of the running cycle is under analysis, picks the event and
waits with its record. -/
theorem test_mould_change_waits_for_events :
    let t := after (exec .mouldChange
      (changing (withEvent { inCycle 0 with aq := { work := some ⟨frame 7 0 false, .sets 0⟩ } })))
    t.ev.openEvents.map (·.fate) = [.abandons] ∧ t.report.handed = [] ∧ t.zone.mouldType = base.zone.mouldType
      ∧ t.cmd.exec = some ⟨0, .mould defaultProfile 9 .events⟩ := by decide +kernel

/-- R134: a frame that has completed before the closing is frozen, and the OPEN capture closes with it, TRUNCATED. -/
theorem test_mould_change_closes_with_frame :
    let t := (moulding (freezingOn [32, 33]) .record).runCont .mouldPut
    t.cap.table[0].state = .held ∧ t.cap.table[0].truncated = true ∧ t.cap.table[0].frames = [(5120, 0)] ∧ t.cap.post = none
      ∧ t.cmd.exec = some ⟨0, .completing⟩ := by decide +kernel

/-- R122, R134: while the frame's slot is being accessed the closing waits, and FREEZE then makes both. -/
theorem test_mould_change_waits_for_freeze :
    let t := (moulding (writing (freezingOn [32, 33]) 0 0 0xF 1) .record).runCont .mouldPut
    let u := after (exec .freeze { t with path := base.path })
    t.cap.table[0].state = .opened ∧ t.cmd.exec = some ⟨0, .mould defaultProfile 9 .capture⟩
      ∧ u.cap.table[0].state = .held ∧ u.cap.table[0].truncated = true ∧ u.cap.table[0].frames = [(5120, 0)]
      ∧ u.cmd.exec = some ⟨0, .completing⟩ := by decide +kernel

/-- R153: with the internal queue full RELOAD remains EXECUTING, and acts when there is room for its word. -/
theorem test_reload_waits_for_room :
    let full := after (exec .reload (queued { base with iq := entries 64 } 0x15 []))
    let room := after (exec (.waitingRequestPlaced .commandUnit) { full with iq := entries 63 })
    full.cmd.slots[0].state = .executing ∧ full.path.state = .running
      ∧ room.cmd.slots[0].state = .done ∧ room.path.state = .reloading := by decide +kernel

theorem met_ReloadEntersReloading :
    let s : State := { inCycle 0 with
      cmd := { slots := (base.cmd.slots.set 7 ⟨.pending, shadowOf 0x15 [], false⟩).set 2 ⟨.pending, shadowOf 1 [], true⟩
               queue := [7, 2] }
      iq := entries 62 }
    let waiting (s : State) : State := { s with cmd := { s.cmd with queue := [2], exec := some ⟨7, .reloading⟩ } }
    s.Begins 0x15 7 [2] ∧ s.evalOwed = false ∧ s.checkBusy = false ∧ s.cmd.waits = [] ∧ s.iq.length + ([(2 : Fin 8)].length + 1) ≤ 64
      ∧ ([7, 2] : List (Fin 8)).Nodup ∧ s.gate.state = .inCycle (runAt 0)
      ∧ (∀ r, base.gate.state ≠ .inCycle r)
      ∧ (64 < { s with iq := entries 63 }.iq.length + ([(2 : Fin 8)].length + 1) ∧ { s.cmd with waits := [(1, .done)] }.waits ≠ [])
      ∧ { base with zone := { base.zone with due := [summaryOf 1] } }.evalOwed = true
      ∧ { base with ev := { base.ev with openEvents := [dueEvent .completes []] } }.checkBusy = true
      ∧ ((waiting s).cmd.exec = some ⟨7, .reloading⟩ ∧ (waiting s).evalOwed = false ∧ (waiting s).checkBusy = false
        ∧ (waiting s).iq.length + ((waiting s).cmd.queue.length + 1) ≤ 64 ∧ (7 :: (waiting s).cmd.queue).Nodup)
      ∧ 64 < (waiting { s with iq := entries 64 }).iq.length + ((waiting s).cmd.queue.length + 1) := by
  refine ⟨⟨rfl, rfl, rfl, by decide +kernel⟩, rfl, rfl, rfl, by decide +kernel, by decide, rfl, fun r h => (by cases h),
    by decide +kernel, by decide, by decide, ⟨rfl, rfl, rfl, by decide +kernel, by decide⟩, by decide +kernel⟩

theorem met_CommandsThatTakeTime :
    let job (j : Job) : State := { base with cmd := { base.cmd with exec := some ⟨0, j⟩ } }
    (∀ args, (queued base 0x0A args).Begins 0x0A 0 []) ∧ (queued base 0x14 []).Begins 0x14 0 []
      ∧ ((queued base 0x0A [0xFFFF3C]).arg 0 1 = 2 ^ 24 - 196 ∧ (2 ^ 24 - 196) % 4 = 0 ∧ ¬ (2 ^ 24 - 192 + 196 ≤ 2 ^ 24) ∧ 2 % 4 ≠ 0)
      ∧ ((job (.saving [] 30 5)).cmd.exec = some ⟨0, .saving [] 30 5⟩ ∧ (30 : Nat) < 31 ∧ 31 ≤ 31)
      ∧ (meeting.gate.due ≠ [] ∧ { meeting with clock := 2004 }.clock < 5 + 2000 ∧ (job (.saving [] 30 5)).gate.due = [])
      ∧ (base.path.windows = some {} ∧ base.det.pending = none ∧ base.gate.staged = none
        ∧ (inCycle 0).gate.staged = some program ∧ { base.det with pending := some {} }.pending = some {})
      ∧ ((job (.verifying [1])).cmd.exec = some ⟨0, .verifying [1]⟩ ∧ (0x00 : Byte) ≠ 0xFF ∧ ([2] : List Byte) ≠ [1]) := by
  refine ⟨fun a => begins_queued _ _ _ rfl (by decide), begins_queued _ _ _ rfl (by decide), ⟨?_, by decide, by decide, by decide⟩,
    ⟨rfl, by decide, by decide⟩, ⟨by decide, by decide, rfl⟩, ⟨rfl, rfl, rfl, rfl, rfl⟩, rfl, by decide, by decide⟩
  simp [arg_queued]

end Sys2Proof.Tests
end

section
/-! PROOFS. How hits are grouped into events (R82 to R85): what a hit start does in each of its four cases, and what the end of a hit does to the event of which the channel is a member. -/

namespace Sys2Proof.Machine

/-! ## The collecting event -/

theorem modFirst_of_first {α : Type} {p : α → Bool} (f : α → α) {x : α} (post : List α) (hx : p x = true) :
    ∀ {pre : List α}, (∀ y ∈ pre, p y = false) → modFirst p f (pre ++ x :: post) = pre ++ f x :: post
  | [], _ => if_pos hx
  | y :: ys, hpre => by
    obtain ⟨hy, hys⟩ := List.forall_mem_cons.mp hpre
    simp [modFirst, hy, modFirst_of_first f post hx hys]

theorem EventBuilder.collecting?_eq_none_iff {b : EventBuilder} :
    b.collecting? = none ↔ ∀ x ∈ b.openEvents, x.collecting = false := by
  simp [EventBuilder.collecting?]

section
variable {b : EventBuilder} {pre post : List OpenEvent} {e : OpenEvent}

theorem EventBuilder.collecting?_of_first (hb : b.openEvents = pre ++ e :: post)
    (hpre : ∀ x ∈ pre, x.collecting = false) (he : e.collecting = true) : b.collecting? = some e :=
  List.find?_eq_some_iff_append.mpr ⟨he, pre, post, hb, fun x hx => by simp [hpre x hx]⟩

theorem EventBuilder.modCollecting_of_first (f : OpenEvent → OpenEvent) (hb : b.openEvents = pre ++ e :: post)
    (hpre : ∀ x ∈ pre, x.collecting = false) (he : e.collecting = true) :
    b.modCollecting f = { b with openEvents := pre ++ f e :: post } := by
  rw [EventBuilder.modCollecting, hb, modFirst_of_first f post he hpre]

end

theorem OpenEvent.hasMember_iff {e : OpenEvent} {c : Fin 4} : e.hasMember c = true ↔ ∃ m ∈ e.members, m.ch = c := by
  simp [OpenEvent.hasMember]

/-! ## A hit start -/

section
variable {s : State} {c : Fin 4} {pre post : List OpenEvent} {e : OpenEvent} (t : Nat) (q : Half) (k : Cls) (n : Word)

/-- R82. -/
theorem State.hitStart_joins (hs : s.ev.openEvents = pre ++ e :: post) (hpre : ∀ x ∈ pre, x.collecting = false)
    (he : e.collecting = true) (hc : ∀ m ∈ e.members, m.ch ≠ c) :
    s.hitStart c t q k n = { s with ev := { s.ev with
      openEvents := pre ++ { e with members := e.members ++ [⟨c, t, .running⟩] } :: post
      assign := s.ev.assign.set c (.member e.id) } } := by
  have hmem : ¬ e.hasMember c = true := fun h => by
    obtain ⟨m, hm, hmc⟩ := OpenEvent.hasMember_iff.mp h
    exact hc m hm hmc
  simp only [State.hitStart, EventBuilder.collecting?_of_first hs hpre he, if_neg hmem,
    EventBuilder.modCollecting_of_first _ hs hpre he, EventBuilder.setAssign]

/-- R83. -/
theorem State.hitStart_counts_secondary (hs : s.ev.openEvents = pre ++ e :: post) (hpre : ∀ x ∈ pre, x.collecting = false)
    (he : e.collecting = true) (hc : ∃ m ∈ e.members, m.ch = c) :
    s.hitStart c t q k n = { s with ev := { s.ev with
      openEvents := pre ++ { e with secondary := min 15 (e.secondary + 1) } :: post
      assign := s.ev.assign.set c (.secondary e.id) } } := by
  simp only [State.hitStart, EventBuilder.collecting?_of_first hs hpre he, if_pos (OpenEvent.hasMember_iff.mpr hc),
    EventBuilder.modCollecting_of_first _ hs hpre he, EventBuilder.setAssign, satInc]

/-- R84 while fewer than 4 events are open. -/
theorem State.hitStart_opens (hs : ∀ x ∈ s.ev.openEvents, x.collecting = false) (hlen : s.ev.openEvents.length < 4) :
    s.hitStart c t q k n = { s with ev := { s.ev with
      openEvents := s.ev.openEvents ++ [newEvent s.ev.nextId s.ev.settings.w c t q k n]
      nextId := s.ev.nextId + 1
      assign := s.ev.assign.set c (.member s.ev.nextId) } } := by
  have hroom : s.ev.openEvents.length < openMax := hlen
  simp only [State.hitStart, EventBuilder.collecting?_eq_none_iff.mpr hs, if_pos hroom, EventBuilder.setAssign, newEvent]

/-- R84 with 4 events open: the hit belongs to no event, and the account of its cycle counts it if it is open. -/
theorem State.hitStart_orphan (hs : ∀ x ∈ s.ev.openEvents, x.collecting = false) (hlen : 4 ≤ s.ev.openEvents.length) :
    s.hitStart c t q k n = { s with
      ev := { s.ev with assign := s.ev.assign.set c .orphan }
      asm := s.asm.modAccount n fun x => { x with orphans := min 65535 (x.orphans + 1) } } := by
  have hfull : ¬ s.ev.openEvents.length < openMax := Nat.not_lt.mpr hlen
  simp only [State.hitStart, EventBuilder.collecting?_eq_none_iff.mpr hs, if_neg hfull, EventBuilder.setAssign,
    satInc, accountTop]

end

/-! ## The end of a hit -/

section
variable {s : State} {c : Fin 4} (st : MemberState)

/-- R85 for a MEMBER. -/
theorem State.endMember_of_member {id : Half} (hc : s.ev.assign[c] = .member id) :
    s.endMember c st = { s with ev := { s.ev with
      openEvents := s.ev.openEvents.map fun e => if e.id = id then e.setMember c st else e
      assign := s.ev.assign.set c .none } } := by
  simp only [State.endMember, hc, EventBuilder.modEvent, EventBuilder.setAssign]

/-- R85 for SECONDARY, ORPHAN and NONE: the end is discarded. -/
theorem State.endMember_of_not_member (hc : ∀ id, s.ev.assign[c] ≠ .member id) :
    s.endMember c st = { s with ev := { s.ev with assign := s.ev.assign.set c .none } } := by
  unfold State.endMember
  split
  case h_1 id hid => exact absurd hid (hc id)
  case h_2 => rfl

end

/-- Settles O34: the four cases of a hit start and the two of a hit's end. -/
theorem hitsAreGroupedIntoEvents : Obligations.HitsAreGroupedIntoEvents := by
  refine ⟨fun s c t q k n => ⟨fun pre e post hs hpre he => ⟨?joins, ?secondary⟩, ?opens, ?orphan⟩,
    fun s c st => ⟨fun id => ?member, ?discarded⟩⟩
  case joins => exact State.hitStart_joins t q k n hs hpre he
  case secondary => exact State.hitStart_counts_secondary t q k n hs hpre he
  case opens => exact State.hitStart_opens t q k n
  case orphan => exact State.hitStart_orphan t q k n
  case member => exact State.endMember_of_member st
  case discarded => exact State.endMember_of_not_member st

end Sys2Proof.Machine
end

section
/-! PROOFS. The arithmetic of the cycle-end evaluation on one zone (R105 to R108): when a cycle is BLIND, the streak and score brought up to date, the target level, and the rise, the rest and the drop of a state. -/

namespace Sys2Proof.Machine

/-! ## BLIND -/

/-- R105: no frame of classes A, B and C was analysed exactly when the sum of the three counts is 0. -/
theorem blindCycle_iff {p : Policy} {a : Account} {m : RunSummary} :
    blindCycle p a m = true ↔ p.blindLimit < a.lostListen ∨ (m.vibOff = true ∧ p.offBlind = true)
      ∨ (m.listenOpened = true ∧ a.analysed.a = 0 ∧ a.analysed.b = 0 ∧ a.analysed.c = 0) := by
  simp [blindCycle, or_assoc, and_assoc]

section
variable {r : ZoneRecord} {p : Policy}

/-! ## Streak and score -/

/-- R106 with a hit, in a cycle BLIND or not. -/
theorem ZoneRecord.updated_of_hit (blind : Bool) (h : 0 < r.hitsCycle) :
    r.updated p blind = { r with
      streak := min 255 (r.streak + 1)
      score := if 2 ≤ min 255 (r.streak + 1) then min 1023 (r.score + p.b) else r.score } :=
  if_pos h

/-- R106 without a hit: the score falls by D, to 0 at the lowest. -/
theorem ZoneRecord.updated_of_quiet (h : r.hitsCycle = 0) :
    r.updated p false = { r with streak := 0, score := if p.d ≤ r.score then r.score - p.d else 0 } := by
  have hscore : r.score - p.d = if p.d ≤ r.score then r.score - p.d else 0 := by
    split
    · rfl
    next hd => exact Nat.sub_eq_zero_of_le (Nat.le_of_not_le hd)
  simp [ZoneRecord.updated, h, ← hscore]

/-- R106 without a hit in a BLIND cycle. -/
theorem ZoneRecord.updated_of_quiet_blind (h : r.hitsCycle = 0) : r.updated p true = r := by
  simp [ZoneRecord.updated, h]

/-! ## Target -/

theorem ZoneRecord.target_of_cracked (h : p.tCrack ≤ r.score ∧ p.n ≤ r.streak) : r.target p = .cracked := by
  simp [ZoneRecord.target, h]

theorem ZoneRecord.target_of_suspect (h : p.tSuspect ≤ r.score) (hn : ¬ (p.tCrack ≤ r.score ∧ p.n ≤ r.streak)) :
    r.target p = .suspect := by
  simp only [ZoneRecord.target, Bool.and_eq_true, decide_eq_true_eq, if_neg hn, if_pos h]

theorem ZoneRecord.target_of_watch (hc : p.tSuspect < p.tCrack) (h : p.tWatch ≤ r.score) (hs : r.score < p.tSuspect) :
    r.target p = .watch := by
  have hcrack : ¬ p.tCrack ≤ r.score := by omega
  simp [ZoneRecord.target, hcrack, hs, h]

theorem ZoneRecord.target_of_clear (hs : p.tWatch < p.tSuspect) (hc : p.tSuspect < p.tCrack) (h : r.score < p.tWatch) :
    r.target p = .clear := by
  have hcrack : ¬ p.tCrack ≤ r.score := by omega
  have hsuspect : ¬ p.tSuspect ≤ r.score := by omega
  simp [ZoneRecord.target, hcrack, hsuspect, h]

theorem ZoneRecord.target_ne_masked : r.target p ≠ .masked := by
  unfold ZoneRecord.target
  split_ifs <;> decide

/-! ## The step of the state -/

theorem ZoneRecord.judged_of_cracked (hs : r.state = .cracked) : r.judged p = .cracked := if_pos hs

section
variable {old new : ZoneState}

/-- R107: a target above the state is taken at once. -/
theorem ZoneRecord.judged_of_target_above (hs : r.state = old) (ht : r.target p = new) (hne : old ≠ .cracked)
    (hrank : old.rank < new.rank) : r.judged p = new := by
  simp only [ZoneRecord.judged, hs, ht, if_neg hne, if_pos hrank]

/-- R107: a target equal to the state leaves it. -/
theorem ZoneRecord.judged_of_target_eq (hs : r.state = old) (ht : r.target p = old) : r.judged p = old := by
  simp [ZoneRecord.judged, hs, ht, eq_comm]

/-- R108: a target below the state is taken when the score is below the entry threshold of the state less H. -/
theorem ZoneRecord.judged_of_target_below (hs : r.state = old) (ht : r.target p = new) (hne : old ≠ .cracked)
    (hrank : new.rank < old.rank) : r.judged p = if r.score < p.entry old - p.h then new else old := by
  have habove : ¬ old.rank < new.rank := Nat.lt_asymm hrank
  simp only [ZoneRecord.judged, hs, ht, if_neg hne, if_neg habove, hrank, decide_true, Bool.true_and,
    decide_eq_true_eq]

end

/-- R107 for CLEAR, below which no target lies. -/
theorem ZoneRecord.judged_of_clear (hs : r.state = .clear) : r.judged p = r.target p := by
  cases ht : r.target p with
  | clear => exact judged_of_target_eq hs ht
  | watch | suspect | cracked => exact judged_of_target_above hs ht (by decide) (by decide)
  | masked => exact absurd ht target_ne_masked

end

/-- Settles O40: R105 and R106 as they stand, the target by where the score lies, and for each state the targets above
it, equal to it and below it. -/
theorem zoneEvaluationArithmetic : Obligations.ZoneEvaluationArithmetic := by
  refine fun p a m r blind => ⟨blindCycle_iff, ZoneRecord.updated_of_hit blind, ?quiet, ?quietBlind,
    fun hws hsc => ⟨ZoneRecord.target_of_cracked, ?suspect, ?watch, ZoneRecord.target_of_clear hws hsc⟩,
    ZoneRecord.judged_of_cracked, ZoneRecord.judged_of_clear, fun hs => ⟨?watchRises, ?watchStays, ?watchDrops⟩,
    fun hs => ⟨?suspectRises, ?suspectStays, ?suspectDrops⟩⟩
  case quiet => exact fun h hb => hb ▸ ZoneRecord.updated_of_quiet h
  case quietBlind => exact fun h hb => hb ▸ ZoneRecord.updated_of_quiet_blind h
  case suspect => exact fun ⟨h, hn⟩ => ZoneRecord.target_of_suspect h hn
  case watch => exact fun ⟨h, hlt⟩ => ZoneRecord.target_of_watch hsc h hlt
  case watchRises =>
    rintro (ht | ht) <;> exact ht ▸ ZoneRecord.judged_of_target_above hs ht (by decide) (by decide)
  case watchStays => exact ZoneRecord.judged_of_target_eq hs
  case watchDrops => exact fun ht => ZoneRecord.judged_of_target_below hs ht (by decide) (by decide)
  case suspectRises => exact fun ht => ZoneRecord.judged_of_target_above hs ht (by decide) (by decide)
  case suspectStays => exact ZoneRecord.judged_of_target_eq hs
  case suspectDrops =>
    rintro (ht | ht) <;> exact ht ▸ ZoneRecord.judged_of_target_below hs ht (by decide) (by decide)

end Sys2Proof.Machine
end

section
/-! PROOFS. NOP and SET LOCATION ENTRY (R154): what a command does that begins and completes at once (R152, R153), the check of an entry and its writing into the tables (R91, R93), and the zone of an entry at or above the zone count (R92). -/

namespace Sys2Proof.Machine

/-! ## A command that begins -/

theorem argument_eq_arg (s : State) (i : Fin 8) (n : Fin 16) : argument s.cmd.slots[i].shadow n = s.arg i n := by
  simp [argument, vget, State.arg]

theorem functionCode_eq_mod (s : State) (i : Fin 8) :
    functionCode (vget s.cmd.slots[i].shadow 0 0) = (s.cmd.slots[i].shadow[0]).toNat % 256 := by
  simp [functionCode, bits, vget]

/-- R152: the command at the head of the queue does its work in the state in which its slot is EXECUTING. -/
theorem State.command_of_begins {s : State} {fn : Nat} {i : Fin 8} {rest : List (Fin 8)}
    (work : Vector Word 16 → State → State) (h : s.Begins fn i rest) :
    s.command fn work = work s.cmd.slots[i].shadow (s.begun i rest .completing) := by
  obtain ⟨hrun, hexec, hqueue, hfn⟩ := h
  have hcode : functionCode (vget s.cmd.slots[i].shadow 0 0) = fn := (functionCode_eq_mod s i).trans hfn
  simp only [State.command, hrun, hexec, hqueue, if_pos hcode]
  rfl

theorem State.complete_begun (s : State) (i : Fin 8) (rest : List (Fin 8)) (code : Code) :
    (s.begun i rest .completing).complete code = s.answered i rest code := rfl

theorem State.applyArgs_error {α : Type} (s : State) (code : Code) (apply : State → α → State) :
    s.applyArgs (.error code) apply = s.complete code := rfl

theorem State.applyArgs_ok {α : Type} (s : State) (v : α) (clamped : Bool) (apply : State → α → State) :
    s.applyArgs (.ok (v, clamped)) apply = (apply s v).complete (doneCode clamped) := rfl

theorem exec_nop_of_begins {s : State} {i : Fin 8} {rest : List (Fin 8)} (h : s.Begins 0x01 i rest) :
    exec .nop s = .next (s.settle (s.answered i rest .done)) :=
  congrArg s.settled (State.command_of_begins _ h)

/-! ## The check of an entry -/

/-- A row, a bucket and a zone that SET LOCATION ENTRY accepts (R154). -/
def EntryAccepted (row bucket zone : Nat) : Prop :=
  row ≤ 15 ∧ bucket ≤ 15 ∧ (12 ≤ row → bucket = 0) ∧ (zone ≤ 23 ∨ zone = 31)

theorem not_entryAccepted_iff {row bucket zone : Nat} :
    (15 < row || 15 < bucket || (12 ≤ row && bucket != 0) || !entryOk zone) = true ↔ ¬ EntryAccepted row bucket zone := by
  simp [EntryAccepted, entryOk]
  omega

theorem entryIndex_eq (row bucket : Nat) :
    entryIndex row bucket = if row < 12 then 16 * row + bucket else 180 + row := by
  unfold entryIndex
  split <;> omega

section
variable {s : State} {i : Fin 8}

theorem entryArgs_of_not_accepted (h : ¬ EntryAccepted (s.arg i 1) (s.arg i 2) (s.arg i 3)) :
    entryArgs s.cmd.slots[i].shadow = .error .refusedValue := by
  simp only [← argument_eq_arg, ← not_entryAccepted_iff] at h
  exact if_pos h

theorem entryArgs_of_accepted (h : EntryAccepted (s.arg i 1) (s.arg i 2) (s.arg i 3)) :
    entryArgs s.cmd.slots[i].shadow
      = .ok (if s.arg i 1 < 12 then 16 * s.arg i 1 + s.arg i 2 else 180 + s.arg i 1, BitVec.ofNat 8 (s.arg i 3)) := by
  rw [← entryIndex_eq]
  simp only [← argument_eq_arg] at h ⊢
  exact if_neg (mt not_entryAccepted_iff.mp (not_not_intro h))

end

/-! ## The writing of an entry -/

theorem vmod_const {α : Type} {n : Nat} (v : Vector α n) (k : Nat) (x : α) :
    vmod v k (fun _ => x) = v.setIfInBounds k x := by
  unfold vmod
  split
  case isTrue hk => simp [Vector.setIfInBounds, Vector.set, Array.setIfInBounds, hk]
  case isFalse hk => simp [Vector.setIfInBounds, Array.setIfInBounds, hk]

/-- The tables are no part of the Command Unit: that a command begins leaves their change as it is. -/
theorem State.modTable_begun (s : State) (i : Fin 8) (rest : List (Fin 8)) (job : Job)
    (f : Vector Byte 196 → Vector Byte 196) :
    (s.begun i rest job).modTable f = (s.modTable f).begun i rest job := by
  have hev : (s.begun i rest job).ev = s.ev := rfl
  cases hp : s.ev.profile with
  | none => simp only [State.modTable, hev, hp]
  | some p =>
    simp only [State.modTable, hev, hp]
    rfl

theorem State.modTable_of_profile {s : State} {p : Profile} (hp : s.ev.profile = some p)
    (f : Vector Byte 196 → Vector Byte 196) :
    s.modTable f = { s with
      ev := { s.ev with profile := some { p with table := f p.table } }
      loader := { s.loader with
        stored := s.loader.stored.map fun q => if q.type = p.type then { q with table := f q.table } else q } } := by
  simp only [State.modTable, hp]

section
variable {s : State} {i : Fin 8} {rest : List (Fin 8)}

/-- The work of SET LOCATION ENTRY on its checked arguments. -/
theorem exec_setLocationEntry_of_begins (h : s.Begins 0x09 i rest) :
    exec .setLocationEntry s = .next (s.settle ((s.begun i rest .completing).applyArgs
      ((entryArgs s.cmd.slots[i].shadow).map fun e => (e, false))
      fun y e => y.modTable fun t => t.setIfInBounds e.1 e.2)) := by
  simp only [← vmod_const]
  exact congrArg s.settled (State.command_of_begins _ h)

theorem exec_setLocationEntry_of_not_accepted (h : s.Begins 0x09 i rest)
    (hok : ¬ EntryAccepted (s.arg i 1) (s.arg i 2) (s.arg i 3)) :
    exec .setLocationEntry s = .next (s.settle (s.answered i rest .refusedValue)) := by
  rw [exec_setLocationEntry_of_begins h, entryArgs_of_not_accepted hok, Except.map, State.applyArgs_error,
    State.complete_begun]

theorem exec_setLocationEntry_of_accepted (h : s.Begins 0x09 i rest)
    (hok : EntryAccepted (s.arg i 1) (s.arg i 2) (s.arg i 3)) :
    exec .setLocationEntry s = .next (s.settle (State.answered (s.modTable fun t =>
      t.setIfInBounds (if s.arg i 1 < 12 then 16 * s.arg i 1 + s.arg i 2 else 180 + s.arg i 1)
        (BitVec.ofNat 8 (s.arg i 3))) i rest .done)) := by
  rw [exec_setLocationEntry_of_begins h, entryArgs_of_accepted hok, Except.map, State.applyArgs_ok,
    State.modTable_begun, State.complete_begun]
  rfl

end

/-! ## The use of an entry -/

/-- R92: a zone at or above the zone count is UNLOCATED. -/
theorem locate_of_zoneCount_le {p : Profile} {ms : List Member} {v : Nat} (hv : lookup p ms = some v)
    (hle : p.zoneCount ≤ v) : locate p ms = none := by
  simp only [locate, hv, Option.bind_some, if_neg (Nat.not_lt.mpr hle)]

/-- Settles O52: NOP, SET LOCATION ENTRY refused and accepted, and the zone that reads as unlocated. -/
theorem nopAndSetLocationEntry : Obligations.NopAndSetLocationEntry := by
  refine ⟨?nop, fun s i rest h => ⟨?refused, fun p hok hp => ?accepted⟩, ?unlocated⟩
  case nop => exact fun s i rest => exec_nop_of_begins
  case refused => exact exec_setLocationEntry_of_not_accepted h
  case accepted => rw [exec_setLocationEntry_of_accepted h hok, State.modTable_of_profile hp]
  case unlocated => exact fun p ms v => locate_of_zoneCount_le

end Sys2Proof.Machine
end

section
/-! PROOFS. What a command can do, said once: `Does c s u` lists, row by row, when a command acts on `s` and what it leaves
before the marks and the grant of `State.settle`; `exec_inversion` says that nothing else happens. `footprint` names
the fields that each row can touch, so that an invariant looks at the rows that touch its own fields only. -/

namespace Sys2Proof.Machine

/-! ## What `State.settle` leaves alone -/

section
variable (s t : State)

@[simp] theorem State.settle_pending : (s.settle t).pending = t.pending := State.settle_touches s t .pending (by decide)
@[simp] theorem State.settle_mem : (s.settle t).mem = t.mem := State.settle_touches s t .mem (by decide)
@[simp] theorem State.settle_iq : (s.settle t).iq = t.iq := State.settle_touches s t .iq (by decide)
@[simp] theorem State.settle_loader : (s.settle t).loader = t.loader := State.settle_touches s t .loader (by decide)
@[simp] theorem State.settle_asm : (s.settle t).asm = t.asm := State.settle_touches s t .asm (by decide)
@[simp] theorem State.settle_aq : (s.settle t).aq = t.aq := State.settle_touches s t .aq (by decide)
@[simp] theorem State.settle_lines : (s.settle t).lines = t.lines := State.settle_touches s t .lines (by decide)
@[simp] theorem State.settle_tacho : (s.settle t).tacho = t.tacho := State.settle_touches s t .tacho (by decide)
@[simp] theorem State.settle_gate : (s.settle t).gate = t.gate := State.settle_touches s t .gate (by decide)
@[simp] theorem State.settle_det : (s.settle t).det = t.det := State.settle_touches s t .det (by decide)
@[simp] theorem State.settle_ev : (s.settle t).ev = t.ev := State.settle_touches s t .ev (by decide)
@[simp] theorem State.settle_zone : (s.settle t).zone = t.zone := State.settle_touches s t .zone (by decide)
@[simp] theorem State.settle_cap : (s.settle t).cap = t.cap := State.settle_touches s t .cap (by decide)
@[simp] theorem State.settle_report : (s.settle t).report = t.report := State.settle_touches s t .report (by decide)
@[simp] theorem State.settle_notice : (s.settle t).notice = t.notice := State.settle_touches s t .notice (by decide)
@[simp] theorem State.settle_cmd : (s.settle t).cmd = t.cmd := State.settle_touches s t .cmd (by decide)
@[simp] theorem State.settle_clock : (s.settle t).clock = t.clock := State.settle_touches s t .clock (by decide)
@[simp] theorem State.settle_free : (s.settle t).free = t.free := State.settle_touches s t .free (by decide)

theorem State.arbitrate_path_cases :
    t.arbitrate.path = t.path ∨ ∃ c, t.arbitrate.path = { t.path with port := some c, lastGrant := c } := by
  unfold State.arbitrate
  split
  · exact .inl rfl
  · split
    · exact .inl rfl
    · exact .inr ⟨_, rfl⟩

/-- The Arbiter grants the port, and changes nothing else of the Path Unit. -/
theorem State.settle_path_cases :
    (s.settle t).path = t.path ∨ ∃ c, (s.settle t).path = { t.path with port := some c, lastGrant := c } := by
  have hpath : (t.noteChanges s).path = t.path := State.noteChanges_touches t s .path (by decide)
  have h := State.arbitrate_path_cases (t.noteChanges s)
  rwa [hpath] at h

@[simp] theorem State.settle_path_state : (s.settle t).path.state = t.path.state := by
  obtain h | ⟨c, h⟩ := State.settle_path_cases s t <;> rw [h]

@[simp] theorem State.settle_path_windows : (s.settle t).path.windows = t.path.windows := by
  obtain h | ⟨c, h⟩ := State.settle_path_cases s t <;> rw [h]

@[simp] theorem State.settle_path_bus : (s.settle t).path.bus = t.path.bus := by
  obtain h | ⟨c, h⟩ := State.settle_path_cases s t <;> rw [h]

end

/-! ## What a command does before the marks and the grant -/

/-- Command `c`, given in `s`, leaves `u` before the marks and the grant. A command that is turned away, and one that finds
nothing due, leaves `s`; every other row has its condition and its work. -/
inductive Does : Instr → State → State → Prop
  | idle {c s} : Does c s s
  | resetRelease {s} : s.loader.phase = .held → Does .resetRelease s (s.beginAttempt false)
  | imageRead {s second status bytes} : s.loader.phase = .reading second →
      Does (.imageRead status bytes) s
        { s with loader := { s.loader with phase := afterAttempt second (judgeRead status bytes) s.clock } }
  | imageRetry {s since} : s.loader.phase = .retryWait since →
      Does .imageRetry s ((s.reach (since + retrySpan)).beginAttempt true)
  | runningEntry {s cfg st} : s.runningDue = some (cfg, st) → Does .runningEntry s (s.enterRunning cfg st)
  | busAccess {s addr op} : s.path.bus = none → Does (.busAccess addr op) s (s.receive addr op)
  | busAccessComplete {s b} : s.granted = some b → b.snooped = false → Does .busAccessComplete s (s.performBus b)
  | sampleWrite {s b lanes w l p i moment} : s.grantedSnoop = some (b, lanes, w) → b.place = .sample l p i →
      s.freezeFirst p = false →
      Does (.sampleWrite moment) s
        ((s.performBus b).assembleWrite l p i lanes w moment.freezeLater moment.betweenCycles)
  | commandWindowWrite {s b lanes w i k} : s.grantedSnoop = some (b, lanes, w) → b.place = .command i k →
      Does .commandWindowWrite s ((s.performBus b).slotWrite i k lanes w)
  | noticeControlWord {s b lanes w} : s.grantedSnoop = some (b, lanes, w) → b.place = .noticeWord →
      Does .noticeControlWord s ((s.performBus b).snoopNotice lanes w)
  | consumerIndex {s b lanes w} : s.grantedSnoop = some (b, lanes, w) → b.place = .consumerWord →
      Does .consumerIndex s ((s.performBus b).snoopConsumer lanes w)
  | internalAccess {s r rest} : s.internalHead = some (r, rest) →
      Does (.internalAccessComplete none) s (s.performInternal r rest)
  | internalAccessFirst {s r rest src} : s.internalHead = some (r, rest) →
      Does (.internalAccessComplete (some src)) s ((s.performInternal r rest).pump src)
  | waitingRequestPlaced {s src} : Does (.waitingRequestPlaced src) s (s.pump src)
  | lineSample {s pins order} :
      Does (.lineSample pins order) s (State.takeEdges (if order.more then s else s.nextSample pins) order.lines)
  | tachoSample {s pin} : s.path.state ≠ .starting → s.tacho.stallHeld = none →
      Does (.tachoSample pin) s (s.sampleTacho pin)
  | tachoStall {s reading} : s.tacho.stallHeld = some reading → Does .tachoStall s (s.stall reading)
  | delayEnd {s r st} : s.waiting .delay = some (r, st) →
      Does .delayEnd s ((s.reach (r.stepStart + tickSpan st.k)).stepDone r st (r.stepStart + tickSpan st.k))
  | edgeTimeout {s r st} : s.waiting .edge = some (r, st) →
      Does .edgeTimeout s ((s.reach (r.stepStart + tickSpan st.k)).endCycle .timeout (r.stepStart + tickSpan st.k))
  | frameTaken {s f rest} : s.headFrame = some (f, rest) → Does .frameTaken s (s.takeFrame f rest)
  | sampleSet {s f n} : s.nextSet = some (f, n) → Does .sampleSet s (State.runChannels f n (List.finRange 4) s)
  | hitEnd {s c f n} : s.transition c .hitEnd = some (f, n) → Does (.hitEnd c) s ((s.endHit c).runAfter f n c)
  | longHit {s c f n} : s.transition c .longHit = some (f, n) → Does (.longHit c) s ((s.endLong c).runAfter f n c)
  | holdoffEnd {s c f n} : s.transition c .holdoffEnd = some (f, n) →
      Does (.holdoffEnd c) s ((s.setChanState c (afterHit s.det.settings)).runAfter f n c)
  | lockoutEnd {s c f n} : s.transition c .lockoutEnd = some (f, n) →
      Does (.lockoutEnd c) s ((s.setChanState c .idle).runAfter f n c)
  | windowPassed {s f n} : s.windowNow = some (f, n) →
      Does .windowPassed s (State.afterSet { s with ev := s.ev.stopCollecting } f n)
  | eventComplete {s e p} : s.completionDue = some (e, p) → Does .eventComplete s (s.completeWith p e)
  | captureRun {s r} : s.cap.run = some r → r.waits = none → Does .captureTrigger s (State.endRun r (s.continueRun r))
  | captureTrigger {s t} : s.cap.run = none → s.triggerDue = some t →
      Does .captureTrigger s (State.giveAnswer (s.takeTrigger t))
  | freezePost {s p} : s.cap.post = some p → s.accessTo p.phys = false →
      Does .freeze s (s.resumePost p).mouldAfterFreeze
  | freezeRun {s r l p} : s.cap.post = none → s.cap.run = some r → r.waits = some (l, p) → s.accessTo p = false →
      Does .freeze s (State.endRun r (s.resumeRun r l p))
  | recordTaken {s r rest} : s.recordDue = some (r, rest) → Does .recordTaken s (State.resume (s.takeRecord r rest))
  | statusBlockUpdate {s} : s.updateDue = true → Does .statusBlockUpdate s s.beginUpdate
  | cycleEndEvaluation {s} : Does .cycleEndEvaluation s s.startEvaluation
  | batchCounter {s kind} : Does (.batchCounter kind) s (s.fireBatch kind)
  | stopPulseExpiry {s start} : s.notice.pulse = some start →
      Does .stopPulseExpiry s { s.reach (start + tickSpan s.notice.k) with notice := s.notice.releaseStop }
  | nop {s i rest} : s.Begins 0x01 i rest → Does .nop s (s.answered i rest .done)
  | setDetector {s i rest} : s.Begins 0x02 i rest →
      Does .setDetector s ((s.begun i rest .completing).applyArgs (.ok (detectorArgs s.cmd.slots[i].shadow)) fun y d =>
        { y with det := { y.det with pending := some d } })
  | setEvent {s i rest} : s.Begins 0x03 i rest →
      Does .setEvent s ((s.begun i rest .completing).applyArgs (eventArgs s.eventBase s.cmd.slots[i].shadow) fun y e =>
        { y with ev := { y.ev with pending := some e } })
  | setWeights {s i rest} : s.Begins 0x04 i rest →
      Does .setWeights s ((s.begun i rest .completing).applyArgs (.ok (weightArgs s.eventBase s.cmd.slots[i].shadow))
        fun y e => { y with ev := { y.ev with pending := some e } })
  | setZonePolicy {s i rest} : s.Begins 0x05 i rest →
      Does .setZonePolicy s ((s.begun i rest .completing).applyArgs (policyArgs s.cmd.slots[i].shadow) fun y p =>
        { y with zone := { y.zone with policy := p } })
  | loadGateProgram {s i rest} : s.Begins 0x06 i rest →
      Does .loadGateProgram s ((s.begun i rest .completing).applyArgs
        ((programArgs s.cmd.slots[i].shadow).map fun p => (p, false)) fun y p =>
          { y with gate := { y.gate with staged := some p } })
  | setLine {s i rest} : s.tacho.stallHeld = none → s.Begins 0x07 i rest →
      Does .setLine s ((s.begun i rest .completing).applyArgs (lineArgs s.cmd.slots[i].shadow) State.changeLine)
  | setTachoBand {s i rest} : s.Begins 0x08 i rest →
      Does .setTachoBand s ((s.begun i rest .completing).applyArgs (bandArgs s.cmd.slots[i].shadow) fun y b =>
        { y with tacho := { y.tacho with pmin := b.1, pmax := b.2 } })
  | setLocationEntry {s i rest} : s.Begins 0x09 i rest →
      Does .setLocationEntry s ((s.begun i rest .completing).applyArgs
        ((entryArgs s.cmd.slots[i].shadow).map fun e => (e, false)) fun y e => y.modTable fun t => vmod t e.1 fun _ => e.2)
  | loadLocationTable {s i rest} : s.Begins 0x0A i rest →
      Does .loadLocationTable s
        (if tableSourceOk (argument s.cmd.slots[i].shadow 1) then
          State.placeLoads (tableAddresses (argument s.cmd.slots[i].shadow 1)) (s.begun i rest (.loading []))
        else s.answered i rest .refusedValue)
  | mouldRefused {s i rest} : s.mouldMustWait = false → s.Begins 0x0B i rest →
      s.namedProfile (argument s.cmd.slots[i].shadow 1) = none →
      Does .mouldChange s (s.answered i rest .refusedNoProfile)
  | mouldChange {s i rest p} : s.mouldMustWait = false → s.Begins 0x0B i rest →
      s.namedProfile (argument s.cmd.slots[i].shadow 1) = some p →
      Does .mouldChange s ((s.begun i rest .completing).mouldBegin p (vget s.cmd.slots[i].shadow 2 0))
  | maskRefused {s i rest} : s.evalBusy = false → s.Begins 0x0C i rest → Does .maskZone s (s.answered i rest .refusedValue)
  | unmaskRefused {s i rest} : s.evalBusy = false → s.Begins 0x0D i rest →
      Does .unmaskZone s (s.answered i rest .refusedValue)
  | resetRefused {s i rest} : s.evalBusy = false → s.Begins 0x0E i rest →
      Does .resetZone s (s.answered i rest .refusedValue)
  | maskZone {s i rest r} : s.evalBusy = false → s.Begins 0x0C i rest →
      s.zone.record? (argument s.cmd.slots[i].shadow 1) = some r →
      Does .maskZone s ((s.begun i rest .completing).changeZone (argument s.cmd.slots[i].shadow 1) r r.mask)
  | unmaskZone {s i rest r} : s.evalBusy = false → s.Begins 0x0D i rest →
      s.zone.record? (argument s.cmd.slots[i].shadow 1) = some r → r.state = .masked →
      Does .unmaskZone s ((s.begun i rest .completing).changeZone (argument s.cmd.slots[i].shadow 1) r r.unmask)
  | resetZone {s i rest r} : s.evalBusy = false → s.Begins 0x0E i rest →
      s.zone.record? (argument s.cmd.slots[i].shadow 1) = some r → r.state ≠ .masked →
      Does .resetZone s ((s.begun i rest .completing).changeZone (argument s.cmd.slots[i].shadow 1) r r.reset)
  | releaseCapture {s i rest} : s.Begins 0x0F i rest →
      Does .releaseCapture s ((s.begun i rest .completing).releaseById (argument s.cmd.slots[i].shadow 1))
  | stopRelease {s i rest} : s.Begins 0x10 i rest →
      Does .stopRelease s (State.answered { s with notice := s.notice.releaseStop } i rest .done)
  | setNotice {s i rest} : s.Begins 0x11 i rest →
      Does .setNotice s ((s.begun i rest .completing).applyArgs (noticeArgs s.cmd.slots[i].shadow) State.changeNotice)
  | setStop {s i rest} : s.Begins 0x12 i rest →
      Does .setStop s ((s.begun i rest .completing).applyArgs (stopArgs s.cmd.slots[i].shadow) fun y v =>
        { y with notice := y.notice.setStop v.1 v.2.1 v.2.2 y.clock })
  | zoneReport {s i rest} : s.Begins 0x13 i rest → Does .zoneReport s ((s.begun i rest .completing).reportFrom 0)
  | saveConfiguration {s i rest} : s.Begins 0x14 i rest →
      Does .saveConfiguration s ((s.begun i rest .completing).writePage (buildImage s.savedConfig) 0)
  | nextPage {s image p since} : s.savingPage = some (image, p, since) →
      Does .nvmPageReady s (s.writePage image (p + 1))
  | lastPage {s image p since} : s.savingPage = some (image, p, since) →
      Does .nvmPageReady s (s.beginReadback image)
  | nvmPageTimeout {s image p since} : s.savingPage = some (image, p, since) →
      Does .nvmPageTimeout s ((s.reach (since + pageSpan)).complete .nvmFault)
  | nvmReadback {s i image status bytes} : s.cmd.exec = some ⟨i, .verifying image⟩ →
      Does (.nvmReadback status bytes) s (s.complete (if readbackOk status bytes image then .done else .nvmFault))
  | reload {s i rest} : s.evalOwed = false → s.checkBusy = false → s.Begins 0x15 i rest →
      Does .reload s (s.begun i rest .reloading).reloadOn

/-- A command row leaves the state as it is, or its command begins (R152). -/
theorem State.command_cases (s : State) (fn : Nat) (work : Vector Word 16 → State → State) :
    s.command fn work = s ∨
      ∃ i rest, s.Begins fn i rest ∧ s.command fn work = work s.cmd.slots[i].shadow (s.begun i rest .completing) := by
  by_cases h : ∃ i rest, s.Begins fn i rest
  · obtain ⟨i, rest, h⟩ := h
    exact .inr ⟨i, rest, h, State.command_of_begins work h⟩
  · refine .inl ?_
    unfold State.command
    split
    · next i rest hrun hexec hqueue =>
      refine if_neg fun hfn => h ⟨i, rest, hrun, hexec, hqueue, ?_⟩
      rwa [functionCode_eq_mod] at hfn
    · rfl

/-- Whatever a command's work gives, `Does` has it if it has what the work gives once the command has begun. -/
theorem Does.of_command {c : Instr} {s : State} {fn : Nat} {work : Vector Word 16 → State → State}
    (h : ∀ i rest, s.Begins fn i rest → Does c s (work s.cmd.slots[i].shadow (s.begun i rest .completing))) :
    Does c s (s.command fn work) := by
  obtain e | ⟨i, rest, hb, e⟩ := s.command_cases fn work
  · rw [e]; exact .idle
  · rw [e]; exact h i rest hb

theorem does_of_settled {c : Instr} {s t u : State} (h : s.settled u = .next t) (hd : Does c s u) :
    ∃ u, Does c s u ∧ t = s.settle u :=
  ⟨u, hd, (Host.Outcome.next.inj h).symm⟩

/-- A condition under which a command is turned away. -/
theorem Does.ite_idle {c : Instr} {s u : State} {p : Prop} [Decidable p] (h : ¬ p → Does c s u) :
    Does c s (if p then s else u) := by
  split
  · exact .idle
  · next hp => exact h hp

theorem Does.of_mouldChange {s : State} {i : Fin 8} {rest : List (Fin 8)} (hw : s.mouldMustWait = false)
    (hb : s.Begins 0x0B i rest) :
    Does .mouldChange s (match s.namedProfile (argument s.cmd.slots[i].shadow 1) with
      | some p => (s.begun i rest .completing).mouldBegin p (vget s.cmd.slots[i].shadow 2 0)
      | none => (s.begun i rest .completing).complete .refusedNoProfile) := by
  split
  · next hp => exact .mouldChange hw hb hp
  · next hp => exact .mouldRefused hw hb hp

theorem Does.of_maskZone {s : State} {i : Fin 8} {rest : List (Fin 8)} (he : s.evalBusy = false)
    (hb : s.Begins 0x0C i rest) :
    Does .maskZone s (match s.zone.record? (argument s.cmd.slots[i].shadow 1) with
      | none => (s.begun i rest .completing).complete .refusedValue
      | some r => (s.begun i rest .completing).changeZone (argument s.cmd.slots[i].shadow 1) r r.mask) := by
  split
  · exact .maskRefused he hb
  · next hr => exact .maskZone he hb hr

theorem Does.of_unmaskZone {s : State} {i : Fin 8} {rest : List (Fin 8)} (he : s.evalBusy = false)
    (hb : s.Begins 0x0D i rest) :
    Does .unmaskZone s (match s.zone.record? (argument s.cmd.slots[i].shadow 1) with
      | none => (s.begun i rest .completing).complete .refusedValue
      | some r =>
        if r.state = .masked then (s.begun i rest .completing).changeZone (argument s.cmd.slots[i].shadow 1) r r.unmask
        else (s.begun i rest .completing).complete .refusedValue) := by
  split
  · exact .unmaskRefused he hb
  · next hr =>
    split
    · next hm => exact .unmaskZone he hb hr hm
    · exact .unmaskRefused he hb

theorem Does.of_resetZone {s : State} {i : Fin 8} {rest : List (Fin 8)} (he : s.evalBusy = false)
    (hb : s.Begins 0x0E i rest) :
    Does .resetZone s (match s.zone.record? (argument s.cmd.slots[i].shadow 1) with
      | none => (s.begun i rest .completing).complete .refusedValue
      | some r =>
        if r.state = .masked then (s.begun i rest .completing).complete .refusedValue
        else (s.begun i rest .completing).changeZone (argument s.cmd.slots[i].shadow 1) r r.reset) := by
  split
  · exact .resetRefused he hb
  · next hr =>
    split
    · exact .resetRefused he hb
    · next hm => exact .resetZone he hb hr hm

/-- Nothing but what `Does` lists happens, apart from a cold reset. -/
theorem exec_inversion {c : Instr} {s t : State} (h : exec c s = .next t) :
    (c = .coldReset ∧ t = s.coldReset) ∨ ∃ u, Does c s u ∧ t = s.settle u := by
  cases c with
  | coldReset => exact .inl ⟨rfl, (Host.Outcome.next.inj h).symm⟩
  | resetRelease =>
    refine .inr (does_of_settled h ?_)
    split
    · next hp => exact .resetRelease hp
    · exact .idle
  | imageRead status bytes =>
    refine .inr (does_of_settled h ?_)
    split
    · next hp => exact .imageRead hp
    · exact .idle
  | imageRetry =>
    refine .inr (does_of_settled h ?_)
    split
    · next hp => exact .imageRetry hp
    · exact .idle
  | runningEntry =>
    refine .inr (does_of_settled h ?_)
    split
    · next hd => exact .runningEntry hd
    · exact .idle
  | busAccess addr op =>
    refine .inr (does_of_settled h ?_)
    split
    · next hb => exact .busAccess hb
    · exact .idle
  | busAccessComplete =>
    refine .inr (does_of_settled h ?_)
    split
    · next hg => exact .ite_idle fun hs => .busAccessComplete hg (by simpa using hs)
    · exact .idle
  | sampleWrite moment =>
    refine .inr (does_of_settled h ?_)
    split
    · next hg =>
      split
      · next hp => exact .ite_idle fun hf => .sampleWrite hg hp (by simpa using hf)
      · exact .idle
    · exact .idle
  | commandWindowWrite =>
    refine .inr (does_of_settled h ?_)
    split
    · next hg =>
      split
      · next hp => exact .commandWindowWrite hg hp
      · exact .idle
    · exact .idle
  | noticeControlWord =>
    refine .inr (does_of_settled h ?_)
    split
    · next hg =>
      split
      · next hp => exact .noticeControlWord hg hp
      · exact .idle
    · exact .idle
  | consumerIndex =>
    refine .inr (does_of_settled h ?_)
    split
    · next hg =>
      split
      · next hp => exact .consumerIndex hg hp
      · exact .idle
    · exact .idle
  | internalAccessComplete first =>
    refine .inr (does_of_settled h ?_)
    split
    · next hh =>
      split
      · exact .internalAccessFirst hh
      · exact .internalAccess hh
    · exact .idle
  | waitingRequestPlaced src => exact .inr (does_of_settled h .waitingRequestPlaced)
  | lineSample pins order => exact .inr (does_of_settled h .lineSample)
  | tachoSample pin =>
    refine .inr (does_of_settled h ?_)
    split
    · exact .idle
    · exact .idle
    · next hh hs => exact .tachoSample (fun e => hs e) hh
  | tachoStall =>
    refine .inr (does_of_settled h ?_)
    split
    · next hh => exact .tachoStall hh
    · exact .idle
  | delayEnd =>
    refine .inr (does_of_settled h ?_)
    split
    · next hw =>
      dsimp only
      split
      · exact .delayEnd hw
      · exact .idle
    · exact .idle
  | edgeTimeout =>
    refine .inr (does_of_settled h ?_)
    split
    · next hw =>
      dsimp only
      split
      · exact .edgeTimeout hw
      · exact .idle
    · exact .idle
  | frameTaken =>
    refine .inr (does_of_settled h ?_)
    split
    · next hf => exact .frameTaken hf
    · exact .idle
  | sampleSet =>
    refine .inr (does_of_settled h ?_)
    split
    · next hn => exact .sampleSet hn
    · exact .idle
  | hitEnd c =>
    refine .inr (does_of_settled h ?_)
    split
    · next hd => exact .hitEnd hd
    · exact .idle
  | longHit c =>
    refine .inr (does_of_settled h ?_)
    split
    · next hd => exact .longHit hd
    · exact .idle
  | holdoffEnd c =>
    refine .inr (does_of_settled h ?_)
    split
    · next hd => exact .holdoffEnd hd
    · exact .idle
  | lockoutEnd c =>
    refine .inr (does_of_settled h ?_)
    split
    · next hd => exact .lockoutEnd hd
    · exact .idle
  | windowPassed =>
    refine .inr (does_of_settled h ?_)
    split
    · next hw => exact .windowPassed hw
    · exact .idle
  | eventComplete =>
    refine .inr (does_of_settled h ?_)
    split
    · next hd => exact .eventComplete hd
    · exact .idle
  | captureTrigger =>
    refine .inr (does_of_settled h ?_)
    split
    · next hr => exact .ite_idle fun hw => .captureRun hr (by simpa using hw)
    · next hr ht => exact .captureTrigger hr ht
    · exact .idle
  | freeze =>
    refine .inr (does_of_settled h ?_)
    split
    · next hp => exact .ite_idle fun ha => .freezePost hp (by simpa using ha)
    · next r hp hr =>
      unfold State.freezeRun
      split
      · exact .idle
      · next hw => exact .ite_idle fun ha => .freezeRun hp hr hw (by simpa using ha)
    · exact .idle
  | recordTaken =>
    refine .inr (does_of_settled h ?_)
    split
    · next hd => exact .recordTaken hd
    · exact .idle
  | statusBlockUpdate =>
    refine .inr (does_of_settled h ?_)
    split
    · next hd => exact .statusBlockUpdate hd
    · exact .idle
  | cycleEndEvaluation => exact .inr (does_of_settled h .cycleEndEvaluation)
  | batchCounter kind => exact .inr (does_of_settled h .batchCounter)
  | stopPulseExpiry =>
    refine .inr (does_of_settled h ?_)
    split
    · next hp =>
      dsimp only
      split
      · exact .stopPulseExpiry hp
      · exact .idle
    · exact .idle
  | nop => exact .inr (does_of_settled h (.of_command fun _ _ => .nop))
  | setDetector => exact .inr (does_of_settled h (.of_command fun _ _ => .setDetector))
  | setEvent => exact .inr (does_of_settled h (.of_command fun _ _ => .setEvent))
  | setWeights => exact .inr (does_of_settled h (.of_command fun _ _ => .setWeights))
  | setZonePolicy => exact .inr (does_of_settled h (.of_command fun _ _ => .setZonePolicy))
  | loadGateProgram => exact .inr (does_of_settled h (.of_command fun _ _ => .loadGateProgram))
  | setLine =>
    exact .inr (does_of_settled h (.ite_idle fun hs => .of_command fun _ _ => .setLine (by simpa using hs)))
  | setTachoBand => exact .inr (does_of_settled h (.of_command fun _ _ => .setTachoBand))
  | setLocationEntry => exact .inr (does_of_settled h (.of_command fun _ _ => .setLocationEntry))
  | loadLocationTable => exact .inr (does_of_settled h (.of_command fun _ _ => .loadLocationTable))
  | mouldChange =>
    exact .inr (does_of_settled h (.ite_idle fun hw => .of_command fun _ _ => .of_mouldChange (by simpa using hw)))
  | maskZone => exact .inr (does_of_settled h (.ite_idle fun he => .of_command fun _ _ => .of_maskZone (by simpa using he)))
  | unmaskZone =>
    exact .inr (does_of_settled h (.ite_idle fun he => .of_command fun _ _ => .of_unmaskZone (by simpa using he)))
  | resetZone =>
    exact .inr (does_of_settled h (.ite_idle fun he => .of_command fun _ _ => .of_resetZone (by simpa using he)))
  | releaseCapture => exact .inr (does_of_settled h (.of_command fun _ _ => .releaseCapture))
  | stopRelease => exact .inr (does_of_settled h (.of_command fun _ _ => .stopRelease))
  | setNotice => exact .inr (does_of_settled h (.of_command fun _ _ => .setNotice))
  | setStop => exact .inr (does_of_settled h (.of_command fun _ _ => .setStop))
  | zoneReport => exact .inr (does_of_settled h (.of_command fun _ _ => .zoneReport))
  | saveConfiguration => exact .inr (does_of_settled h (.of_command fun _ _ => .saveConfiguration))
  | nvmPageReady =>
    refine .inr (does_of_settled h ?_)
    split
    · next hp =>
      split
      · exact .nextPage hp
      · exact .lastPage hp
    · exact .idle
  | nvmPageTimeout =>
    refine .inr (does_of_settled h ?_)
    split
    · next hp =>
      dsimp only
      split
      · exact .nvmPageTimeout hp
      · exact .idle
    · exact .idle
  | nvmReadback status bytes =>
    refine .inr (does_of_settled h ?_)
    split
    · next he => exact .nvmReadback he
    · exact .idle
  | reload =>
    refine .inr (does_of_settled h (.ite_idle fun hw => .of_command fun _ _ => ?_))
    obtain ⟨he, hc⟩ : s.evalOwed = false ∧ s.checkBusy = false := by simpa using hw
    exact .reload he hc

/-- A step executes the command at the front of the queue, or idles. -/
theorem step_inversion {s t : State} (h : step s = .next t) :
    (s.pending = [] ∧ t = s) ∨ ∃ c rest, s.pending = c :: rest ∧
      ((c = .coldReset ∧ t = (s.popped rest).coldReset) ∨ ∃ u, Does c (s.popped rest) u ∧ t = (s.popped rest).settle u) := by
  unfold step at h
  split at h
  · next hp => exact .inl ⟨hp, (Host.Outcome.next.inj h).symm⟩
  · next c rest hp => exact .inr ⟨c, rest, hp, exec_inversion h⟩

end Sys2Proof.Machine
end

section
/-! PROOFS. Which fields each command can touch before the marks and the grant, and how a predicate on some of the fields is
kept by every command that touches none of them. -/

namespace Sys2Proof.Machine

/-! ## Commands that begin -/

theorem State.begun_touches (s : State) (i : Fin 8) (rest : List (Fin 8)) (job : Job) :
    Touches [.cmd] s (s.begun i rest job) := by
  intro f hf; cases f <;> first | exact absurd (by decide) hf | rfl

theorem State.queueCompletion_touches (s : State) (i : Fin 8) (code : Code) :
    Touches [.iq, .cmd, .notice] s (s.queueCompletion i code) := State.placeCompletions_touches _ s

theorem State.answered_touches (s : State) (i : Fin 8) (rest : List (Fin 8)) (code : Code) :
    Touches [.iq, .cmd, .notice] s (s.answered i rest code) :=
  ((s.begun_touches i rest .completing).mono (by decide)).trans (State.queueCompletion_touches _ i code)

/-- A command with checked arguments touches what its application touches, beside its slot and its word. -/
theorem State.applyArgs_touches {α : Type} {T : List Field} {s : State} {args : Except Code (α × Bool)}
    {apply : State → α → State} (h : ∀ v, Touches T s (apply s v)) :
    Touches (.iq :: .cmd :: .notice :: T) s (s.applyArgs args apply) := by
  have hsub : ∀ f ∈ [Field.iq, .cmd, .notice], f ∈ .iq :: .cmd :: .notice :: T := by simp
  cases args with
  | error c => exact (State.complete_touches s c).mono hsub
  | ok v => exact ((h v.1).mono (by simp +contextual)).trans ((State.complete_touches _ _).mono hsub)

theorem State.begun_applyArgs_touches {α : Type} {T : List Field} {s : State} {i : Fin 8} {rest : List (Fin 8)}
    {args : Except Code (α × Bool)} {apply : State → α → State} (h : ∀ x v, Touches T x (apply x v)) :
    Touches (.iq :: .cmd :: .notice :: T) s ((s.begun i rest .completing).applyArgs args apply) :=
  ((s.begun_touches i rest .completing).mono (by simp)).trans (State.applyArgs_touches fun v => h _ v)

theorem State.changeLine_touches (s : State) (c : LineChange) : Touches [.lines, .tacho] s (s.changeLine c) := by
  cases c <;> (intro f hf; cases f <;> first | exact absurd (by decide) hf | rfl)

theorem State.changeNotice_touches (s : State) (c : NoticeChange) : Touches [.notice] s (s.changeNotice c) := by
  have h (n : NoticeUnit) : Touches [.notice] s { s with notice := n } := by
    intro f hf; cases f <;> first | exact absurd (by decide) hf | rfl
  unfold State.changeNotice
  exact Touches.ite ((h _).trans (State.loadBatch_touches _ _ _))
    (Touches.ite ((h _).trans (State.loadBatch_touches _ _ _)) (h _))

theorem State.releaseById_touches (s : State) (c : Nat) : Touches [.iq, .cmd, .notice, .asm, .cap] s (s.releaseById c) := by
  have h (t : State) (code : Code) : Touches [.iq, .cmd, .notice, .asm, .cap] t (t.complete code) :=
    (State.complete_touches t code).mono (by decide)
  unfold State.releaseById
  split
  · split
    · exact ((State.releaseCapture_touches s _).mono (by decide)).trans (h _ _)
    · exact h s _
    · exact h s _
  · exact h s _

theorem State.startEvaluation_touches (s : State) : Touches [.zone, .report, .status, .aq] s s.startEvaluation := by
  unfold State.startEvaluation
  split
  · exact Touches.refl _ s
  · split
    · exact Touches.trans (by intro f hf; cases f <;> first | exact absurd (by decide) hf | rfl)
        ((State.beginEval_touches _ _).mono (by decide))
    · exact Touches.trans (by intro f hf; cases f <;> first | exact absurd (by decide) hf | rfl)
        ((State.beginEval_touches _ _).mono (by decide))
    · exact Touches.refl _ s

theorem State.giveAnswer_touches (r : State × TriggerAnswer) : Touches [.ev, .report] r.1 (State.giveAnswer r) := by
  unfold State.giveAnswer
  split
  · exact State.answerTrigger_touches _ _
  · exact Touches.refl _ _

theorem State.endRun_touches (r : CaptureRun) (x : State × Bool) : Touches [.ev, .report] x.1 (State.endRun r x) :=
  Touches.ite (State.answerTrigger_touches _ _) (Touches.refl _ _)

theorem State.nextSample_touches (s : State) (pins : Vector Bool 5) :
    Touches [.gate, .aq, .zone, .asm, .status, .clock, .lines] s (s.nextSample pins) := by
  have hc (t : State) (n : Nat) : Touches [.gate, .aq, .zone, .asm, .status, .clock, .lines] t { t with clock := n } := by
    intro f hf; cases f <;> first | exact absurd (by decide) hf | rfl
  have h := ((State.takeEdges_touches s (List.finRange 5)).mono (by decide)).trans
    (hc (s.takeEdges (List.finRange 5)) ((s.takeEdges (List.finRange 5)).clock + 1))
  unfold State.nextSample
  dsimp only
  split
  · exact h
  · exact h.trans ((State.samplePress_touches _ pins).mono (by decide))

/-! ## The fields of each row -/

/-- The fields that the placing of a source's waiting requests can touch, with the work that goes on after them. -/
def pumpFields : Source → List Field
  | .reportWriter => [.iq, .report, .asm, .aq, .det, .ev, .zone, .cap, .notice, .cmd]
  | .statusUpdate => [.iq, .status]
  | .commandUnit => [.path, .asm, .aq, .cap, .gate, .zone, .det, .ev, .cmd, .loader, .iq, .notice]
  | .tableLoad => [.iq, .cmd]

theorem State.pump_touches_pumpFields (s : State) (src : Source) : Touches (pumpFields src) s (s.pump src) := by
  cases src with
  | reportWriter => exact ((State.pumpRecord_touches s).mono (by decide)).trans ((State.resume_touches _).mono (by decide))
  | statusUpdate => exact (State.pumpStatus_touches s).mono (by decide)
  | commandUnit =>
    exact ((State.placeCompletions_touches _ s).mono (by decide)).trans ((State.reloadOn_touches _).mono (by decide))
  | tableLoad => exact (State.placeLoads_touches _ s).mono (by decide)

/-- The fields that a command can touch before the marks and the grant; a cold reset is not among these commands. -/
def footprint : Instr → List Field
  | .coldReset => []
  | .resetRelease => [.loader]
  | .imageRead _ _ => [.loader]
  | .imageRetry => [.loader, .clock]
  | .runningEntry => [.path, .iq, .loader, .lines, .tacho, .gate, .det, .ev, .zone, .report, .cmd, .notice, .status]
  | .busAccess _ _ => [.path]
  | .busAccessComplete => [.mem, .path]
  | .sampleWrite _ => [.mem, .path, .asm, .aq, .notice, .cap, .report]
  | .commandWindowWrite => [.mem, .path, .iq, .cmd, .notice]
  | .noticeControlWord => [.mem, .path, .notice]
  | .consumerIndex => [.mem, .path, .report]
  | .internalAccessComplete none => [.mem, .path, .iq, .cmd, .notice, .ev, .loader]
  | .internalAccessComplete (some src) => [.mem, .path, .iq, .cmd, .notice, .ev, .loader] ++ pumpFields src
  | .waitingRequestPlaced src => pumpFields src
  | .lineSample _ _ => [.gate, .aq, .zone, .asm, .status, .clock, .lines]
  | .tachoSample _ => [.tacho, .gate, .notice]
  | .tachoStall => [.tacho, .gate, .notice, .status]
  | .delayEnd => [.clock, .gate, .aq, .zone, .asm]
  | .edgeTimeout => [.clock, .gate, .aq, .zone]
  | .frameTaken => [.asm, .aq, .det, .ev]
  | .sampleSet => [.asm, .aq, .det, .ev]
  | .hitEnd _ => [.asm, .aq, .det, .ev]
  | .longHit _ => [.asm, .aq, .det, .ev]
  | .holdoffEnd _ => [.asm, .aq, .det, .ev]
  | .lockoutEnd _ => [.asm, .aq, .det, .ev]
  | .windowPassed => [.asm, .aq, .det, .ev]
  | .eventComplete => [.ev, .asm, .free, .zone, .report]
  | .captureTrigger => [.cap, .report, .notice, .ev]
  | .freeze => [.cap, .report, .notice, .iq, .cmd, .ev]
  | .recordTaken => [.iq, .report, .notice, .asm, .aq, .det, .ev, .zone, .cap, .cmd]
  | .statusBlockUpdate => [.iq, .status]
  | .cycleEndEvaluation => [.zone, .report, .status, .aq]
  | .batchCounter _ => [.notice]
  | .stopPulseExpiry => [.clock, .notice]
  | .nop => [.iq, .cmd, .notice]
  | .setDetector => [.iq, .cmd, .notice, .det]
  | .setEvent => [.iq, .cmd, .notice, .ev]
  | .setWeights => [.iq, .cmd, .notice, .ev]
  | .setZonePolicy => [.iq, .cmd, .notice, .zone]
  | .loadGateProgram => [.iq, .cmd, .notice, .gate]
  | .setLine => [.iq, .cmd, .notice, .lines, .tacho]
  | .setTachoBand => [.iq, .cmd, .notice, .tacho]
  | .setLocationEntry => [.iq, .cmd, .notice, .ev, .loader]
  | .loadLocationTable => [.iq, .cmd, .notice]
  | .mouldChange => [.gate, .asm, .aq, .det, .ev, .cmd, .report, .zone, .iq, .notice]
  | .maskZone => [.iq, .cmd, .notice, .zone, .report]
  | .unmaskZone => [.iq, .cmd, .notice, .zone, .report]
  | .resetZone => [.iq, .cmd, .notice, .zone, .report]
  | .releaseCapture => [.iq, .cmd, .notice, .asm, .cap]
  | .stopRelease => [.iq, .cmd, .notice]
  | .setNotice => [.iq, .cmd, .notice]
  | .setStop => [.iq, .cmd, .notice]
  | .zoneReport => [.iq, .cmd, .notice, .report]
  | .saveConfiguration => [.cmd, .loader]
  | .nvmPageReady => [.cmd, .loader]
  | .nvmPageTimeout => [.clock, .iq, .cmd, .notice]
  | .nvmReadback _ _ => [.iq, .cmd, .notice]
  | .reload => [.path, .asm, .aq, .cap, .gate, .zone, .det, .ev, .cmd, .loader, .iq, .notice]

section
variable {s : State}

theorem Touches.begun {T U : List Field} {i : Fin 8} {rest : List (Fin 8)} {job : Job} {u : State}
    (h : Touches T (s.begun i rest job) u) (hc : Field.cmd ∈ U) (hTU : ∀ f, f ∈ T → f ∈ U) : Touches U s u :=
  ((s.begun_touches i rest job).mono (by simpa using hc)).trans (h.mono hTU)

theorem State.reach_time_touches (t : Nat) : Touches [.clock] s (s.reach t) := by
  intro f hf; cases f <;> first | exact absurd (by decide) hf | rfl

theorem State.setChanState_touches (c : Fin 4) (st : ChanState) : Touches [.asm, .aq, .det, .ev] s (s.setChanState c st) := by
  intro f hf; cases f <;> first | exact absurd (by decide) hf | rfl

/-- A command touches the fields of its row at most. -/
theorem Does.touches {c : Instr} {s u : State} (h : Does c s u) : Touches (footprint c) s u := by
  cases h with
  | idle => exact Touches.refl _ s
  | resetRelease => intro f hf; cases f <;> first | exact absurd (by decide) hf | rfl
  | imageRead =>
    change Touches [.loader] s _
    intro f hf; cases f <;> first | exact absurd (by decide) hf | rfl
  | imageRetry => intro f hf; cases f <;> first | exact absurd (by decide) hf | rfl
  | runningEntry => exact State.enterRunning_touches s _ _
  | busAccess => exact State.receive_touches s _ _
  | busAccessComplete => exact State.performBus_touches s _
  | sampleWrite =>
    change Touches [.mem, .path, .asm, .aq, .notice, .cap, .report] s _
    exact ((State.performBus_touches s _).mono (by decide)).trans
      ((State.assembleWrite_touches _ _ _ _ _ _ _ _).mono (by decide))
  | commandWindowWrite =>
    exact ((State.performBus_touches s _).mono (by decide)).trans ((State.slotWrite_touches _ _ _ _ _).mono (by decide))
  | noticeControlWord =>
    exact ((State.performBus_touches s _).mono (by decide)).trans ((State.snoopNotice_touches _ _ _).mono (by decide))
  | consumerIndex =>
    exact ((State.performBus_touches s _).mono (by decide)).trans ((State.snoopConsumer_touches _ _ _).mono (by decide))
  | internalAccess => exact State.performInternal_touches s _ _
  | internalAccessFirst =>
    exact ((State.performInternal_touches s _ _).mono fun f hf => List.mem_append_left _ hf).trans
      ((State.pump_touches_pumpFields _ _).mono fun f hf => List.mem_append_right _ hf)
  | waitingRequestPlaced => exact State.pump_touches_pumpFields s _
  | lineSample =>
    change Touches [.gate, .aq, .zone, .asm, .status, .clock, .lines] s _
    refine Touches.trans ?_ ((State.takeEdges_touches _ _).mono (by decide))
    exact Touches.ite (Touches.refl _ s) (State.nextSample_touches s _)
  | tachoSample => exact State.sampleTacho_touches s _
  | tachoStall => exact State.stall_touches s _
  | delayEnd =>
    exact ((State.reach_time_touches _).mono (by decide)).trans ((State.stepDone_touches _ _ _ _).mono (by decide))
  | edgeTimeout =>
    exact ((State.reach_time_touches _).mono (by decide)).trans ((State.endCycle_touches _ _ _).mono (by decide))
  | frameTaken => exact State.takeFrame_touches s _ _
  | sampleSet => exact State.runChannels_touches _ _ _ s
  | hitEnd => exact (State.endHit_touches s _).trans (State.runChannels_touches _ _ _ _)
  | longHit => exact (State.endLong_touches s _).trans (State.runChannels_touches _ _ _ _)
  | holdoffEnd => exact (State.setChanState_touches _ _).trans (State.runChannels_touches _ _ _ _)
  | lockoutEnd => exact (State.setChanState_touches _ _).trans (State.runChannels_touches _ _ _ _)
  | windowPassed =>
    exact Touches.trans (by intro f hf; cases f <;> first | exact absurd (by decide) hf | rfl) (State.afterSet_touches _ _ _)
  | eventComplete => exact State.completeWith_touches s _ _
  | captureRun =>
    exact ((State.continueRun_touches s _).mono (by decide)).trans ((State.endRun_touches _ _).mono (by decide))
  | captureTrigger =>
    exact ((State.takeTrigger_touches s _).mono (by decide)).trans ((State.giveAnswer_touches _).mono (by decide))
  | freezePost =>
    exact ((State.resumePost_touches s _).mono (by decide)).trans ((State.mouldAfterFreeze_touches _).mono (by decide))
  | freezeRun =>
    exact ((State.resumeRun_touches s _ _ _).mono (by decide)).trans ((State.endRun_touches _ _).mono (by decide))
  | recordTaken =>
    exact ((State.takeRecord_touches s _ _).mono (by decide)).trans ((State.resume_touches _).mono (by decide))
  | statusBlockUpdate => exact State.beginUpdate_touches s
  | cycleEndEvaluation => exact State.startEvaluation_touches s
  | batchCounter => exact State.fireBatch_touches s _
  | stopPulseExpiry => intro f hf; cases f <;> first | exact absurd (by decide) hf | rfl
  | nop => exact State.answered_touches s _ _ _
  | setDetector | setEvent | setWeights | setZonePolicy | loadGateProgram | setTachoBand =>
    refine State.begun_applyArgs_touches fun x v => ?_
    intro f hf; cases f <;> first | exact absurd (by decide) hf | rfl
  | setLine => exact State.begun_applyArgs_touches State.changeLine_touches
  | setLocationEntry => exact State.begun_applyArgs_touches fun x v => State.modTable_touches x _
  | loadLocationTable =>
    exact Touches.ite (Touches.begun (State.placeLoads_touches _ _) (by decide) (by decide)) (State.answered_touches s _ _ _)
  | mouldRefused => exact (State.answered_touches s _ _ _).mono (by decide)
  | mouldChange => exact Touches.begun (State.mouldBegin_touches _ _ _) (by decide) (by decide)
  | maskRefused | unmaskRefused | resetRefused => exact (State.answered_touches s _ _ _).mono (by decide)
  | maskZone | unmaskZone | resetZone =>
    exact Touches.begun (State.changeZone_touches _ _ _ _) (by decide) (by decide)
  | releaseCapture => exact Touches.begun (State.releaseById_touches _ _) (by decide) (by decide)
  | stopRelease =>
    exact Touches.trans (by intro f hf; cases f <;> first | exact absurd (by decide) hf | rfl) (State.answered_touches _ _ _ _)
  | setNotice => exact (State.begun_applyArgs_touches State.changeNotice_touches).mono (by decide)
  | setStop =>
    refine (State.begun_applyArgs_touches (T := [.notice]) fun x v => ?_).mono (by decide)
    intro f hf; cases f <;> first | exact absurd (by decide) hf | rfl
  | zoneReport => exact Touches.begun (State.reportZones_touches _ _) (by decide) (by decide)
  | saveConfiguration => exact Touches.begun (State.writePage_touches _ _ _) (by decide) (by decide)
  | nextPage => exact State.writePage_touches s _ _
  | lastPage => exact State.beginReadback_touches s _
  | nvmPageTimeout =>
    exact ((State.reach_time_touches _).mono (by decide)).trans ((State.complete_touches _ _).mono (by decide))
  | nvmReadback => exact State.complete_touches s _
  | reload => exact Touches.begun (State.reloadOn_touches _) (by decide) (by decide)

end

/-! ## Predicates that read some of the fields -/

/-- A predicate whose truth depends on the fields `F` only. -/
def Reads (F : List Field) (P : State → Prop) : Prop := ∀ s t, (∀ f ∈ F, f.agree s t) → P s → P t

section
variable {F T : List Field} {P : State → Prop}

/-- What touches none of the fields that a predicate reads keeps the predicate. -/
theorem Touches.keeps {s t : State} (h : Touches T s t) (hP : Reads F P) (hd : ∀ f ∈ F, f ∉ T) (hs : P s) : P t :=
  hP s t (fun f hf => h f (hd f hf)) hs

theorem Does.keeps {c : Instr} {s u : State} (h : Does c s u) (hP : Reads F P) (hd : ∀ f ∈ F, f ∉ footprint c) (hs : P s) :
    P u :=
  h.touches.keeps hP hd hs

end

end Sys2Proof.Machine
end

section
/-! PROOFS. The SRAM: each command leaves it as it is or writes one word of it, at the address that `storeAddress` names. From
that: the canonical form is kept, and no byte outside that word changes. -/

namespace Sys2Proof.Machine

/-- `t` holds the SRAM of `s`, or that SRAM with one word written at an address of `addr`. -/
def MemoryStep (addr : Option Nat) (s t : State) : Prop :=
  t.mem = s.mem ∨ ∃ a lanes w, addr = some a ∧ t.mem = Memory.writeWord s.mem a lanes w

/-- What follows the write without touching the SRAM leaves what the write left. -/
theorem MemoryStep.trans_touches {addr : Option Nat} {T : List Field} {s t u : State} (h : MemoryStep addr s t)
    (k : Touches T t u) (hT : .mem ∉ T) : MemoryStep addr s u := by
  have e : u.mem = t.mem := k .mem hT
  obtain h | ⟨a, lanes, w, ha, h⟩ := h
  · exact .inl (e.trans h)
  · exact .inr ⟨a, lanes, w, ha, e.trans h⟩

theorem State.performBus_memoryStep (s : State) (b : BusAccess) :
    MemoryStep (if isWrite b.op then some b.memAddr else none) s (s.performBus b) := by
  cases hop : b.op with
  | read => exact .inl (by simp [State.performBus, hop])
  | write lanes w => exact .inr ⟨b.memAddr, lanes, w, by simp [isWrite], by simp [State.performBus, hop]⟩

theorem State.grantedSnoop_some {s : State} {b : BusAccess} {lanes : Lanes} {w : Word}
    (h : s.grantedSnoop = some (b, lanes, w)) : s.granted = some b ∧ b.op = .write lanes w ∧ b.snooped = true := by
  unfold State.grantedSnoop at h
  split at h
  · next b' hg =>
    split at h
    · next lanes' w' hop hsn =>
      obtain ⟨rfl, rfl, rfl⟩ : b' = b ∧ lanes' = lanes ∧ w' = w := by simpa using h
      exact ⟨hg, hop, hsn⟩
    · cases h
  · cases h

theorem State.performBus_snooped_memoryStep {s : State} {b : BusAccess} {lanes : Lanes} {w : Word}
    (h : s.grantedSnoop = some (b, lanes, w)) : MemoryStep (some b.memAddr) s (s.performBus b) := by
  have hop := (State.grantedSnoop_some h).2.1
  simpa [hop, isWrite] using s.performBus_memoryStep b

theorem State.receiveTableWord_mem (s : State) (w : Word) : (s.receiveTableWord w).mem = s.mem :=
  s.receiveTableWord_touches w .mem (by decide)

/-- The internal access writes at `storeAddress`, with or without a source that is placed first. -/
theorem State.performInternal_memoryStep {s : State} {r : Request} {rest : List Request}
    (h : s.internalHead = some (r, rest)) (first : Option Source) :
    MemoryStep (storeAddress (.internalAccessComplete first) s) s (s.performInternal r rest) := by
  cases hact : r.act with
  | write w => exact .inr ⟨r.addr, 0xF, w, by simp [storeAddress, h, hact], by simp [State.performInternal, hact]⟩
  | completion i w =>
    exact .inr ⟨r.addr, 0xF, w, by simp [storeAddress, h, hact], by simp [State.performInternal, hact, State.slotDone]⟩
  | tableRead => exact .inl (by simp [State.performInternal, hact, State.receiveTableWord_mem])

theorem pumpFields_mem (src : Source) : Field.mem ∉ pumpFields src := by cases src <;> decide

/-- A command writes at most the word at its store address. -/
theorem Does.memoryStep {c : Instr} {s u : State} (h : Does c s u) : MemoryStep (storeAddress c s) s u := by
  have ht := h.touches
  cases h
  case idle => exact .inl rfl
  case busAccessComplete b hg hs => simpa [storeAddress, hg, hs] using s.performBus_memoryStep b
  case sampleWrite b lanes w l p i moment hp hg hf =>
    have e : storeAddress (.sampleWrite moment) s = some b.memAddr := by simp [storeAddress, hg, hp, hf]
    rw [e]
    exact (State.performBus_snooped_memoryStep hg).trans_touches (State.assembleWrite_touches _ _ _ _ _ _ _ _) (by decide)
  case commandWindowWrite b lanes w i k hp hg =>
    have e : storeAddress .commandWindowWrite s = some b.memAddr := by simp [storeAddress, hg, hp]
    rw [e]
    exact (State.performBus_snooped_memoryStep hg).trans_touches (State.slotWrite_touches _ _ _ _ _) (by decide)
  case noticeControlWord b lanes w hp hg =>
    have e : storeAddress .noticeControlWord s = some b.memAddr := by simp [storeAddress, hg, hp]
    rw [e]
    exact (State.performBus_snooped_memoryStep hg).trans_touches (State.snoopNotice_touches _ _ _) (by decide)
  case consumerIndex b lanes w hp hg =>
    have e : storeAddress .consumerIndex s = some b.memAddr := by simp [storeAddress, hg, hp]
    rw [e]
    exact (State.performBus_snooped_memoryStep hg).trans_touches (State.snoopConsumer_touches _ _ _) (by decide)
  case internalAccess r rest hh => exact State.performInternal_memoryStep hh none
  case internalAccessFirst r rest src hh =>
    exact (State.performInternal_memoryStep hh (some src)).trans_touches (State.pump_touches_pumpFields _ _)
      (pumpFields_mem src)
  case waitingRequestPlaced src => exact .inl (State.pump_touches_pumpFields s src .mem (pumpFields_mem src))
  all_goals exact .inl (ht .mem (by simp [footprint]))

/-- A bus-side access that has not been granted the port is not performed at a cold reset (R11). -/
theorem State.coldBus_ungranted {s : State} (h : s.granted = none) : s.coldBus.1 = s.mem := by
  unfold State.granted at h
  unfold State.coldBus
  split
  · rfl
  · next b hb => split <;> simp_all

/-- A read changes no byte at a cold reset. -/
theorem State.coldBus_read {s : State} {b : BusAccess} (h : s.granted = some b) (hop : b.op = .read) :
    s.coldBus.1 = s.mem := by
  unfold State.granted at h
  split at h
  · next hport => simp [State.coldBus, h, hop, hport]
  · cases h

/-- A granted write either lands whole at a cold reset or not at all (log 11). -/
theorem State.coldBus_write {s : State} {b : BusAccess} {lanes : Lanes} {w : Word} (h : s.granted = some b)
    (hop : b.op = .write lanes w) :
    s.coldBus.1 = s.mem ∨ s.coldBus.1 = Memory.writeWord s.mem b.memAddr lanes w := by
  unfold State.granted at h
  split at h
  · next hport =>
    by_cases hl : Config.coldWriteLands s.free
    · exact .inr (by simp [State.coldBus, h, hop, hport, hl])
    · exact .inl (by simp [State.coldBus, h, hop, hport, hl])
  · cases h

/-- A cold reset writes at most the word of a write that had been granted (log 11). -/
theorem State.coldReset_memoryStep (s : State) : MemoryStep (storeAddress .coldReset s) s s.coldReset := by
  have hmem : s.coldReset.mem = s.coldBus.1 := rfl
  unfold MemoryStep
  rw [hmem]
  cases hg : s.granted with
  | none => exact .inl (State.coldBus_ungranted hg)
  | some b =>
    cases hop : b.op with
    | read => exact .inl (State.coldBus_read hg hop)
    | write lanes w =>
      obtain e | e := State.coldBus_write hg hop
      · exact .inl e
      · exact .inr ⟨b.memAddr, lanes, w, by simp [storeAddress, hg, hop, isWrite], e⟩

theorem exec_memoryStep {c : Instr} {s t : State} (h : exec c s = .next t) : MemoryStep (storeAddress c s) s t := by
  obtain ⟨rfl, rfl⟩ | ⟨u, hu, rfl⟩ := exec_inversion h
  · exact s.coldReset_memoryStep
  · exact hu.memoryStep.trans_touches (State.settle_touches s u) (by decide)

theorem MemoryStep.canonical {addr : Option Nat} {s t : State} (h : MemoryStep addr s t) (hs : s.MemoryCanonical) :
    t.MemoryCanonical := by
  unfold State.MemoryCanonical at *
  obtain h | ⟨a, lanes, w, _, h⟩ := h
  · rwa [h]
  · rw [h]; exact Memory.writeWord_wf a lanes w hs

/-- Settles O4: a step writes one word at most, and writing a word keeps the canonical form. -/
theorem stepKeepsMemoryCanonical : Obligations.StepKeepsMemoryCanonical := by
  intro s t hs h
  unfold step at h
  split at h
  · exact (Host.Outcome.next.inj h) ▸ hs
  · next c rest _ => exact (exec_memoryStep h).canonical hs

/-- Settles O12: the word written is the one at the store address. -/
theorem sramChangesOnlyAtGrantedWrites : Obligations.SramChangesOnlyAtGrantedWrites := by
  intro c s t h a houtside
  obtain e | ⟨m, lanes, w, hm, e⟩ := exec_memoryStep h
  · rw [e]
  · rw [e]; exact Memory.read_writeWord_outside _ m lanes w (houtside m hm)

end Sys2Proof.Machine
end

section
/-! PROOFS. Slots and captures: what each operation of the Capture Unit and of the Frame Assembler does to the partition of the
physical slots, to the frame lists and to the tags. `State.SlotsBut c` is the order of the slots in the midst of the work on
entry `c`. -/

namespace Sys2Proof.Machine

/-! ## Vectors with one element replaced -/

section
variable {α β : Type} {n : Nat}

theorem vector_getElem_set_fin (v : Vector α n) (i j : Fin n) (x : α) : (v.set i x)[j] = if j = i then x else v[j] := by
  simp only [Fin.getElem_fin, Vector.getElem_set, Fin.ext_iff, eq_comm]

/-- What the old element gave goes out, what the new one gives comes in. -/
theorem vector_flatMap_set_perm (v : Vector α n) (i : Fin n) (x : α) (g : α → List β) :
    ((v.set i x).toList.flatMap g ++ g v[i]).Perm (v.toList.flatMap g ++ g x) := by
  have hi : i.val < v.toList.length := by simp
  have hset : (v.set i x).toList = v.toList.take i ++ x :: v.toList.drop (i + 1) := by
    rw [Vector.toList_set, List.set_eq_take_append_cons_drop, if_pos hi]
  have hold : v.toList = v.toList.take i ++ v[i] :: v.toList.drop (i + 1) := by
    conv_lhs => rw [← List.take_append_drop i.val v.toList, List.drop_eq_getElem_cons hi]
    simp
  rw [hset]
  conv_rhs => rw [hold]
  simp only [List.flatMap_append, List.flatMap_cons, List.append_assoc]
  refine List.Perm.append_left _ ?_
  exact List.perm_append_comm.trans ((List.perm_append_comm.append_right _).trans (.of_eq (List.append_assoc _ _ _)))

end

/-! ## The partition of the physical slots (R121) -/

section
variable {u : CaptureUnit}

/-- What the frame lists of a table hold. -/
def framePlaces (table : Vector Capture 4) : List (Fin 48) := table.toList.flatMap fun e => e.frames.map (·.2)

theorem CaptureUnit.mem_framePlaces {table : Vector Capture 4} {p : Fin 48} :
    p ∈ framePlaces table ↔ ∃ c : Fin 4, ∃ f ∈ table[c].frames, f.2 = p := by
  simp only [framePlaces, List.mem_flatMap, List.mem_map, Vector.mem_toList_iff, Vector.mem_iff_getElem]
  constructor
  · rintro ⟨_, ⟨i, hi, rfl⟩, hf⟩
    exact ⟨⟨i, hi⟩, hf⟩
  · rintro ⟨c, hf⟩
    exact ⟨_, ⟨c.val, c.isLt, rfl⟩, hf⟩

/-- The places of the physical slots only move. -/
theorem CaptureUnit.Partitioned.of_perm {v : CaptureUnit} (h : u.Partitioned) (hp : v.places.Perm u.places) : v.Partitioned :=
  ⟨hp.nodup_iff.mpr h.1, hp.length_eq.trans h.2⟩

theorem CaptureUnit.Partitioned.map_injective (h : u.Partitioned) {i j : Fin 32} (e : u.map[i] = u.map[j]) : i = j := by
  have hnd : u.map.toList.Nodup := (List.nodup_append.mp (List.nodup_append.mp h.1).1).1
  have := (hnd.getElem_inj_iff (i := i.val) (j := j.val) (hi := by simp) (hj := by simp)).mp (by simpa using e)
  exact Fin.ext this

theorem CaptureUnit.Partitioned.map_notMem_spare (h : u.Partitioned) (i : Fin 32) : u.map[i] ∉ u.spare := fun hs =>
  (List.nodup_append.mp (List.nodup_append.mp h.1).1).2.2 u.map[i] (by simp) _ hs rfl

theorem CaptureUnit.Partitioned.map_ne_frame (h : u.Partitioned) (i : Fin 32) {c : Fin 4} {f : Half × Fin 48}
    (hf : f ∈ u.table[c].frames) : f.2 ≠ u.map[i] := fun e =>
  (List.nodup_append.mp h.1).2.2 u.map[i] (by simp) _ (CaptureUnit.mem_framePlaces.mpr ⟨c, f, hf, e⟩) rfl

theorem CaptureUnit.Partitioned.spare_ne_frame (h : u.Partitioned) {q : Fin 48} (hq : q ∈ u.spare) {c : Fin 4}
    {f : Half × Fin 48} (hf : f ∈ u.table[c].frames) : f.2 ≠ q := fun e =>
  (List.nodup_append.mp h.1).2.2 q (by simp [hq]) _ (CaptureUnit.mem_framePlaces.mpr ⟨c, f, hf, e⟩) rfl

theorem CaptureUnit.modEntry_table (u : CaptureUnit) (c d : Fin 4) (f : Capture → Capture) :
    (u.modEntry c f).table[d] = if d = c then f u.table[c] else u.table[d] := vector_getElem_set_fin _ _ _ _

/-- An entry changed without its frame list moves no slot. -/
theorem CaptureUnit.modEntry_places {c : Fin 4} {f : Capture → Capture} (hf : (f u.table[c]).frames = u.table[c].frames) :
    (u.modEntry c f).places.Perm u.places := by
  have h := vector_flatMap_set_perm u.table c (f u.table[c]) fun e => e.frames.map (·.2)
  rw [hf] at h
  exact ((List.perm_append_right_iff _).mp h).append_left _

/-- A freeze moves the head spare into the map and the slot frozen into the frame list (R122). -/
theorem CaptureUnit.freezeSlot_places (u : CaptureUnit) (c : Fin 4) (l : Fin 32) (seq : Half) :
    (u.freezeSlot c l seq).places.Perm u.places := by
  unfold CaptureUnit.freezeSlot
  split
  · exact .refl _
  · next q rest hs =>
    have hmap := vector_flatMap_set_perm u.map l q fun p => [p]
    have htab := vector_flatMap_set_perm u.table c { u.table[c] with frames := u.table[c].frames ++ [(seq, u.map[l])] }
      fun e => e.frames.map (·.2)
    simp only [List.flatMap_singleton', List.map_append, List.map_cons, List.map_nil] at hmap htab
    rw [List.perm_iff_count] at hmap htab ⊢
    intro p
    have h1 := hmap p
    have h2 := htab p
    simp only [CaptureUnit.places, CaptureUnit.modEntry, hs, List.count_append, List.count_cons, List.count_nil] at h1 h2 ⊢
    omega

theorem CaptureUnit.freezeSlot_of_spare {q : Fin 48} {rest : List (Fin 48)} (hs : u.spare = q :: rest) (c : Fin 4)
    (l : Fin 32) (seq : Half) :
    (u.freezeSlot c l seq).spare = rest ∧ (u.freezeSlot c l seq).map = u.map.set l q
      ∧ (u.freezeSlot c l seq).table = u.table.set c { u.table[c] with frames := u.table[c].frames ++ [(seq, u.map[l])] }
      ∧ (u.freezeSlot c l seq).run = u.run := by
  unfold CaptureUnit.freezeSlot
  rw [hs]
  exact ⟨rfl, rfl, rfl, rfl⟩

end

/-! ## The tags -/

section
variable {s t : State}

/-- What the tags say is kept where the slots, the tags, the assembly and the snooped access stay as they are. -/
theorem State.TagsAgree.of_agree (h : s.TagsAgree) (hspare : t.cap.spare = s.cap.spare) (hmap : t.cap.map = s.cap.map)
    (hframes : ∀ c : Fin 4, t.cap.table[c].frames = s.cap.table[c].frames) (hasm : t.asm.tags = s.asm.tags)
    (hassembly : t.asm.assembly = s.asm.assembly) (hbus : t.path.bus = s.path.bus ∨ t.path.bus = none) : t.TagsAgree := by
  obtain ⟨hs, hf, ha, hb⟩ := h
  refine ⟨?_, ?_, ?_, ?_⟩
  · rw [hspare, hasm]; exact hs
  · intro c; rw [hframes c, hasm]; exact hf c
  · rw [hassembly, hmap, hasm]; exact ha
  · intro b l p i e
    obtain e' | e' := hbus
    · rw [hmap]; exact hb b l p i (e' ▸ e)
    · rw [e'] at e; cases e

/-- The snooped access that is in progress did not reach logical slot `l`. -/
def State.NoSnoopAt (s : State) (l : Fin 32) : Prop :=
  ∀ b l' p i, s.path.bus = some b → b.snooped = true → b.place = .sample l' p i → l' ≠ l

theorem State.TagsAgree.noSnoopAt (h : s.TagsAgree) {l : Fin 32} (hacc : s.accessTo s.cap.map[l] = false) :
    s.NoSnoopAt l := by
  rintro b l' p i hb hsn hp rfl
  have hm := h.2.2.2 b l' p i hb hsn hp
  simp [State.accessTo, hb, hp, hm] at hacc

/-- A slot that holds a complete frame, frozen, still agrees with the tags (R27, R122). -/
theorem State.TagsAgree.freezeSlot (h : s.TagsAgree) (c : Fin 4) {l : Fin 32} {seq : Half}
    (hl : s.asm.tags[s.cap.map[l]] = .complete seq) (hacc : s.NoSnoopAt l) : (s.freezeSlot c l seq).TagsAgree := by
  cases hspare : s.cap.spare with
  | nil =>
    have e : s.freezeSlot c l seq = s := by simp [State.freezeSlot, CaptureUnit.freezeSlot, hspare]
    rwa [e]
  | cons q rest =>
    obtain ⟨hs, hf, ha, hb⟩ := h
    obtain ⟨e1, e2, e3, -⟩ := CaptureUnit.freezeSlot_of_spare hspare c l seq
    refine ⟨?_, ?_, ?_, ?_⟩
    · simp only [State.freezeSlot, e1]
      exact fun p hp => hs p (hspare ▸ List.mem_cons_of_mem _ hp)
    · intro d f hfd
      simp only [State.freezeSlot, e3, vector_getElem_set_fin] at hfd ⊢
      split at hfd
      · simp only [List.mem_append, List.mem_singleton] at hfd
        obtain hfd | rfl := hfd
        · exact hf c f hfd
        · exact hl
      · exact hf d f hfd
    · intro x hx
      obtain ⟨h1, h2⟩ := ha x hx
      refine ⟨?_, h2⟩
      simp only [State.freezeSlot, e2, vector_getElem_set_fin]
      split
      · next e => subst e; simp only [h1] at hl; cases h2.symm.trans hl
      · exact h1
    · intro b l' p i e hsn hp
      simp only [State.freezeSlot, e2, vector_getElem_set_fin]
      rw [if_neg (hacc b l' p i e hsn hp)]
      exact hb b l' p i e hsn hp

end

/-! ## The work on one entry -/

/-- The slots are in order but for the state of entry `c` and what rests on it. -/
structure State.SlotsBut (s : State) (c : Fin 4) : Prop where
  parted : s.cap.Partitioned
  others : ∀ d : Fin 4, d ≠ c → s.cap.table[d].state ≠ .opened
  freeEmpty : ∀ d : Fin 4, d ≠ c → s.cap.table[d].state = .free → s.cap.run.map (·.cap) ≠ some d → s.cap.table[d].frames = []
  bounded : ∀ d : Fin 4, s.cap.table[d].frames.length ≤ frameListMax
  room : ∀ r, s.cap.run = some r → s.cap.table[r.cap].frames.length + r.wanted.length ≤ frameListMax
  tags : s.TagsAgree

section
variable {s : State} {c : Fin 4}

/-- An entry that is changed without its frame list stays the one that is worked on. -/
theorem State.SlotsBut.modCapture (h : s.SlotsBut c) {f : Capture → Capture}
    (hf : (f s.cap.table[c]).frames = s.cap.table[c].frames) : (s.modCapture c f).SlotsBut c := by
  have htab (d : Fin 4) : (s.modCapture c f).cap.table[d] = if d = c then f s.cap.table[c] else s.cap.table[d] :=
    CaptureUnit.modEntry_table _ _ _ _
  have hframes (d : Fin 4) : (s.modCapture c f).cap.table[d].frames = s.cap.table[d].frames := by
    rw [htab]; split
    · next e => rw [hf, e]
    · rfl
  refine ⟨h.parted.of_perm (CaptureUnit.modEntry_places hf), ?_, ?_, ?_, ?_, ?_⟩
  · intro d hd; rw [htab, if_neg hd]; exact h.others d hd
  · intro d hd; rw [htab, if_neg hd]; exact h.freeEmpty d hd
  · intro d; rw [hframes]; exact h.bounded d
  · intro r hr; rw [hframes]; exact h.room r hr
  · exact h.tags.of_agree rfl rfl hframes rfl rfl (.inl rfl)

/-- The entry that is worked on takes a further frame. -/
theorem State.SlotsBut.freezeSlot (h : s.SlotsBut c) {l : Fin 32} {seq : Half}
    (hl : s.asm.tags[s.cap.map[l]] = .complete seq) (hacc : s.NoSnoopAt l) (hrun : s.cap.run = none)
    (hroom : s.cap.table[c].frames.length < frameListMax) : (s.freezeSlot c l seq).SlotsBut c := by
  have hperm := s.cap.freezeSlot_places c l seq
  have htags := h.tags.freezeSlot c hl hacc
  cases hspare : s.cap.spare with
  | nil =>
    have e : s.freezeSlot c l seq = s := by simp [State.freezeSlot, CaptureUnit.freezeSlot, hspare]
    rwa [e]
  | cons q rest =>
    obtain ⟨-, -, e3, e4⟩ := CaptureUnit.freezeSlot_of_spare hspare c l seq
    refine ⟨h.parted.of_perm hperm, ?_, ?_, ?_, ?_, htags⟩
    · intro d hd
      simp only [State.freezeSlot, e3, vector_getElem_set_fin, if_neg hd]
      exact h.others d hd
    · intro d hd
      simp only [State.freezeSlot, e3, e4, vector_getElem_set_fin, if_neg hd]
      exact h.freeEmpty d hd
    · intro d
      simp only [State.freezeSlot, e3, vector_getElem_set_fin]
      split
      · simpa using hroom
      · exact h.bounded d
    · intro r hr
      rw [State.freezeSlot, e4, hrun] at hr
      cases hr

/-- The entry's state is settled, and with it the order of the slots. -/
theorem State.SlotsBut.inOrder (h : s.SlotsBut c)
    (hopen : s.cap.table[c].state = .opened → s.cap.table[c].frames.length < frameListMax ∧ s.cap.run = none)
    (hfree : s.cap.table[c].state = .free → s.cap.run.map (·.cap) ≠ some c → s.cap.table[c].frames = []) :
    s.SlotsInOrder := by
  have hone : ∀ d : Fin 4, s.cap.table[d].state = .opened → d = c := fun d hd => by
    by_contra hne; exact h.others d hne hd
  refine ⟨h.parted, ⟨?_, ?_⟩, ?_, ⟨fun d => ⟨h.bounded d, ?_⟩, h.room⟩, h.tags⟩
  · intro d e hd he; rw [hone d hd, hone e he]
  · intro hrun d hd
    have := hone d hd
    subst this
    rw [(hopen hd).2] at hrun
    cases hrun
  · intro d hd hne
    by_cases e : d = c
    · subst e; exact hfree hd hne
    · exact h.freeEmpty d e hd hne
  · intro hd
    have := hone d hd
    subst this
    exact (hopen hd).1

/-- In a state in order, the work on entry `c` can begin where no other entry is OPEN. -/
theorem State.SlotsInOrder.but (h : s.SlotsInOrder) (hc : ∀ d : Fin 4, d ≠ c → s.cap.table[d].state ≠ .opened) :
    s.SlotsBut c := by
  obtain ⟨hp, -, hfree, hbound, ht⟩ := h
  exact ⟨hp, hc, fun d _ => hfree d, fun d => (hbound.1 d).1, hbound.2, ht⟩

theorem State.SlotsInOrder.but_of_opened (h : s.SlotsInOrder) (hc : s.cap.table[c].state = .opened) : s.SlotsBut c :=
  h.but fun d hd hdo => hd (h.2.1.1 d c hdo hc)

theorem State.SlotsInOrder.run_none (h : s.SlotsInOrder) (hc : s.cap.table[c].state = .opened) : s.cap.run = none := by
  cases hr : s.cap.run with
  | none => rfl
  | some r => exact absurd hc (h.2.1.2 (by simp [hr]) c)

end

end Sys2Proof.Machine
end

section
/-! PROOFS. The operations of the Capture Unit keep the slots and captures in order (R121 to R136). -/

namespace Sys2Proof.Machine

section
variable {s t : State} {c : Fin 4}

/-- What stays in order: the same captures and tags, and no snooped access that was not there before. -/
theorem State.SlotsInOrder.of_agree (h : s.SlotsInOrder) (hcap : t.cap = s.cap) (hasm : t.asm.tags = s.asm.tags)
    (hassembly : t.asm.assembly = s.asm.assembly) (hbus : t.path.bus = s.path.bus ∨ t.path.bus = none) : t.SlotsInOrder := by
  obtain ⟨hp, ho, hf, hb, ht⟩ := h
  unfold State.SlotsInOrder
  rw [hcap]
  exact ⟨hp, ho, hf, hb, ht.of_agree (by rw [hcap]) (by rw [hcap]) (by simp [hcap]) hasm hassembly hbus⟩

theorem State.SlotsInOrder.of_touches {T : List Field} (h : s.SlotsInOrder) (ht : Touches T s t) (hc : .cap ∉ T)
    (ha : .asm ∉ T) (hp : .path ∉ T) : t.SlotsInOrder := by
  have easm : t.asm = s.asm := ht .asm ha
  have epath : t.path = s.path := ht .path hp
  exact h.of_agree (ht .cap hc) (by rw [easm]) (by rw [easm]) (.inl (by rw [epath]))

/-! ## Becoming HELD -/

theorem State.modCapture_table (s : State) (c d : Fin 4) (f : Capture → Capture) :
    (s.modCapture c f).cap.table[d] = if d = c then f s.cap.table[c] else s.cap.table[d] := CaptureUnit.modEntry_table _ _ _ _

@[simp] theorem State.modCapture_run (s : State) (c : Fin 4) (f : Capture → Capture) :
    (s.modCapture c f).cap.run = s.cap.run := rfl

/-- The entry that is worked on becomes HELD, and the slots are in order (R133). -/
theorem State.SlotsBut.holdCapture (h : s.SlotsBut c) (b : Bool) : (s.holdCapture c b).SlotsInOrder := by
  have hm := h.modCapture (f := fun e => { e with state := .held, truncated := e.truncated || b }) rfl
  refine (hm.inOrder ?_ ?_).of_touches (T := [.report, .notice])
    (Touches.trans (t := (s.modCapture c _).handOver _) ?_ ((State.raise_touches _ _).mono (by decide)))
    (by decide) (by decide) (by decide)
  · rw [State.modCapture_table, if_pos rfl]; exact fun e => nomatch e
  · rw [State.modCapture_table, if_pos rfl]; exact fun e => nomatch e
  · intro f hf; cases f <;> first | exact absurd (by decide) hf | rfl

/-! ## A trigger's run (R125 to R129) -/

/-- The run of entry `c` is in hand, with `n` wanted frames still to take. -/
structure State.Filling (s : State) (c : Fin 4) (n : Nat) : Prop where
  but : s.SlotsBut c
  noRun : s.cap.run = none
  notOpen : s.cap.table[c].state ≠ .opened
  room : s.cap.table[c].frames.length + n ≤ frameListMax

/-- The entry's state is decided once the last wanted frame has been taken (R129). -/
theorem State.Filling.decideCapture (h : s.Filling c 0) (post : Nat) : (s.decideCapture c post).SlotsInOrder := by
  unfold State.decideCapture
  dsimp only
  split
  · exact h.but.holdCapture false
  · next hlen =>
    split
    · exact h.but.holdCapture true
    · refine (h.but.modCapture (f := fun e => { e with state := .opened, remaining := _ }) rfl).inOrder ?_ ?_
      · rw [State.modCapture_table, if_pos rfl]
        simp only [Bool.or_eq_true, decide_eq_true_eq, not_or, not_le] at hlen
        exact fun _ => ⟨hlen.2, h.noRun⟩
      · rw [State.modCapture_table, if_pos rfl]; exact fun e => nomatch e

/-- A run that stands between two of its frames. -/
theorem State.Filling.waiting {r : CaptureRun} (h : s.Filling r.cap r.wanted.length) :
    State.SlotsInOrder { s with cap := { s.cap with run := some r } } := by
  obtain ⟨hb, hn, ho, hr⟩ := h
  refine State.SlotsBut.inOrder (c := r.cap) ⟨hb.parted, hb.others, ?_, hb.bounded, ?_, hb.tags⟩ (fun e => absurd e ho)
    fun _ e => absurd rfl e
  · exact fun d hd hf _ => hb.freeEmpty d hd hf (by simp [hn])
  · rintro r' e; cases e; exact hr

theorem State.Filling.runOn {ws : List Half} (h : s.Filling c ws.length) (post : Nat) : (s.runOn c post ws).1.SlotsInOrder := by
  unfold State.runOn
  split
  · next he => rw [List.isEmpty_iff] at he; subst he; exact h.decideCapture post
  · exact State.Filling.waiting (r := ⟨c, ws, post, none⟩) h

theorem State.Filling.mono {m n : Nat} (h : s.Filling c n) (hmn : m ≤ n) : s.Filling c m :=
  ⟨h.but, h.noRun, h.notOpen, (Nat.add_le_add_left hmn _).trans h.room⟩

theorem State.Filling.missFrame {n : Nat} (h : s.Filling c n) : (s.missFrame c).Filling c n := by
  refine ⟨h.but.modCapture rfl, h.noRun, ?_, ?_⟩ <;> unfold State.missFrame <;> rw [State.modCapture_table, if_pos rfl]
  · exact h.notOpen
  · exact h.room

theorem State.Filling.freezeSlot {n : Nat} {l : Fin 32} {seq : Half} (h : s.Filling c (n + 1))
    (hl : s.asm.tags[s.cap.map[l]] = .complete seq) (hacc : s.NoSnoopAt l) : (s.freezeSlot c l seq).Filling c n := by
  have hroom := h.room
  have hb := h.but.freezeSlot hl hacc h.noRun (by omega)
  cases hspare : s.cap.spare with
  | nil =>
    have e : s.freezeSlot c l seq = s := by simp [State.freezeSlot, CaptureUnit.freezeSlot, hspare]
    rw [e]; exact h.mono (Nat.le_succ n)
  | cons q rest =>
    obtain ⟨-, -, e3, e4⟩ := CaptureUnit.freezeSlot_of_spare hspare c l seq
    refine ⟨hb, ?_, ?_, ?_⟩ <;> simp only [State.freezeSlot, e3, e4, vector_getElem_set_fin, if_true]
    · exact h.noRun
    · exact h.notOpen
    · simp only [List.length_append, List.length_singleton]; omega

theorem State.findComplete_some {seq : Half} {l : Fin 32} (h : s.findComplete seq = some l) :
    s.asm.tags[s.cap.map[l]] = .complete seq := by
  have := List.find?_some h
  simpa using this

/-- The oldest wanted frame taken: missed, frozen, left to wait, or the capture cut short (R127, R128). -/
theorem State.Filling.takeWanted {wanted : List Half} (h : s.Filling c wanted.length) (post : Nat) :
    (State.takeWanted c post wanted s).1.SlotsInOrder := by
  cases wanted with
  | nil => exact h.runOn post
  | cons w ws =>
    unfold State.takeWanted
    dsimp only
    split
    · exact (h.mono (Nat.le_succ _)).missFrame.runOn post
    · next l hl =>
      split
      · exact h.but.holdCapture true
      · split
        · exact State.Filling.waiting (r := ⟨c, w :: ws, post, some (l, s.cap.map[l])⟩) h
        · next hacc =>
          exact (h.freezeSlot (State.findComplete_some hl) (h.but.tags.noSnoopAt (by simpa using hacc))).runOn post

/-- The run that waits is taken in hand. -/
theorem State.SlotsInOrder.filling {r : CaptureRun} (h : s.SlotsInOrder) (hr : s.cap.run = some r) :
    State.Filling { s with cap := { s.cap with run := none } } r.cap r.wanted.length := by
  have hno := h.2.1.2 (by simp [hr])
  obtain ⟨hp, -, hfree, hbound, ht⟩ := h
  refine ⟨⟨hp, fun d _ => hno d, ?_, fun d => (hbound.1 d).1, fun _ e => (nomatch e), ht⟩, rfl, hno _, hbound.2 r hr⟩
  exact fun d hd hf _ => hfree d hf (by rw [hr]; exact fun e => hd (Option.some.inj e).symm)

theorem State.SlotsInOrder.continueRun {r : CaptureRun} (h : s.SlotsInOrder) (hr : s.cap.run = some r) :
    (s.continueRun r).1.SlotsInOrder := (h.filling hr).takeWanted r.post

theorem State.stillHolds_iff {l : Fin 32} {p : Fin 48} {seq : Half} :
    s.stillHolds l p seq = true ↔ s.asm.tags[p] = .complete seq ∧ s.cap.map[l] = p := by
  simp [State.stillHolds]

/-- The freeze that waits is made, or given up, when no access to its slot is in progress (R122). -/
theorem State.SlotsInOrder.resumeRun {r : CaptureRun} {l : Fin 32} {p : Fin 48} (h : s.SlotsInOrder)
    (hr : s.cap.run = some r) (hacc : s.accessTo p = false) : (s.resumeRun r l p).1.SlotsInOrder := by
  have hfill := h.filling hr
  unfold State.resumeRun
  dsimp only
  cases hw : r.wanted with
  | nil => rw [hw] at hfill; exact hfill.runOn r.post
  | cons w ws =>
    rw [hw] at hfill
    dsimp only
    split
    · next hs =>
      obtain ⟨htag, hmap⟩ := State.stillHolds_iff.mp hs
      split
      · exact hfill.but.holdCapture true
      · subst hmap
        exact (hfill.freezeSlot htag (hfill.but.tags.noSnoopAt hacc)).runOn r.post
    · exact (hfill.mono (Nat.le_succ _)).missFrame.runOn r.post

theorem CaptureUnit.find_some {u : CaptureUnit} {st : CapState} (h : u.find st = some c) : u.table[c].state = st := by
  have := List.find?_some h
  simpa using this

theorem CaptureUnit.find_none {u : CaptureUnit} {st : CapState} (h : u.find st = none) (d : Fin 4) :
    u.table[d].state ≠ st := by
  have := List.find?_eq_none.mp h d (List.mem_finRange d)
  simpa using this

theorem wantedFrames_length (t : Trigger) (latest : Option Half) : (wantedFrames t latest).length ≤ frameListMax := by
  unfold wantedFrames
  simp

/-- A trigger taken: it joins, begins a run, or is refused (R125, R131). -/
theorem State.SlotsInOrder.takeTrigger (h : s.SlotsInOrder) (hrun : s.cap.run = none) (t : Trigger) :
    (s.takeTrigger t).1.SlotsInOrder := by
  unfold State.takeTrigger
  split
  · next c hc =>
    have hopen := CaptureUnit.find_some hc
    have hjoin : (s.cap.table[c].join t).frames = s.cap.table[c].frames ∧ (s.cap.table[c].join t).state = .opened := by
      unfold Capture.join
      dsimp only
      split <;> exact ⟨rfl, hopen⟩
    refine ((h.but_of_opened hopen).modCapture (f := fun e => e.join t) hjoin.1).inOrder ?_ ?_ <;>
      rw [State.modCapture_table, if_pos rfl]
    · exact fun _ => ⟨hjoin.1 ▸ (h.2.2.2.1.1 c).2 hopen, hrun⟩
    · exact fun e => absurd (hjoin.2.symm.trans e) (by decide)
  · next hno =>
    have hclosed := CaptureUnit.find_none hno
    split
    · exact h.of_touches (State.raise_touches s _) (by decide) (by decide) (by decide)
    · next c hc =>
      have hempty : s.cap.table[c].frames = [] := h.2.2.1 c (CaptureUnit.find_some hc) (by simp [hrun])
      have hfill : (s.modCapture c fun _ => Capture.opening t).Filling c (wantedFrames t s.cap.latest).length := by
        refine ⟨(h.but fun d _ => hclosed d).modCapture hempty.symm, hrun, ?_, ?_⟩ <;>
          rw [State.modCapture_table, if_pos rfl]
        · exact fun e => nomatch e
        · simpa [Capture.opening] using wantedFrames_length t s.cap.latest
      have := hfill.takeWanted t.post
      split <;> (next he => rw [he] at this; exact this)

/-! ## The OPEN capture (R130, R134) -/

/-- A frame frozen for the OPEN capture. -/
theorem State.SlotsInOrder.freezePost {l : Fin 32} {seq : Half} (h : s.SlotsInOrder)
    (hl : s.asm.tags[s.cap.map[l]] = .complete seq) (hacc : s.NoSnoopAt l) : (s.freezePost l seq).SlotsInOrder := by
  unfold State.freezePost
  split
  · exact h
  · next c hc =>
    have hopen := CaptureUnit.find_some hc
    have hrun := h.run_none hopen
    have hbut := h.but_of_opened hopen
    split
    · exact hbut.holdCapture true
    · have hfroz := (hbut.freezeSlot hl hacc hrun ((h.2.2.2.1.1 c).2 hopen)).modCapture
        (f := fun e => { e with remaining := e.remaining - 1 }) rfl
      unfold State.afterPostFreeze
      dsimp only
      split
      · exact hfroz.holdCapture false
      · next hlen =>
        split
        · exact hfroz.holdCapture true
        · simp only [Bool.or_eq_true, decide_eq_true_eq, not_or, not_le] at hlen
          have hrun' : ((s.freezeSlot c l seq).modCapture c fun e => { e with remaining := e.remaining - 1 }).cap.run = none := by
            show (s.cap.freezeSlot c l seq).run = none
            unfold CaptureUnit.freezeSlot
            split <;> exact hrun
          have hstate : (s.freezeSlot c l seq).cap.table[c].state = .opened := by
            show (s.cap.freezeSlot c l seq).table[c].state = .opened
            unfold CaptureUnit.freezeSlot
            split
            · exact hopen
            · rw [CaptureUnit.modEntry_table, if_pos rfl]; exact hopen
          refine hfroz.inOrder (fun _ => ⟨hlen.2, hrun'⟩) ?_
          rw [State.modCapture_table, if_pos rfl]
          exact fun e => absurd (hstate.symm.trans e) (by decide)

/-- A waiting freeze of a post-frame forgotten. -/
theorem State.SlotsInOrder.setPost (h : s.SlotsInOrder) (x : Option PostFreeze) :
    State.SlotsInOrder { s with cap := { s.cap with post := x } } := h

theorem State.SlotsInOrder.resumePost {p : PostFreeze} (h : s.SlotsInOrder) (hacc : s.accessTo p.phys = false) :
    (s.resumePost p).SlotsInOrder := by
  have h1 := h.setPost none
  unfold State.resumePost
  dsimp only
  split
  · next hs =>
    obtain ⟨htag, hmap⟩ := State.stillHolds_iff.mp hs
    rw [← hmap] at hacc
    simp only [← hmap] at htag
    exact h1.freezePost htag (h1.2.2.2.2.noSnoopAt hacc)
  · exact h1

theorem State.SlotsInOrder.makePost (h : s.SlotsInOrder) (hw : s.postWaits = false) : s.makePost.SlotsInOrder := by
  unfold State.makePost
  split
  · exact h
  · next p hp => exact h.resumePost (by simpa [State.postWaits, hp] using hw)

theorem State.SlotsInOrder.closeOpenCapture (h : s.SlotsInOrder) : s.closeOpenCapture.SlotsInOrder := by
  unfold State.closeOpenCapture
  split
  · exact h
  · next c hc => exact (h.but_of_opened (CaptureUnit.find_some hc)).holdCapture true

end

/-! ## Release and reset (R135, R136) -/

@[simp] theorem Assembler.setTag_assembly (a : Assembler) (p : Fin 48) (t : ContentTag) :
    (a.setTag p t).assembly = a.assembly := rfl

theorem Assembler.setTag_tags (a : Assembler) (p q : Fin 48) (t : ContentTag) :
    (a.setTag p t).tags[q] = if q = p then t else a.tags[q] := vector_getElem_set_fin _ _ _ _

theorem Assembler.emptyTags_tags (a : Assembler) (ps : List (Fin 48)) (q : Fin 48) :
    (a.emptyTags ps).tags[q] = if q ∈ ps then .empty else a.tags[q] := by
  induction ps generalizing a with
  | nil => simp [Assembler.emptyTags]
  | cons p ps ih =>
    have e : a.emptyTags (p :: ps) = (a.setTag p .empty).emptyTags ps := rfl
    rw [e, ih, Assembler.setTag_tags]
    by_cases h1 : q ∈ ps <;> by_cases h2 : q = p <;> simp [h1, h2]

theorem Assembler.emptyTags_assembly (a : Assembler) (ps : List (Fin 48)) : (a.emptyTags ps).assembly = a.assembly := by
  induction ps generalizing a with
  | nil => rfl
  | cons p ps ih => exact ih (a.setTag p .empty)

section
variable {s t : State}

/-- A release moves the frame list of an entry to the tail of the spare list (R135). -/
theorem State.releaseCapture_places (s : State) (c : Fin 4) : (s.releaseCapture c).cap.places.Perm s.cap.places := by
  have htab := vector_flatMap_set_perm s.cap.table c {} fun e => e.frames.map (·.2)
  rw [List.perm_iff_count] at htab ⊢
  intro p
  have h := htab p
  simp only [List.map_nil, List.append_nil, List.count_append] at h
  simp only [State.releaseCapture, CaptureUnit.places, CaptureUnit.modEntry, List.count_append]
  omega

theorem State.SlotsInOrder.releaseCapture (h : s.SlotsInOrder) (c : Fin 4) : (s.releaseCapture c).SlotsInOrder := by
  have hparted : (s.releaseCapture c).cap.Partitioned := h.1.of_perm (s.releaseCapture_places c)
  have htab (d : Fin 4) : (s.releaseCapture c).cap.table[d] = if d = c then {} else s.cap.table[d] :=
    vector_getElem_set_fin _ _ _ _
  have htag (q : Fin 48) : (s.releaseCapture c).asm.tags[q]
      = if q ∈ s.cap.table[c].frames.map (·.2) then .empty else s.asm.tags[q] := Assembler.emptyTags_tags _ _ _
  have hspare : (s.releaseCapture c).cap.spare = s.cap.spare ++ s.cap.table[c].frames.map (·.2) := rfl
  have hmap : (s.releaseCapture c).cap.map = s.cap.map := rfl
  obtain ⟨-, ho, hf, hb, hs, hfr, ha, hbus⟩ := h
  have hopen {d : Fin 4} (hd : (s.releaseCapture c).cap.table[d].state = .opened) : s.cap.table[d].state = .opened := by
    rw [htab] at hd; split at hd
    · cases hd
    · exact hd
  refine ⟨hparted, ⟨fun d e hd he => ho.1 d e (hopen hd) (hopen he), fun hrun d hd => ho.2 hrun d (hopen hd)⟩, ?_,
    ⟨fun d => ⟨?_, fun hd => ?_⟩, ?_⟩, ?_, ?_, ?_, ?_⟩
  · intro d hd hne
    rw [htab] at hd ⊢
    split
    · rfl
    · next hdc => rw [if_neg hdc] at hd; exact hf d hd hne
  · rw [htab]; split
    · exact Nat.zero_le _
    · exact (hb.1 d).1
  · have := hopen hd
    rw [htab]; split
    · exact Nat.succ_pos _
    · exact (hb.1 d).2 this
  · intro r hr
    have hroom := hb.2 r hr
    rw [htab]; split
    · exact (Nat.add_le_add_right (Nat.zero_le _) _).trans hroom
    · exact hroom
  · intro p hp
    rw [htag]
    split
    · rfl
    · next hn =>
      rw [hspare, List.mem_append] at hp
      exact hs p (hp.resolve_right hn)
  · intro d f hfd
    rw [htag]
    have hne : f.2 ∉ s.cap.table[c].frames.map (·.2) := fun hm =>
      hparted.spare_ne_frame (by rw [hspare]; exact List.mem_append_right _ hm) hfd rfl
    rw [if_neg hne]
    rw [htab] at hfd
    split at hfd
    · cases hfd
    · exact hfr d f hfd
  · intro x hx
    obtain ⟨h1, h2⟩ := ha x ((Assembler.emptyTags_assembly _ _).symm.trans hx)
    refine ⟨h1, ?_⟩
    have hne : x.phys ∉ s.cap.table[c].frames.map (·.2) := fun hm =>
      hparted.map_notMem_spare x.slot (by
        rw [hspare, hmap, h1]; exact List.mem_append_right _ hm)
    rw [htag, if_neg hne]
    exact h2
  · exact hbus

/-- A Capture Unit and a Frame Assembler fresh from a reset, with no snooped access in progress, are in order. -/
theorem State.slotsInOrder_of_reset (hcap : s.cap = {}) (htags : s.asm.tags = Vector.replicate 48 .empty)
    (hassembly : s.asm.assembly = none) (hbus : ∀ b, s.path.bus = some b → b.snooped = false) : s.SlotsInOrder := by
  have htab (c : Fin 4) : s.cap.table[c] = {} := by rw [hcap]; exact Vector.getElem_replicate ..
  unfold State.SlotsInOrder CaptureUnit.Partitioned CaptureUnit.OneOpen CaptureUnit.FreeEmpty CaptureUnit.FramesBounded
    State.TagsAgree
  simp only [htab]
  refine ⟨?_, ⟨?_, ?_⟩, ?_, ⟨?_, ?_⟩, ?_, ?_, ?_, ?_⟩
  · rw [hcap]; decide
  · exact fun c d hc => nomatch hc
  · exact fun _ _ hc => nomatch hc
  · exact fun _ _ _ => trivial
  · exact fun _ => ⟨Nat.zero_le _, fun hc => nomatch hc⟩
  · rw [hcap]; exact fun _ hr => nomatch hr
  · intro p _; rw [htags]; exact Vector.getElem_replicate ..
  · exact fun _ _ hf => nomatch hf
  · rw [hassembly]; exact fun _ hx => nomatch hx
  · intro b l p i hb hsn; rw [hbus b hb] at hsn; cases hsn

/-! ## The Frame Assembler (R20 to R24) -/

/-- The tags of mapped slots change, and an assembly stands in a slot mapped to it. -/
theorem State.SlotsInOrder.setAsm (h : s.SlotsInOrder) (a : Assembler)
    (htags : ∀ q : Fin 48, (∀ l : Fin 32, s.cap.map[l] ≠ q) → a.tags[q] = s.asm.tags[q])
    (hassembly : ∀ x, a.assembly = some x → s.cap.map[x.slot] = x.phys ∧ a.tags[x.phys] = .assembling) :
    State.SlotsInOrder { s with asm := a } := by
  obtain ⟨hp, ho, hf, hb, hs, hfr, -, hbus⟩ := h
  refine ⟨hp, ho, hf, hb, ?_, ?_, hassembly, hbus⟩
  · intro p hps
    exact (htags p fun l e => hp.map_notMem_spare l (e ▸ hps)).trans (hs p hps)
  · intro c f hfc
    exact (htags f.2 fun l e => hp.map_ne_frame l hfc e.symm).trans (hfr c f hfc)

/-- An Assembler that keeps its tags and its assembly. -/
theorem State.SlotsInOrder.asm_agree (h : s.SlotsInOrder) {a : Assembler} (htags : a.tags = s.asm.tags)
    (hassembly : a.assembly = s.asm.assembly) : State.SlotsInOrder { s with asm := a } :=
  h.of_agree rfl htags hassembly (.inl rfl)

@[simp] theorem Assembler.modAccount_tags (a : Assembler) (n : Word) (f : Account → Account) :
    (a.modAccount n f).tags = a.tags := rfl
@[simp] theorem Assembler.modAccount_assembly (a : Assembler) (n : Word) (f : Account → Account) :
    (a.modAccount n f).assembly = a.assembly := rfl
@[simp] theorem Assembler.modAccount_position (a : Assembler) (n : Word) (f : Account → Account) :
    (a.modAccount n f).position = a.position := rfl

@[simp] theorem Assembler.chargeLost_tags (a : Assembler) (tag : FrameTag) (n : Nat) : (a.chargeLost tag n).tags = a.tags := by
  unfold Assembler.chargeLost
  dsimp only
  split <;> rfl
@[simp] theorem Assembler.chargeLost_assembly (a : Assembler) (tag : FrameTag) (n : Nat) :
    (a.chargeLost tag n).assembly = a.assembly := by
  unfold Assembler.chargeLost
  dsimp only
  split <;> rfl
@[simp] theorem Assembler.chargeLost_position (a : Assembler) (tag : FrameTag) (n : Nat) :
    (a.chargeLost tag n).position = a.position := by
  unfold Assembler.chargeLost
  dsimp only
  split <;> rfl

theorem Assembler.tearFrame_tags (a : Assembler) (x : Assembly) (q : Fin 48) :
    (a.tearFrame x).tags[q] = if q = x.phys then .disturbed else a.tags[q] := by
  have e : (a.tearFrame x).tags = ((a.chargeLost x.tag 1).tags).set x.phys .disturbed := rfl
  rw [e, Assembler.chargeLost_tags]
  exact vector_getElem_set_fin _ _ _ _

@[simp] theorem Assembler.tearFrame_assembly (a : Assembler) (x : Assembly) : (a.tearFrame x).assembly = none := rfl

@[simp] theorem Assembler.tearFrame_position (a : Assembler) (x : Assembly) : (a.tearFrame x).position = a.position :=
  Assembler.chargeLost_position a x.tag 1

theorem State.SlotsInOrder.assembly_mapped (h : s.SlotsInOrder) {x : Assembly} (hx : s.asm.assembly = some x) :
    s.cap.map[x.slot] = x.phys ∧ s.asm.tags[x.phys] = .assembling := h.2.2.2.2.2.2.1 x hx

theorem State.SlotsInOrder.tearFrame (h : s.SlotsInOrder) {x : Assembly} (hx : s.asm.assembly = some x) :
    State.SlotsInOrder { s with asm := s.asm.tearFrame x } := by
  refine h.setAsm _ (fun q hq => ?_) fun y hy => (nomatch hy)
  rw [Assembler.tearFrame_tags, if_neg fun e => hq x.slot ((h.assembly_mapped hx).1.trans e.symm)]

/-- A header begins an assembly in the slot that its write reached (R20). -/
theorem State.SlotsInOrder.headerWrite (h : s.SlotsInOrder) {l : Fin 32} {p : Fin 48} (hl : s.cap.map[l] = p) (w : Word)
    (between : Bool) : (s.headerWrite l p w between).SlotsInOrder := by
  have hbegin (a : Assembler) (ha : ∀ q : Fin 48, (∀ l : Fin 32, s.cap.map[l] ≠ q) → a.tags[q] = s.asm.tags[q]) :
      State.SlotsInOrder { s with asm := (a.setTag p .assembling).put (some (newAssembly l p w (s.frameTag between))) } := by
    refine h.setAsm _ (fun q hq => ?_) ?_
    · have e := Assembler.setTag_tags a p q .assembling
      rw [if_neg fun e => hq l (hl.trans e.symm)] at e
      exact e.trans (ha q hq)
    · rintro x hx
      cases hx
      exact ⟨hl, (Assembler.setTag_tags a p p .assembling).trans (if_pos rfl)⟩
  unfold State.headerWrite
  dsimp only
  split
  · exact hbegin _ fun q _ => rfl
  · next x hx =>
    refine hbegin _ fun q hq => ?_
    rw [Assembler.tearFrame_tags, if_neg fun e => hq x.slot ((h.assembly_mapped hx).1.trans e.symm)]

/-- A stray write disturbs a mapped slot in which no assembly stands (R23). -/
theorem State.SlotsInOrder.stray (h : s.SlotsInOrder) {l : Fin 32} {p : Fin 48} (hl : s.cap.map[l] = p)
    (hx : ∀ x, s.asm.assembly = some x → x.slot ≠ l) : (s.stray p).SlotsInOrder := by
  have hdist : State.SlotsInOrder { s with asm := s.asm.setTag p .disturbed } := by
    refine h.setAsm _ (fun q hq => ?_) fun x e => ?_
    · rw [Assembler.setTag_tags, if_neg fun e => hq l (hl.trans e.symm)]
    · obtain ⟨h1, h2⟩ := h.assembly_mapped e
      refine ⟨h1, ?_⟩
      rw [Assembler.setTag_tags, if_neg fun e' => hx x e (h.1.map_injective (h1.trans (e'.trans hl.symm)))]
      exact h2
  unfold State.stray
  dsimp only
  split
  · exact hdist.asm_agree rfl rfl
  · exact hdist

theorem State.SlotsInOrder.markTorn (h : s.SlotsInOrder) : State.SlotsInOrder { s with asm := s.asm.markTorn } := by
  refine h.setAsm _ (fun q _ => rfl) fun x hx => ?_
  unfold Assembler.markTorn at hx
  cases ha : s.asm.assembly with
  | none => simp [ha] at hx
  | some y =>
    simp only [ha, Option.map_some, Option.some.injEq] at hx
    subst hx
    have := h.assembly_mapped ha
    exact this

/-- The sequence check leaves the captures, the tags, the assembly and the stream position alone. -/
theorem State.sequenceCheck_keeps (s : State) (x : Assembly) :
    (s.sequenceCheck x).cap = s.cap ∧ (s.sequenceCheck x).path = s.path ∧ (s.sequenceCheck x).asm.tags = s.asm.tags
      ∧ (s.sequenceCheck x).asm.assembly = s.asm.assembly ∧ (s.sequenceCheck x).asm.position = s.asm.position := by
  unfold State.sequenceCheck
  split
  · simp
  · dsimp only
    split
    · split <;> simp
    · simp [Assembler.addPending]

theorem State.SlotsInOrder.sequenceCheck (h : s.SlotsInOrder) (x : Assembly) : (s.sequenceCheck x).SlotsInOrder := by
  obtain ⟨hcap, hpath, htags, hassembly, -⟩ := s.sequenceCheck_keeps x
  exact h.of_agree hcap htags hassembly (.inl (by rw [hpath]))

/-- A trailer completes the frame, which can be frozen at once, or tears it (R24, R130). -/
theorem State.SlotsInOrder.trailer (h : s.SlotsInOrder) {x : Assembly} (hx : s.asm.assembly = some x)
    (hbus : s.path.bus = none) (w : Word) (later : Bool) : (s.trailer x w later).SlotsInOrder := by
  unfold State.trailer
  split
  · obtain ⟨hm, -⟩ := h.assembly_mapped hx
    have htag (q : Fin 48) : (s.asm.setTag x.phys (.complete x.seq)).tags[q]
        = if q = x.phys then .complete x.seq else s.asm.tags[q] := Assembler.setTag_tags _ _ _ _
    have hdone : State.SlotsInOrder { s with
        asm := (s.asm.setTag x.phys (.complete x.seq)).put none, cap := { s.cap with latest := some x.seq } } := by
      have := h.setAsm ((s.asm.setTag x.phys (.complete x.seq)).put none)
        (fun q hq => (htag q).trans (if_neg fun e => hq x.slot (hm.trans e.symm))) fun y hy => (nomatch hy)
      exact this
    refine State.SlotsInOrder.sequenceCheck ?_ x
    unfold State.postFrame
    split
    · exact hdone.setPost _
    · refine hdone.freezePost ?_ fun b _ _ _ hb => ?_
      · exact (htag _).trans (if_pos hm)
      · exact absurd (hbus.symm.trans hb) (by simp)
  · exact h.tearFrame hx

/-- A snooped sample write that reached the physical slot of its logical slot (R8, R20 to R24). -/
theorem State.SlotsInOrder.assembleWrite (h : s.SlotsInOrder) {l : Fin 32} {p : Fin 48} (hl : s.cap.map[l] = p)
    (hbus : s.path.bus = none) (i : Fin 128) (lanes : Lanes) (w : Word) (later between : Bool) :
    (s.assembleWrite l p i lanes w later between).SlotsInOrder := by
  unfold State.assembleWrite
  split
  · split
    · exact h.headerWrite hl w between
    · split
      · next x hx =>
        split
        · unfold State.fullWrite
          split
          · exact h.trailer hx hbus w later
          · refine h.setAsm _ (fun _ _ => rfl) fun y hy => ?_
            cases hy
            have := h.assembly_mapped hx
            exact this
        · next hne => exact h.stray hl fun y hy => by rw [hx] at hy; cases hy; exact hne
      · next hx => exact h.stray hl fun y hy => absurd (hx.symm.trans hy) (by simp)
  · have ht := h.markTorn
    dsimp only
    split
    · next x hx =>
      split
      · exact ht
      · next hne => exact ht.stray hl fun y hy => by simp [Assembler.markTorn, hx] at hy; subst hy; exact hne
    · next hx => exact ht.stray hl fun y hy => by simp [Assembler.markTorn, hx] at hy

/-! ## Receipt of an access (R5, R8) -/

theorem evidenceRead_ne_sample (t : WindowTable) (u : CaptureUnit) (d m : Nat) (l : Fin 32) (p : Fin 48) (i : Fin 128)
    (sn : Bool) : evidenceRead t u d ≠ .toMemory m (.sample l p i) sn := by
  unfold evidenceRead
  dsimp only
  split <;> exact fun h => nomatch h

/-- Only an access translated through the Slot Map is a sample access, and it reaches the slot mapped (R5). -/
theorem treatment_sample {t : WindowTable} {u : CaptureUnit} {a m : Nat} {write sn : Bool} {l : Fin 32} {p : Fin 48}
    {i : Fin 128} (h : treatment t u a write = .toMemory m (.sample l p i) sn) : u.map[l] = p := by
  unfold treatment at h
  split_ifs at h
  · cases h; rfl
  · exact absurd h (evidenceRead_ne_sample _ _ _ _ _ _ _ _)
  all_goals cases h

/-- A sample access snooped at its receipt reached the physical slot mapped then. -/
theorem State.SlotsInOrder.receive (h : s.SlotsInOrder) (a : Addr) (op : BusOp) : (s.receive a op).SlotsInOrder := by
  have hpath (x : PathUnit) (hb : x.bus = s.path.bus) : State.SlotsInOrder { s with path := x } :=
    h.of_agree rfl rfl rfl (.inl hb)
  unfold State.receive
  split
  · exact hpath _ rfl
  · exact hpath _ rfl
  · next m place sn hsort =>
    obtain ⟨hp, ho, hf, hb, hs, hfr, ha, -⟩ := h
    refine ⟨hp, ho, hf, hb, hs, hfr, ha, ?_⟩
    rintro b l p i e hsn hplace
    cases e
    dsimp only at hplace hsn
    subst hplace
    unfold State.sort at hsort
    split at hsort
    · cases hsort
    · exact treatment_sample hsort

end

end Sys2Proof.Machine
end

section
/-! PROOFS. The invariants that a step keeps, carried through the model's operations together. `Keeps s t` says that each of
them that holds in `s` holds in `t`; `Orderly` adds that queue and EXECUTING slot stay as they are, and `Ordinary` that no
zone leaves CRACKED. One lemma for each field says when an update of it is ordinary. -/

namespace Sys2Proof.Machine

/-- A zone that is CRACKED in `s` is so in `t`. -/
def State.CrackedKept (s t : State) : Prop :=
  ∀ z r, s.zone.record? z = some r → r.state = .cracked → ∃ r', t.zone.record? z = some r' ∧ r'.state = .cracked

/-- Each invariant of `s` is one of `t`, and the stream position does not go back. -/
structure Keeps (s t : State) : Prop where
  slots : s.SlotsInOrder → t.SlotsInOrder := by exact id
  settings : s.SettingsInRange → t.SettingsInRange := by exact fun h => { h with }
  queue : s.QueueBounded → t.QueueBounded := by exact id
  ring : s.SettingsInRange → s.RingInRange → t.RingInRange := by exact fun _ h => h
  executing : s.OneExecuting → t.OneExecuting := by exact id
  waits : s.WaitsOrdinary → t.WaitsOrdinary := by exact id
  zones : s.ZonesInRange → t.ZonesInRange := by exact id
  events : s.EventsBounded → t.EventsBounded := by exact id
  channels : s.SettingsInRange → s.ChannelsInRange → t.ChannelsInRange := by exact fun _ h => h
  position : s.asm.position ≤ positionTop → s.asm.position ≤ t.asm.position ∧ t.asm.position ≤ positionTop := by
    exact fun h => ⟨Nat.le_refl _, h⟩

/-- The same command executes and the same commands wait. -/
structure Orderly (s t : State) : Prop extends Keeps s t where
  sameQueue : t.cmd.queue = s.cmd.queue := by rfl
  sameSlot : t.cmd.exec.map (·.slot) = s.cmd.exec.map (·.slot) := by rfl

/-- Work within a command or beside it. -/
structure Ordinary (s t : State) : Prop extends Orderly s t where
  noMould : s.mouldBusy = false → t.mouldBusy = false := by exact id
  cracked : s.mouldBusy = false → s.CrackedKept t := by exact fun _ _ r h hc => ⟨r, h, hc⟩

section
variable {s t u : State}

theorem Keeps.refl (s : State) : Keeps s s := {}
theorem Orderly.refl (s : State) : Orderly s s := {}
theorem Ordinary.refl (s : State) : Ordinary s s := {}

theorem Keeps.trans (h : Keeps s t) (k : Keeps t u) : Keeps s u where
  slots hs := k.slots (h.slots hs)
  settings hs := k.settings (h.settings hs)
  queue hs := k.queue (h.queue hs)
  ring hs hr := k.ring (h.settings hs) (h.ring hs hr)
  executing hs := k.executing (h.executing hs)
  waits hs := k.waits (h.waits hs)
  zones hs := k.zones (h.zones hs)
  events hs := k.events (h.events hs)
  channels hs hc := k.channels (h.settings hs) (h.channels hs hc)
  position hs := by
    obtain ⟨h1, h2⟩ := h.position hs
    obtain ⟨h3, h4⟩ := k.position h2
    exact ⟨h1.trans h3, h4⟩

theorem Orderly.trans (h : Orderly s t) (k : Orderly t u) : Orderly s u where
  toKeeps := h.toKeeps.trans k.toKeeps
  sameQueue := k.sameQueue.trans h.sameQueue
  sameSlot := k.sameSlot.trans h.sameSlot

theorem Ordinary.trans (h : Ordinary s t) (k : Ordinary t u) : Ordinary s u where
  toOrderly := h.toOrderly.trans k.toOrderly
  noMould hs := k.noMould (h.noMould hs)
  cracked hs z r hz hc := by
    obtain ⟨r', hz', hc'⟩ := h.cracked hs z r hz hc
    exact k.cracked (h.noMould hs) z r' hz' hc'

/-- Composition read from the last operation backward. -/
theorem Ordinary.after (k : Ordinary t u) (h : Ordinary s t) : Ordinary s u := h.trans k

theorem Ordinary.ite {p : Prop} [Decidable p] (h : Ordinary s t) (k : Ordinary s u) : Ordinary s (if p then t else u) := by
  split <;> assumption

theorem Ordinary.fold {α : Type} {g : State → α → State} (h : ∀ s a, Ordinary s (g s a)) :
    ∀ (l : List α) (s : State), Ordinary s (l.foldl g s)
  | [], s => Ordinary.refl s
  | a :: l, s => (h s a).trans (Ordinary.fold h l (g s a))

/-- While a MOULD CHANGE stands before its last step, no zone need stay CRACKED. -/
theorem Orderly.ordinary_of_mouldBusy (h : Orderly s t) (hb : s.mouldBusy = true) : Ordinary s t where
  toOrderly := h
  noMould hn := by rw [hb] at hn; cases hn
  cracked hn := by rw [hb] at hn; cases hn

end

/-! ## Updates of one field -/

section
variable {s : State}

theorem Ordinary.pending (c : List Instr) : Ordinary s { s with pending := c } := {}
theorem Ordinary.mem (m : Memory) : Ordinary s { s with mem := m } := {}
theorem Ordinary.status (x : StatusUpdate) : Ordinary s { s with status := x } := {}
theorem Ordinary.clock (n : Nat) : Ordinary s { s with clock := n } := {}
theorem Ordinary.free (n : Nat) : Ordinary s { s with free := n } := {}
theorem Ordinary.aq (q : AnalysisQueue) : Ordinary s { s with aq := q } := {}

/-- The access in progress stays or ends; path state and windows stay. -/
theorem Ordinary.path {x : PathUnit} (hstate : x.state = s.path.state) (hwindows : x.windows = s.path.windows)
    (hbus : x.bus = s.path.bus ∨ x.bus = none) : Ordinary s { s with path := x } where
  slots h := h.of_agree rfl rfl rfl hbus
  settings h := { h with
    windows := fun t ht => h.windows t (hwindows ▸ ht)
    running := fun hr => h.running (hstate ▸ hr) }
  ring _ h t ht := h t (hwindows ▸ ht)

theorem Ordinary.iq {q : List Request} (h : s.QueueBounded → q.length ≤ queueCapacity) :
    Ordinary s { s with iq := q } where
  queue := h

theorem Ordinary.notice {n : NoticeUnit} (h : s.notice.InRange → n.InRange) : Ordinary s { s with notice := n } where
  settings hs := { hs with notices := h hs.notices }

theorem Ordinary.report {r : ReportWriter} (hp : r.p = s.report.p) (hc : r.c = s.report.c)
    (hpc : r.pendingC = s.report.pendingC) : Ordinary s { s with report := r } where
  ring _ h t ht := by
    obtain ⟨h1, h2, h3⟩ := h t ht
    exact ⟨hp ▸ h1, hc ▸ h2, hpc ▸ h3⟩

theorem Ordinary.asm {a : Assembler} (ht : a.tags = s.asm.tags) (ha : a.assembly = s.asm.assembly)
    (hp : a.position = s.asm.position) : Ordinary s { s with asm := a } where
  slots h := h.asm_agree ht ha
  position h := ⟨hp.ge, hp.trans_le h⟩

theorem Ordinary.lines {ls : Vector LineCond 5}
    (h : (∀ l ∈ s.lines.toList, within 1 8 l.settings.filter) → ∀ l ∈ ls.toList, within 1 8 l.settings.filter) :
    Ordinary s { s with lines := ls } where
  settings hs := { hs with filters := ⟨h hs.filters.1, hs.filters.2⟩ }

theorem Ordinary.tacho {x : TachoCell} (hb : bandInRange s.tacho.pmin s.tacho.pmax → bandInRange x.pmin x.pmax)
    (hf : within 1 8 s.tacho.settings.filter → within 1 8 x.settings.filter) : Ordinary s { s with tacho := x } where
  settings hs := { hs with band := hb hs.band, filters := ⟨hs.filters.1, hf hs.filters.2⟩ }

/-- The measurement of the tacho, its settings and band apart. -/
theorem Ordinary.tacho_same {x : TachoCell} (hlo : x.pmin = s.tacho.pmin) (hhi : x.pmax = s.tacho.pmax)
    (hs : x.settings = s.tacho.settings) : Ordinary s { s with tacho := x } :=
  .tacho (by rw [hlo, hhi]; exact id) (by rw [hs]; exact id)

/-- Programs only move from staged to active. -/
theorem Ordinary.gate {g : Sequencer} (ha : g.active = s.gate.active ∨ s.gate.staged ≠ none ∧ g.active = s.gate.staged)
    (hst : g.staged = s.gate.staged ∨ g.staged = none) : Ordinary s { s with gate := g } where
  settings hs := { hs with
    programs := by
      refine ⟨fun p hp => ?_, fun p hp => ?_⟩
      · obtain e | ⟨-, e⟩ := ha
        · exact hs.programs.1 p (e ▸ hp)
        · exact hs.programs.2 p (e ▸ hp)
      · obtain e | e := hst
        · exact hs.programs.2 p (e ▸ hp)
        · exact absurd (e.symm.trans hp) (by simp)
    running := fun hr => ⟨by
      obtain e | ⟨hne, e⟩ := ha
      · exact fun h => (hs.running hr).1 (e.symm.trans h)
      · exact fun h => hne (e.symm.trans h), (hs.running hr).2⟩ }

theorem Ordinary.det {d : Detectors}
    (hd : (s.det.settings.InRange ∧ ∀ x, s.det.pending = some x → x.InRange) →
      d.settings.InRange ∧ ∀ x, d.pending = some x → x.InRange)
    (hc : s.SettingsInRange → s.ChannelsInRange → ∀ ch ∈ d.chans.toList, ch.InRange) : Ordinary s { s with det := d } where
  settings hs := { hs with detector := hd hs.detector }
  channels := hc

/-- The channels, not their settings. -/
theorem Ordinary.chans {v : Vector Channel 4}
    (hc : s.SettingsInRange → s.ChannelsInRange → ∀ ch ∈ v.toList, ch.InRange) :
    Ordinary s { s with det := { s.det with chans := v } } := .det id hc

theorem Ordinary.ev {e : EventBuilder}
    (hr : (s.ev.settings.InRange ∧ ∀ x, s.ev.pending = some x → x.InRange) →
      e.settings.InRange ∧ ∀ x, e.pending = some x → x.InRange)
    (hb : s.EventsBounded → e.openEvents.length ≤ openMax ∧ ∀ x ∈ e.openEvents, (x.members.map (·.ch)).Nodup) :
    Ordinary s { s with ev := e } where
  settings hs := { hs with events := hr hs.events }
  events := hb

/-- The open events, not the settings of the Event Builder. -/
theorem Ordinary.openEvents {e : EventBuilder} (hs : e.settings = s.ev.settings) (hp : e.pending = s.ev.pending)
    (hb : s.EventsBounded → e.openEvents.length ≤ openMax ∧ ∀ x ∈ e.openEvents, (x.members.map (·.ch)).Nodup) :
    Ordinary s { s with ev := e } := .ev (by rw [hs, hp]; exact id) hb

theorem Ordinary.zone {z : ZoneTable} (hp : z.policy = s.zone.policy) (hm : z.mouldType = s.zone.mouldType)
    (hz : s.ZonesInRange → ∀ i r, z.record? i = some r → r.InRange)
    (hc : ∀ i r, s.zone.record? i = some r → r.state = .cracked → ∃ r', z.record? i = some r' ∧ r'.state = .cracked) :
    Ordinary s { s with zone := z } where
  settings hs := { hs with policy := hp ▸ hs.policy, mould := ⟨hm ▸ hs.mould.1, hs.mould.2⟩ }
  zones := hz
  cracked _ := hc

/-- The Zone Table but for its records. -/
theorem Ordinary.zone_records {z : ZoneTable} (hp : z.policy = s.zone.policy) (hm : z.mouldType = s.zone.mouldType)
    (hr : z.records = s.zone.records) : Ordinary s { s with zone := z } := by
  have e (i : Nat) : z.record? i = s.zone.record? i := by unfold ZoneTable.record?; rw [hr]
  exact .zone hp hm (fun h i r hi => h i r (e i ▸ hi)) fun i r hi hc => ⟨r, (e i).trans hi, hc⟩

/-- The stored profiles keep their number and stay in range. -/
theorem Ordinary.loader {l : Loader} (hph : l.phase = s.loader.phase)
    (hne : l.stored = [] ↔ s.loader.stored = [])
    (hst : profilesInRange s.loader.stored → profilesInRange l.stored) : Ordinary s { s with loader := l } where
  settings hs := { hs with
    profiles := fun h => hst (hs.profiles fun e => h (hne.mpr e))
    ready := fun cfg st e => hs.ready cfg st (hph ▸ e)
    running := fun hr => ⟨(hs.running hr).1, fun e => (hs.running hr).2 (hne.mp e)⟩ }

theorem Ordinary.cap {c : CaptureUnit} (h : s.SlotsInOrder → State.SlotsInOrder { s with cap := c }) :
    Ordinary s { s with cap := c } where
  slots := h

end

end Sys2Proof.Machine
end

section
/-! PROOFS. The operations of the Notice Unit, the Report Writer, the detectors, the Event Builder, the Zone Table and the press
blocks are ordinary work. -/

namespace Sys2Proof.Machine

/-! ## Notice Unit (R143 to R148) -/

section
variable {n : NoticeUnit}

theorem NoticeUnit.InRange.setLatch (h : n.InRange) (now : Nat) : (n.setLatch now).InRange := by
  unfold NoticeUnit.setLatch
  split <;> exact h

theorem NoticeUnit.InRange.raise (h : n.InRange) (f now : Nat) : (n.raise f now).InRange := by
  unfold NoticeUnit.raise
  split
  · exact h
  · dsimp only
    split
    · refine NoticeUnit.InRange.setLatch ?_ now; exact h
    · exact h

theorem NoticeUnit.InRange.setBatch (h : n.InRange) (k : BatchKind) {b : Batch} (hb : within 1 255 b.count) :
    (n.setBatch k b).InRange := by
  obtain ⟨h1, h2, h3, h4⟩ := h
  cases k
  · exact ⟨h1, hb, h3, h4⟩
  · exact ⟨h1, h2, hb, h4⟩

theorem NoticeUnit.InRange.batch (h : n.InRange) (k : BatchKind) : within 1 255 (n.batch k).count := by
  cases k
  · exact h.2.1
  · exact h.2.2.1

theorem NoticeUnit.InRange.control (h : n.InRange) (w : Word) (now : Nat) : (n.control w now).InRange := by
  unfold NoticeUnit.control
  dsimp only
  split
  · exact h
  · split
    · exact h
    · refine NoticeUnit.InRange.setLatch ?_ now; exact h

end

section
variable (s : State)

theorem State.raise_ordinary (f : Nat) : Ordinary s (s.raise f) := .notice fun h => h.raise f s.clock

theorem State.fireBatch_ordinary (k : BatchKind) : Ordinary s (s.fireBatch k) := by
  unfold State.fireBatch
  split
  · refine Ordinary.trans ?_ (State.raise_ordinary _ _)
    exact .notice fun h => h.setBatch k (h.batch k)
  · exact .refl s

theorem State.serveBatch_ordinary (k : BatchKind) : Ordinary s (s.serveBatch k) :=
  (s.fireBatch_ordinary k).trans (.notice fun h => h.setBatch k (h.batch k))

theorem State.loadBatch_ordinary (k : BatchKind) {count : Nat} (hc : within 1 255 count) :
    Ordinary s (s.loadBatch k count) :=
  (s.fireBatch_ordinary k).trans (.notice fun h => h.setBatch k hc)

/-! ## Status block and arbiter (R16, R141) -/

theorem State.markWhere_ordinary (p : Nat → Bool) : Ordinary s (s.markWhere p) := .status _

theorem State.noteChanges_ordinary (before : State) : Ordinary s (s.noteChanges before) := by
  unfold State.noteChanges
  split
  · exact .refl s
  · exact .status _

theorem State.settle_ordinary (t : State) : Ordinary t (s.settle t) := by
  refine (t.noteChanges_ordinary s).trans ?_
  show Ordinary _ (State.arbitrate _)
  unfold State.arbitrate
  split
  · exact .refl _
  · split
    · exact .refl _
    · exact .path rfl rfl (.inl rfl)

/-! ## The internal queue (R14, R15) -/

theorem State.hasRoom_iff : s.hasRoom = true ↔ s.iq.length < queueCapacity := by simp [State.hasRoom]

variable {s}

theorem State.place_ordinary (h : s.hasRoom = true) (r : Request) : Ordinary s (s.place r) := by
  refine .iq fun _ => ?_
  rw [List.length_append]
  exact (s.hasRoom_iff).mp h

theorem State.placeStatus_ordinary (ws : List Nat) (s : State) : Ordinary s (State.placeStatus ws s) := by
  induction ws generalizing s with
  | nil => exact .status _
  | cons w ws ih =>
    unfold State.placeStatus
    split
    · next hr =>
      refine Ordinary.trans ?_ (ih _)
      have hp := State.place_ordinary hr
      dsimp only
      split
      · exact (hp _).trans (.status _)
      · exact hp _
    · exact .status _

theorem State.beginUpdate_ordinary (s : State) : Ordinary s s.beginUpdate := by
  unfold State.beginUpdate
  exact (Ordinary.status _).trans (State.placeStatus_ordinary _ _)

theorem State.pumpStatus_ordinary (s : State) : Ordinary s s.pumpStatus := by
  unfold State.pumpStatus
  split
  · exact .refl s
  · exact State.placeStatus_ordinary _ s

end

/-! ## Report Writer (R138 to R140) -/

theorem State.handOver_ordinary (s : State) (r : Record) : Ordinary s (s.handOver r) := .report rfl rfl rfl

theorem State.placeWords_ordinary (ws : List Word) (a : Nat) (s : State) :
    Ordinary s (State.placeWords ws a s).1 ∧ (State.placeWords ws a s).1.report = s.report := by
  induction ws generalizing a s with
  | nil => exact ⟨.refl s, rfl⟩
  | cons w ws ih =>
    unfold State.placeWords
    split
    · next hr =>
      obtain ⟨h, e⟩ := ih (a + 4) (s.place ⟨a, .write w⟩)
      exact ⟨(State.place_ordinary hr _).trans h, e⟩
    · exact ⟨.refl s, rfl⟩

/-- With the 32nd word P advances modulo R, and an index that waited takes effect (R138). -/
theorem State.endRecord_ordinary (s : State) : Ordinary s s.endRecord where
  ring hs h t ht := by
    obtain ⟨h1, h2, h3⟩ := h t ht
    have e : s.windows.r = t.r := by unfold State.windows; rw [show s.path.windows = some t from ht]; rfl
    have hr : 0 < t.r := Nat.lt_of_le_of_lt (Nat.zero_le _) h1
    refine ⟨?_, ?_, fun n hn => nomatch hn⟩
    · show (s.report.p + 1) % s.windows.r < t.r
      rw [e]; exact Nat.mod_lt _ hr
    · show s.report.pendingC.getD s.report.c < t.r
      cases hp : s.report.pendingC with
      | none => exact h2
      | some n => exact h3 n hp

theorem State.pumpRecord_ordinary (s : State) : Ordinary s s.pumpRecord.1 := by
  unfold State.pumpRecord
  split
  · exact .refl s
  · next pl _ =>
    have h := State.placeWords_ordinary pl.words pl.addr s
    split
    · next s1 _ he => rw [he] at h; exact h.1.trans s1.endRecord_ordinary
    · next s1 _ _ _ he => rw [he] at h; exact h.1.trans (.report rfl rfl rfl)

theorem State.suppress_ordinary (s : State) : Ordinary s s.suppress := by
  have h (g : Nat) : Ordinary s { s with report := { s.report with gap := g } } := .report rfl rfl rfl
  unfold State.suppress
  dsimp only
  split
  · exact (h _).trans (State.raise_ordinary _ _)
  · exact h _

theorem State.takeRecord_ordinary (s : State) (r : Record) (rest : List Record) : Ordinary s (s.takeRecord r rest).1 := by
  have h (x : List Record) (p : Option Placing) : Ordinary s { s with report := { s.report with handed := x, placing := p } } :=
    .report rfl rfl rfl
  unfold State.takeRecord
  dsimp only
  split
  · exact (h rest s.report.placing).trans (State.suppress_ordinary _)
  · refine Ordinary.trans ?_ (State.pumpRecord_ordinary _)
    exact h _ _

/-- A consumer index is taken only if it lies below R (R138). -/
theorem State.takeConsumer_ordinary (s : State) (w : Word) : Ordinary s (s.takeConsumer w) := by
  unfold State.takeConsumer
  split
  · next hw =>
    have e {t : WindowTable} (ht : s.path.windows = some t) : w.toNat < t.r := by
      unfold State.windows at hw; rwa [ht] at hw
    split
    · exact { ring := fun _ h t ht => ⟨(h t ht).1, e ht, (h t ht).2.2⟩ }
    · exact { ring := fun _ h t ht => ⟨(h t ht).1, (h t ht).2.1, fun n hn => Option.some.inj hn ▸ e ht⟩ }
  · exact .refl s

/-! ## Hit Detectors: envelopes and floors (R61, R76, R78) -/

theorem rectify_le (x : BitVec 16) : rectify x ≤ 32767 := Nat.min_le_left _ _

/-- A rising envelope, in naturals (R61). -/
theorem envelopeStep_of_le {e a : Nat} (h : e ≤ a) (k : Nat) : envelopeStep e a k = e + (a - e) / 2 ^ k := by
  unfold envelopeStep
  have hdiv : ((a : Int) - e) / 2 ^ k = ((a - e) / 2 ^ k : Nat) := by push_cast [h]; rfl
  rw [hdiv, ← Int.natCast_add, Int.toNat_natCast]

theorem envelopeStep_le_of_lt {e a : Nat} (h : a < e) (k : Nat) : envelopeStep e a k ≤ e := by
  unfold envelopeStep
  have hneg : ((a : Int) - e) / 2 ^ k ≤ 0 := Int.ediv_nonpos_of_nonpos_of_neg (by omega) (by positivity)
  omega

/-- The envelope never reaches 32767 (R78). -/
theorem envelopeStep_le {e a k : Nat} (he : e ≤ 32766) (ha : a ≤ 32767) (hk : 1 ≤ k) : envelopeStep e a k ≤ 32766 := by
  by_cases h : e ≤ a
  · rw [envelopeStep_of_le h]
    have : (a - e) / 2 ^ k ≤ (a - e) / 2 ^ 1 := Nat.div_le_div_left (Nat.pow_le_pow_right (by decide) hk) (by decide)
    omega
  · exact (envelopeStep_le_of_lt (Nat.lt_of_not_le h) k).trans he

/-- A floor moves toward the least envelope and not beyond it (R76). -/
theorem floorStep_between (k n m : Nat) : min n m ≤ floorStep k n m ∧ floorStep k n m ≤ max n m := by
  unfold floorStep
  split
  · have : (m - n) / 2 ^ k ≤ m - n := Nat.div_le_self _ _
    generalize (m - n) / 2 ^ k = z at *
    omega
  · omega

theorem PerClass.mod_inRange {f : PerClass Nat} (h : floorsInRange f) (k : Cls) {g : Nat → Nat}
    (hg : ∀ n, n ≤ 32767 → g n ≤ 32767) : floorsInRange (f.mod k g) := by
  obtain ⟨ha, hb, hc, hu⟩ := h
  cases k
  · exact ⟨hg _ ha, hb, hc, hu⟩
  · exact ⟨ha, hg _ hb, hc, hu⟩
  · exact ⟨ha, hb, hg _ hc, hu⟩
  · exact ⟨ha, hb, hc, hg _ hu⟩

section
variable {ch : Channel} {d : DetSettings}

theorem Channel.InRange.step (h : ch.InRange) (hd : d.InRange) (p : Nat) (x : BitVec 16) (seq : Half) (cls : Cls)
    (cycle : Word) : (ch.step d p x seq cls cycle).1.InRange := by
  have he := envelopeStep_le h.1 (rectify_le x) hd.1.1
  exact ⟨he, (Nat.min_le_left _ _).trans h.2.1, h.2.2⟩

theorem Channel.InRange.beginFrame (h : ch.InRange) (d : DetSettings) (k : Cls) : (ch.beginFrame d k).InRange :=
  ⟨h.1, Nat.le_refl _, h.2.2⟩

theorem Channel.InRange.endFrame (h : ch.InRange) (d : DetSettings) (k : Cls) : (ch.endFrame d k).InRange := by
  unfold Channel.endFrame
  split
  · refine ⟨h.1, h.2.1, PerClass.mod_inRange h.2.2 k fun n hn => ?_⟩
    exact (floorStep_between _ _ _).2.trans (max_le hn h.2.1)
  · exact h

theorem Channel.InRange.raiseLatched (h : ch.InRange) (code : Nat) : (ch.raiseLatched code).InRange := by
  unfold Channel.raiseLatched
  split <;> exact h

theorem Channel.InRange.reload (h : ch.InRange) : ch.reload.InRange := ⟨Nat.zero_le _, Nat.zero_le _, h.2.2⟩

end

/-- Every channel of the state changed by an operation that keeps one in range. -/
theorem State.ChannelsInRange.map {s : State} (h : s.ChannelsInRange) {g : Channel → Channel}
    (hg : ∀ ch, ch.InRange → (g ch).InRange) : ∀ ch ∈ (s.det.chans.map g).toList, ch.InRange := by
  intro ch hch
  simp only [Vector.toList_map, List.mem_map] at hch
  obtain ⟨c, hc, rfl⟩ := hch
  exact hg c (h c hc)

theorem State.ChannelsInRange.chan {s : State} (h : s.ChannelsInRange) (c : Fin 4) : (s.det.chans[c]).InRange :=
  h _ (by simp)

theorem Vector.forall_mem_set {α : Type} {n : Nat} {v : Vector α n} {p : α → Prop} (h : ∀ x ∈ v.toList, p x) (i : Fin n)
    {x : α} (hx : p x) : ∀ y ∈ (v.set i x).toList, p y := by
  intro y hy
  rw [Vector.toList_set] at hy
  obtain hy | rfl := List.mem_or_eq_of_mem_set hy
  · exact h y hy
  · exact hx

theorem State.setChan_ordinary {s : State} {c : Fin 4} {ch : Channel}
    (h : s.SettingsInRange → (s.det.chans[c]).InRange → ch.InRange) : Ordinary s (s.setChan c ch) :=
  .chans fun hs hc => Vector.forall_mem_set hc c (h hs (hc.chan c))

theorem State.setChanState_ordinary (s : State) (c : Fin 4) (st : ChanState) : Ordinary s (s.setChanState c st) :=
  State.setChan_ordinary fun _ h => h

/-! ## Event Builder (R82 to R88) -/

/-- The members of the events that are left are those of events that were open. -/
theorem State.EventsBounded.map {s : State} (h : s.EventsBounded) {g : OpenEvent → OpenEvent}
    (hg : ∀ e, (g e).members.map (·.ch) = e.members.map (·.ch)) :
    (s.ev.openEvents.map g).length ≤ openMax ∧ ∀ e ∈ s.ev.openEvents.map g, (e.members.map (·.ch)).Nodup := by
  refine ⟨by rw [List.length_map]; exact h.1, fun e he => ?_⟩
  obtain ⟨x, hx, rfl⟩ := List.mem_map.mp he
  rw [hg]
  exact h.2 x hx

theorem OpenEvent.setMember_channels (e : OpenEvent) (c : Fin 4) (st : MemberState) :
    (e.setMember c st).members.map (·.ch) = e.members.map (·.ch) := by
  unfold OpenEvent.setMember
  rw [List.map_map]
  refine List.map_congr_left fun m _ => ?_
  simp only [Function.comp]
  split <;> rfl

theorem modFirst_length {α : Type} (p : α → Bool) (f : α → α) (l : List α) : (modFirst p f l).length = l.length := by
  induction l with
  | nil => rfl
  | cons x xs ih => unfold modFirst; split <;> simp [ih]

theorem mem_modFirst {α : Type} {p : α → Bool} {f : α → α} {l : List α} {y : α} (h : y ∈ modFirst p f l) :
    y ∈ l ∨ ∃ x, l.find? p = some x ∧ y = f x := by
  induction l with
  | nil => cases h
  | cons x xs ih =>
    unfold modFirst at h
    split at h
    · next hp =>
      obtain rfl | h := List.mem_cons.mp h
      · exact .inr ⟨x, by simp [hp], rfl⟩
      · exact .inl (List.mem_cons_of_mem _ h)
    · next hp =>
      obtain rfl | h := List.mem_cons.mp h
      · exact .inl List.mem_cons_self
      · obtain h | ⟨z, hz, rfl⟩ := ih h
        · exact .inl (List.mem_cons_of_mem _ h)
        · exact .inr ⟨z, by simp [hp, hz], rfl⟩

/-- A hit start adds one member at most, of a channel that has none (R82 to R84). -/
theorem State.hitStart_ordinary (s : State) (c : Fin 4) (t : Nat) (seq : Half) (cls : Cls) (cycle : Word) :
    Ordinary s (s.hitStart c t seq cls cycle) := by
  unfold State.hitStart
  split
  · next e he =>
    have hcoll (f : OpenEvent → OpenEvent) (hf : (e.members.map (·.ch)).Nodup → ((f e).members.map (·.ch)).Nodup)
        (hs : s.EventsBounded) : (s.ev.modCollecting f).openEvents.length ≤ openMax
          ∧ ∀ x ∈ (s.ev.modCollecting f).openEvents, (x.members.map (·.ch)).Nodup := by
      refine ⟨(modFirst_length ..).trans_le hs.1, fun x hx => ?_⟩
      obtain hx | ⟨y, hy, rfl⟩ := mem_modFirst hx
      · exact hs.2 x hx
      · have : y = e := Option.some.inj (hy.symm.trans he)
        subst this
        exact hf (hs.2 y (List.mem_of_find?_eq_some hy))
    split
    · exact .openEvents rfl rfl (hcoll _ id)
    · next hm =>
      refine .openEvents rfl rfl (hcoll _ fun hn => ?_)
      rw [List.map_append, List.nodup_append]
      refine ⟨hn, by simp, ?_⟩
      rintro a ha b hb rfl
      simp only [List.map_cons, List.map_nil, List.mem_singleton] at hb
      subst hb
      obtain ⟨m, hm', rfl⟩ := List.mem_map.mp ha
      exact hm (List.any_eq_true.mpr ⟨m, hm', by simp⟩)
  · split
    · next hlt =>
      refine .openEvents rfl rfl fun hs => ⟨?_, fun x hx => ?_⟩
      · show (s.ev.openEvents ++ [_]).length ≤ openMax
        rw [List.length_append]
        exact hlt
      · obtain hx | hx := List.mem_append.mp hx
        · exact hs.2 x hx
        · rw [List.mem_singleton.mp hx]
          exact List.nodup_singleton _
    · refine Ordinary.trans (t := { s with ev := s.ev.setAssign c .orphan }) (.openEvents rfl rfl id) ?_
      exact .asm rfl rfl rfl

theorem State.endMember_ordinary (s : State) (c : Fin 4) (st : MemberState) : Ordinary s (s.endMember c st) := by
  unfold State.endMember
  split
  · refine .openEvents rfl rfl fun hs => hs.map fun e => ?_
    split
    · exact e.setMember_channels c st
    · rfl
  · exact .openEvents rfl rfl id

/-- The open events changed without their members. -/
theorem State.mapEvents_ordinary (s : State) {g : OpenEvent → OpenEvent} (hg : ∀ e, (g e).members = e.members) :
    Ordinary s { s with ev := { s.ev with openEvents := s.ev.openEvents.map g } } :=
  .openEvents rfl rfl fun hs => hs.map fun e => by rw [hg]

theorem State.settleAll_ordinary (s : State) : Ordinary s { s with ev := s.ev.settleAll } :=
  s.mapEvents_ordinary fun _ => rfl

theorem State.check_ordinary (s : State) : Ordinary s { s with ev := s.ev.check } :=
  s.mapEvents_ordinary fun _ => rfl

theorem State.stopCollecting_ordinary (s : State) : Ordinary s { s with ev := s.ev.stopCollecting } :=
  s.mapEvents_ordinary fun _ => rfl

theorem State.gapPosition_ordinary (s : State) (q : Nat) : Ordinary s { s with ev := s.ev.gapPosition q } := by
  unfold EventBuilder.gapPosition
  split
  · exact s.stopCollecting_ordinary
  · exact .openEvents rfl rfl id

/-! ## The frame under analysis (R29, R30, R55 to R76) -/

theorem State.advance_ordinary (s : State) (n : Nat) : Ordinary s (s.advance n) where
  slots h := h.asm_agree rfl rfl
  position h := ⟨le_min h (Nat.le_add_right _ _), Nat.min_le_left _ _⟩

theorem State.applyPending_ordinary (s : State) : Ordinary s s.applyPending := by
  unfold State.applyPending
  extract_lets det src ev
  have hdet : Ordinary s { s with det := det } := by
    unfold det
    split
    · exact .det id fun _ h => h
    · next d hd =>
      exact .det (fun h => ⟨h.2 d hd, fun _ hx => nomatch hx⟩) fun _ h => h.map fun ch hch => hch.raiseLatched d.code
  refine hdet.trans ?_
  unfold ev
  split
  · exact .openEvents rfl rfl id
  · next e he => exact .ev (fun h => ⟨h.2 e he, fun _ hx => nomatch hx⟩) id

theorem State.gapChannel_ordinary (s : State) (c : Fin 4) : Ordinary s (s.gapChannel c) := by
  unfold State.gapChannel
  split
  · exact (s.setChanState_ordinary c _).trans (State.endMember_ordinary _ _ _)
  · exact s.setChanState_ordinary c _

theorem State.abandonChannel_ordinary (s : State) (c : Fin 4) : Ordinary s (s.abandonChannel c) := by
  unfold State.abandonChannel
  split
  · exact (s.setChanState_ordinary c _).trans (State.endMember_ordinary _ _ _)
  · exact s.setChanState_ordinary c _

theorem State.abandonAll_ordinary (s : State) : Ordinary s s.abandonAll :=
  (Ordinary.fold State.abandonChannel_ordinary _ s).trans (State.settleAll_ordinary _)

theorem State.setPhase_ordinary (s : State) (p : Phase) : Ordinary s (s.setPhase p) := .aq _

theorem State.endWork_ordinary (s : State) : Ordinary s s.endWork := .aq _

theorem State.gapStep_ordinary (s : State) (m : Nat) : Ordinary s (s.gapStep m) := by
  unfold State.gapStep
  extract_lets s1
  have h1 : Ordinary s s1 := (s.advance_ordinary _).trans (Ordinary.fold State.gapChannel_ordinary _ _)
  exact (h1.trans (s1.gapPosition_ordinary _)).trans
    (State.check_ordinary { s1 with ev := s1.ev.gapPosition s1.asm.position })

theorem State.beginAnalysis_ordinary (s : State) (f : QFrame) : Ordinary s (s.beginAnalysis f) := by
  unfold State.beginAnalysis
  refine Ordinary.trans ?_ (State.setPhase_ordinary _ _)
  exact .chans fun _ h => h.map fun ch hch => hch.beginFrame _ _

theorem State.skipOrAnalyse_ordinary (s : State) (f : QFrame) : Ordinary s (s.skipOrAnalyse f) := by
  unfold State.skipOrAnalyse
  split
  · exact .ite (s.abandonAll_ordinary.trans (State.setPhase_ordinary _ _)) (s.abandonAll_ordinary.trans (State.endWork_ordinary _))
  · exact s.beginAnalysis_ordinary f

theorem State.takeFrame_ordinary (s : State) (f : QFrame) (rest : List AQEntry) : Ordinary s (s.takeFrame f rest) := by
  have h : Ordinary s (State.applyPending { s with aq := { entries := rest, work := some ⟨f, .gap⟩ } }) :=
    (Ordinary.aq _).trans (State.applyPending_ordinary _)
  unfold State.takeFrame
  dsimp only
  split
  · exact h.trans (State.skipOrAnalyse_ordinary _ _)
  · split
    · exact h.trans (State.gapStep_ordinary _ _)
    · exact (h.trans (State.gapStep_ordinary _ _)).trans (State.skipOrAnalyse_ordinary _ _)

theorem State.endFrame_ordinary (s : State) (f : QFrame) : Ordinary s (s.endFrame f) := by
  have h : Ordinary s { s with
      asm := s.asm.countAnalysed f.tag f.cls
      det := { s.det with chans := s.det.chans.map (Channel.endFrame s.det.settings f.cls) }
      ev := s.ev.check } := by
    refine Ordinary.trans (t := { s with asm := s.asm.countAnalysed f.tag f.cls }) (.asm rfl rfl rfl) ?_
    refine Ordinary.trans (t := { s with
      asm := s.asm.countAnalysed f.tag f.cls
      det := { s.det with chans := s.det.chans.map (Channel.endFrame s.det.settings f.cls) } }) ?_
      (State.mapEvents_ordinary _ fun _ => rfl)
    exact .chans fun _ h => h.map fun ch hch => hch.endFrame _ _
  unfold State.endFrame
  exact .ite (h.trans (State.setPhase_ordinary _ _)) (h.trans (State.endWork_ordinary _))

theorem State.afterSet_ordinary (s : State) (f : QFrame) (n : Nat) : Ordinary s (s.afterSet f n) :=
  .ite (s.setPhase_ordinary _) (s.endFrame_ordinary f)

theorem State.endSet_ordinary (s : State) (f : QFrame) (n : Nat) : Ordinary s (s.endSet f n) := by
  unfold State.endSet
  exact .ite ((s.advance_ordinary 1).trans (State.setPhase_ordinary _ _))
    ((s.advance_ordinary 1).trans (State.afterSet_ordinary _ _ _))

theorem State.runChannels_ordinary (f : QFrame) (n : Nat) (cs : List (Fin 4)) (s : State) :
    Ordinary s (State.runChannels f n cs s) := by
  induction cs generalizing s with
  | nil => exact s.endSet_ordinary f n
  | cons c cs ih =>
    have hstep := State.setChan_ordinary (s := s) (c := c) fun hs hc =>
      hc.step hs.detector.1 s.asm.position (f.sample n c) f.seq f.cls f.tag.cycle
    unfold State.runChannels
    dsimp only
    split
    · exact hstep.trans (ih _)
    · exact (hstep.trans (State.hitStart_ordinary _ _ _ _ _ _)).trans (ih _)
    · exact hstep.trans (State.setPhase_ordinary _ _)

theorem State.endHit_ordinary (s : State) (c : Fin 4) : Ordinary s (s.endHit c) := by
  unfold State.endHit
  split
  · exact (s.setChanState_ordinary c _).trans (State.endMember_ordinary _ _ _)
  · exact .refl s

theorem State.endLong_ordinary (s : State) (c : Fin 4) : Ordinary s (s.endLong c) := by
  unfold State.endLong
  split
  · exact (s.setChanState_ordinary c _).trans (State.endMember_ordinary _ _ _)
  · exact .refl s

theorem State.resumeFrame_ordinary (s : State) : Ordinary s s.resumeFrame := by
  unfold State.resumeFrame
  split
  · exact s.skipOrAnalyse_ordinary _
  · exact s.endWork_ordinary
  · exact s.endWork_ordinary
  · exact .refl s

/-! ## Completion of an event (R88, R89, R95, R101) -/

section
variable {t : ZoneTable} {z : Nat} {r : ZoneRecord}

theorem vget_vmod_const {α : Type} {n : Nat} (v : Vector α n) (i j : Nat) (x d : α) :
    vget (vmod v i fun _ => x) j d = if i < n ∧ j = i then x else vget v j d := by
  unfold vget vmod
  split
  · next h =>
    by_cases hj : j < n
    · simp only [Vector.getElem?_eq_getElem hj, Option.getD_some, Vector.getElem_set, h, true_and, eq_comm]
    · have hne : j ≠ i := by omega
      simp [hj, hne]
  · next h => simp [h]

/-- What a zone's record is after the record of a zone has been replaced. -/
theorem ZoneTable.record?_put (t : ZoneTable) (z i : Nat) (r : ZoneRecord) :
    (t.put z r).record? i = if z < 24 ∧ i = z then some r else t.record? i := vget_vmod_const _ _ _ _ _

theorem ZoneTable.lt_of_record? (h : t.record? z = some r) : z < 24 := by
  unfold ZoneTable.record? vget at h
  by_contra hz
  simp [hz] at h

end

/-- A record replaced by one that is in range and CRACKED where the old one was. -/
theorem State.putZone_ordinary {s : State} {z : Nat} {r new : ZoneRecord} (hr : s.zone.record? z = some r)
    (hnew : r.InRange → new.InRange) (hc : r.state = .cracked → new.state = .cracked) : Ordinary s (s.putZone z new) := by
  have hz := ZoneTable.lt_of_record? hr
  refine .zone rfl rfl (fun hs i x hx => ?_) fun i x hx hcx => ?_
  · rw [ZoneTable.record?_put] at hx
    split at hx
    · cases hx; exact hnew (hs z r hr)
    · exact hs i x hx
  · rw [ZoneTable.record?_put]
    split
    · next h =>
      obtain ⟨-, rfl⟩ := h
      cases hr.symm.trans hx
      exact ⟨new, rfl, hc hcx⟩
    · exact ⟨x, hx, hcx⟩

theorem satInc_le (v top : Nat) : satInc v top ≤ top := Nat.min_le_left _ _

theorem ZoneRecord.InRange.credit {r : ZoneRecord} (h : r.InRange) (w : Nat) (cycle : Word) (oct : Nat) :
    (r.credit w cycle oct).InRange :=
  ⟨Nat.min_le_left _ _, h.2.1, satInc_le _ _, satInc_le _ _, h.2.2.2.2⟩

theorem ZoneRecord.InRange.creditMasked {r : ZoneRecord} (h : r.InRange) : r.creditMasked.InRange :=
  ⟨h.1, h.2.1, h.2.2.1, h.2.2.2.1, satInc_le _ _⟩

theorem State.receiveEvent_ordinary (s : State) (zone : Option Nat) (w : Nat) (cycle : Word) (oct : Nat) (a : Bool) :
    Ordinary s (s.receiveEvent zone w cycle oct a) := by
  unfold State.receiveEvent
  split
  · exact .refl s
  · split
    · exact .refl s
    · split
      · exact .refl s
      · next r hr =>
        refine State.putZone_ordinary hr (fun h => ?_) fun hc => ?_
        · split
          · exact h.creditMasked
          · exact h.credit w cycle oct
        · rw [if_neg (by rw [hc]; decide)]
          exact hc

theorem EventBuilder.dropRunning_openEvents (b : EventBuilder) (e : OpenEvent) :
    (b.dropRunning e).openEvents = b.openEvents ∧ (b.dropRunning e).settings = b.settings
      ∧ (b.dropRunning e).pending = b.pending := by
  unfold EventBuilder.dropRunning
  generalize e.members = ms
  induction ms generalizing b with
  | nil => exact ⟨rfl, rfl, rfl⟩
  | cons m ms ih =>
    rw [List.foldl_cons]
    split
    · exact ih b
    · exact ih (b.setAssign m.ch .none)

theorem Assembler.countEvent_keeps (a : Assembler) (k : Cls) (cycle : Word) (late abandoned : Bool) :
    (a.countEvent k cycle late abandoned).tags = a.tags ∧ (a.countEvent k cycle late abandoned).assembly = a.assembly
      ∧ (a.countEvent k cycle late abandoned).position = a.position := by
  unfold Assembler.countEvent Assembler.modOldest
  split
  · exact ⟨rfl, rfl, rfl⟩
  · split
    · split <;> exact ⟨rfl, rfl, rfl⟩
    · exact ⟨rfl, rfl, rfl⟩

theorem State.completion_ordinary (s : State) (c : Option Completion) :
    Ordinary s { s with ev := { s.ev with completion := c } } := .openEvents rfl rfl id

theorem State.handEvent_ordinary (s : State) (c : Completion) : Ordinary s (s.handEvent c) :=
  (s.completion_ordinary _).trans (State.handOver_ordinary _ _)

theorem State.completeWith_ordinary (s : State) (p : Profile) (e : OpenEvent) : Ordinary s (s.completeWith p e) := by
  unfold State.completeWith
  extract_lets abandoned ms fs zone oct w late src ev1 s1 masked s2 z c
  have hev : Ordinary s { s with ev := if abandoned then ev1.dropRunning e else ev1 } := by
    have hsub (h : s.EventsBounded) : ev1.openEvents.length ≤ openMax ∧ ∀ x ∈ ev1.openEvents, (x.members.map (·.ch)).Nodup :=
      ⟨(List.length_filter_le _ _).trans h.1, fun x hx => h.2 x (List.mem_of_mem_filter hx)⟩
    split
    · obtain ⟨e1, e2, e3⟩ := ev1.dropRunning_openEvents e
      exact .openEvents e2 e3 (by rw [e1]; exact hsub)
    · exact .openEvents rfl rfl hsub
  have h1 : Ordinary s s1 := by
    obtain ⟨e1, e2, e3⟩ := s.asm.countEvent_keeps e.cls e.cycle late abandoned
    refine Ordinary.after (t := { s with
      ev := if abandoned then ev1.dropRunning e else ev1
      asm := s.asm.countEvent e.cls e.cycle late abandoned }) (.free _) ?_
    exact Ordinary.after (Ordinary.asm (s := { s with ev := if abandoned then ev1.dropRunning e else ev1 }) e1 e2 e3) hev
  have h2 : Ordinary s s2 := h1.trans (s1.receiveEvent_ordinary _ _ _ _ _)
  split
  · exact h2.trans (State.completion_ordinary _ _)
  · exact h2.trans (State.handEvent_ordinary _ _)

theorem State.answerTrigger_ordinary (s : State) (id : Option (Fin 4)) : Ordinary s (s.answerTrigger id) := by
  unfold State.answerTrigger
  split
  · exact .refl s
  · exact State.handEvent_ordinary _ _

theorem State.giveAnswer_ordinary (r : State × TriggerAnswer) : Ordinary r.1 (State.giveAnswer r) := by
  unfold State.giveAnswer
  split
  · exact State.answerTrigger_ordinary _ _
  · exact .refl _

theorem State.endRun_ordinary (r : CaptureRun) (x : State × Bool) : Ordinary x.1 (State.endRun r x) :=
  .ite (State.answerTrigger_ordinary _ _) (.refl _)

/-! ## The evaluation (R104 to R111) -/

theorem ZoneRecord.InRange.updated {r : ZoneRecord} (h : r.InRange) (p : Policy) (b : Bool) : (r.updated p b).InRange := by
  obtain ⟨h1, h2, h3⟩ := h
  unfold ZoneRecord.updated
  dsimp only
  split
  · refine ⟨?_, satInc_le _ _, h3⟩
    dsimp only
    split
    · exact Nat.min_le_left _ _
    · exact h1
  · split
    · exact ⟨h1, h2, h3⟩
    · exact ⟨(Nat.sub_le _ _).trans h1, Nat.zero_le _, h3⟩

theorem ZoneRecord.InRange.clearHits {r : ZoneRecord} (h : r.InRange) : ZoneRecord.InRange { r with hitsCycle := 0 } :=
  ⟨h.1, h.2.1, Nat.zero_le _, h.2.2.2⟩

theorem ZoneRecord.updated_state (r : ZoneRecord) (p : Policy) (b : Bool) : (r.updated p b).state = r.state := by
  unfold ZoneRecord.updated
  dsimp only
  split
  · rfl
  · split <;> rfl

theorem ZoneRecord.judged_of_updated_cracked {r : ZoneRecord} (h : r.state = .cracked) (p : Policy) (b : Bool) :
    (r.updated p b).judged p = .cracked := by
  unfold ZoneRecord.judged
  rw [if_pos (by rw [ZoneRecord.updated_state, h])]

theorem State.endZones_ordinary (s : State) : Ordinary s s.endZones := by
  unfold State.endZones
  split
  · exact .refl s
  · exact s.handOver_ordinary _

theorem State.evalZones_ordinary (p : Policy) (b : Bool) (n : Word) (zs : List Nat) (s : State) :
    Ordinary s (State.evalZones p b n zs s) := by
  induction zs generalizing s with
  | nil => exact s.endZones_ordinary
  | cons z zs ih =>
    unfold State.evalZones
    split
    · exact ih s
    · next r hr =>
      split
      · exact ih s
      · dsimp only
        split
        · exact (State.putZone_ordinary hr (fun h => (h.updated p b).clearHits) fun hc => by
            dsimp only; rw [ZoneRecord.updated_state, hc]).trans (ih _)
        · exact (State.handOver_ordinary _ _).after (State.putZone_ordinary hr (fun h => h.updated p b) fun hc =>
            ZoneRecord.judged_of_updated_cracked hc p b)

theorem State.evalFrom_ordinary (s : State) (z : Nat) : Ordinary s (s.evalFrom z) := by
  unfold State.evalFrom
  split
  · exact .refl s
  · exact State.evalZones_ordinary _ _ _ _ s

theorem State.eval_ordinary (s : State) (e : Option EvalWork) : Ordinary s { s with zone := { s.zone with eval := e } } :=
  .zone_records rfl rfl rfl

theorem State.beginEval_ordinary (s : State) (m : CycleSummary) : Ordinary s (s.beginEval m) := by
  unfold State.beginEval
  extract_lets n p a stale e src s1
  have h1 : Ordinary s s1 := (s.eval_ordinary _).trans (State.markWhere_ordinary _ _)
  exact .ite (h1.trans (State.endZones_ordinary _)) (h1.trans (State.evalFrom_ordinary _ _))

theorem State.startEvaluation_ordinary (s : State) : Ordinary s s.startEvaluation := by
  unfold State.startEvaluation
  split
  · exact .refl s
  · split
    · refine Ordinary.trans ?_ (State.beginEval_ordinary _ _)
      exact .zone_records rfl rfl rfl
    · exact (Ordinary.aq _).trans (State.beginEval_ordinary _ _)
    · exact .refl s

theorem State.afterZoneChange_ordinary (s : State) (z : Nat) (rose : Bool) : Ordinary s (s.afterZoneChange z rose) := by
  have hput (u : State) (hu : Ordinary s u) (hz : u.zone = s.zone) {r : ZoneRecord} (hr : s.zone.record? z = some r) :
      Ordinary s (u.putZone z { r with hitsCycle := 0 }) :=
    hu.trans (State.putZone_ordinary (by rw [hz]; exact hr) (fun h => h.clearHits) id)
  unfold State.afterZoneChange
  split
  · next r e hr _ =>
    dsimp only
    split
    · exact ((hput _ (s.raise_ordinary _) rfl hr).trans (State.eval_ordinary _ _)).trans (State.evalFrom_ordinary _ _)
    · exact ((hput s (.refl s) rfl hr).trans (State.eval_ordinary _ _)).trans (State.evalFrom_ordinary _ _)
  · exact .refl s

theorem State.afterCycleRecord_ordinary (s : State) : Ordinary s s.afterCycleRecord := by
  unfold State.afterCycleRecord
  split
  · exact .refl s
  · next e _ =>
    extract_lets s1 s2 s3
    have h1 : Ordinary s s1 := s.serveBatch_ordinary .cycle
    have h2 : Ordinary s s2 := .ite (h1.trans (State.raise_ordinary _ _)) h1
    have h3 : Ordinary s s3 := by
      show Ordinary s (match e.summary.cause with
        | .timeout => s2.raise fCycleFault
        | .truncated => s2.raise fCycleFault
        | _ => s2)
      split
      · exact h2.trans (State.raise_ordinary _ _)
      · exact h2.trans (State.raise_ordinary _ _)
      · exact h2
    refine Ordinary.after (t := { s3 with zone := { s3.zone with eval := none } }) ?_ (h3.trans (s3.eval_ordinary none))
    exact .asm rfl rfl rfl

/-! ## Gate Sequencer, lines and tacho (R31, R35 to R53) -/

theorem State.handCycleEnd_ordinary (s : State) (m : CycleSummary) : Ordinary s (s.handCycleEnd m) := by
  unfold State.handCycleEnd
  dsimp only
  split
  · exact .aq _
  · split
    · exact .aq _
    · exact .zone_records rfl rfl rfl

/-- The Gate Sequencer but for its programs. -/
theorem State.setGate_ordinary (s : State) {g : Sequencer} (ha : g.active = s.gate.active) (hs : g.staged = s.gate.staged) :
    Ordinary s { s with gate := g } := .gate (.inl ha) (.inl hs)

theorem State.endCycle_ordinary (s : State) (c : Cause) (t : Nat) : Ordinary s (s.endCycle c t) := by
  unfold State.endCycle
  split
  · exact (State.handCycleEnd_ordinary _ _).after (s.setGate_ordinary rfl rfl)
  · exact .refl s

theorem State.startCycle_ordinary (s : State) (t : Nat) : Ordinary s (s.startCycle t) := by
  have hg : Ordinary s { s with gate := (s.startCycle t).gate } := by
    refine .gate ?_ (.inr rfl)
    show (match s.gate.staged with
      | some p => some p
      | none => s.gate.active) = _ ∨ _
    cases hst : s.gate.staged with
    | none => exact .inl rfl
    | some p => exact .inr ⟨by simp, by simp [State.startCycle, hst]⟩
  refine hg.trans ?_
  refine Ordinary.trans (t := { s with gate := (s.startCycle t).gate, asm := (s.startCycle t).asm }) (.asm rfl rfl rfl) ?_
  exact .zone_records rfl rfl rfl

theorem State.stepDone_ordinary (s : State) (r : CycleRun) (st : GateStep) (t : Nat) : Ordinary s (s.stepDone r st t) := by
  unfold State.stepDone
  dsimp only
  split
  · exact (State.endCycle_ordinary _ _ _).after (s.setGate_ordinary rfl rfl)
  · exact s.setGate_ordinary rfl rfl

theorem State.edge_ordinary (s : State) (i : Fin 5) : Ordinary s (s.edge i) := by
  unfold State.edge
  split
  · unfold State.cycEdge
    split
    · exact .refl s
    · exact s.startCycle_ordinary _
    · exact ((s.endCycle_ordinary _ _).trans (State.startCycle_ordinary _ _)).trans (State.setGate_ordinary _ rfl rfl)
  · unfold State.lineEdge
    split
    · exact .ite (s.stepDone_ordinary _ _ _) (.refl s)
    · exact .refl s

theorem State.takeEdge_ordinary (s : State) (i : Fin 5) : Ordinary s (s.takeEdge i) := by
  unfold State.takeEdge
  split
  · exact (State.noteChanges_ordinary _ _).after ((State.edge_ordinary _ i).after (s.setGate_ordinary rfl rfl))
  · exact .refl s

theorem State.takeEdges_ordinary (s : State) (lines : List (Fin 5)) : Ordinary s (s.takeEdges lines) :=
  Ordinary.fold State.takeEdge_ordinary lines s

theorem State.samplePress_ordinary (s : State) (pins : Vector Bool 5) : Ordinary s (s.samplePress pins) := by
  unfold State.samplePress
  refine Ordinary.trans (t := { s with lines := (sampleLines s.lines pins).1 }) (.lines fun h l hl => ?_)
    (State.setGate_ordinary _ rfl rfl)
  simp only [sampleLines, Vector.mem_toList_iff, Vector.mem_ofFn] at hl
  obtain ⟨i, rfl⟩ := hl
  exact h s.lines[i] (by simp)

theorem State.nextSample_ordinary (s : State) (pins : Vector Bool 5) : Ordinary s (s.nextSample pins) := by
  have h := (s.takeEdges_ordinary (List.finRange 5)).trans (Ordinary.clock ((s.takeEdges (List.finRange 5)).clock + 1))
  unfold State.nextSample
  dsimp only
  split
  · exact h
  · exact h.trans (State.samplePress_ordinary _ _)

theorem State.bandCheck_ordinary (s : State) (p : Nat) : Ordinary s (s.bandCheck p) := by
  unfold State.bandCheck
  split
  · split
    · dsimp only
      split
      · exact (State.raise_ordinary _ _).after (s.setGate_ordinary rfl rfl)
      · exact s.setGate_ordinary rfl rfl
    · exact .refl s
  · exact .refl s

theorem State.measuringEdge_ordinary (s : State) : Ordinary s s.measuringEdge := by
  unfold State.measuringEdge
  dsimp only
  split
  · exact (State.bandCheck_ordinary _ _).after (.tacho_same rfl rfl rfl)
  · exact .tacho_same rfl rfl rfl

theorem State.tachoFilter_ordinary (s : State) (b : Bool) : Ordinary s (s.tachoFilter b) := by
  unfold State.tachoFilter
  dsimp only
  split
  · exact (State.measuringEdge_ordinary _).after (.tacho_same rfl rfl rfl)
  · exact .tacho_same rfl rfl rfl

theorem State.sampleTacho_ordinary (s : State) (b : Bool) : Ordinary s (s.sampleTacho b) := by
  unfold State.sampleTacho
  dsimp only
  split
  · exact .tacho_same rfl rfl rfl
  · exact (State.tachoFilter_ordinary _ _).after (.tacho_same rfl rfl rfl)

theorem State.stall_ordinary (s : State) (b : Bool) : Ordinary s (s.stall b) := by
  have h : Ordinary s s.takeStall := (State.bandCheck_ordinary _ _).after (.tacho_same rfl rfl rfl)
  exact (h.trans (State.noteChanges_ordinary _ _)).trans (State.tachoFilter_ordinary _ _)

end Sys2Proof.Machine
end

section
/-! PROOFS. The Capture Unit's and the Frame Assembler's operations, the commands and the work that waits with a record are
ordinary work; what begins a command, changes a zone or puts a mould in force keeps the invariants. -/

namespace Sys2Proof.Machine

/-! ## Captures and assemblies: what they touch beside the slots -/

/-- `t` differs from `s` in captures, frames, queue, records handed over and raised factors only. -/
def Handed (s t : State) : Prop :=
  ∃ c r n a q, t = { s with cap := c, report := r, notice := n, asm := a, aq := q } ∧ r.p = s.report.p ∧ r.c = s.report.c
    ∧ r.pendingC = s.report.pendingC ∧ (s.notice.InRange → n.InRange) ∧ a.position = s.asm.position
    ∧ q.work = s.aq.work

section
variable {s t u : State}

theorem Handed.refl (s : State) : Handed s s := ⟨_, _, _, _, _, rfl, rfl, rfl, rfl, id, rfl, rfl⟩

theorem Handed.trans (h : Handed s t) (k : Handed t u) : Handed s u := by
  obtain ⟨c, r, n, a, q, rfl, h1, h2, h3, h4, h5, h6⟩ := h
  obtain ⟨c', r', n', a', q', rfl, k1, k2, k3, k4, k5, k6⟩ := k
  exact ⟨c', r', n', a', q', rfl, k1.trans h1, k2.trans h2, k3.trans h3, fun hn => k4 (h4 hn), k5.trans h5,
    k6.trans h6⟩

theorem Handed.ite {p : Prop} [Decidable p] (h : Handed s t) (k : Handed s u) : Handed s (if p then t else u) := by
  split <;> assumption

theorem Handed.cap (c : CaptureUnit) : Handed s { s with cap := c } := ⟨_, _, _, _, _, rfl, rfl, rfl, rfl, id, rfl, rfl⟩
theorem Handed.asm {a : Assembler} (h : a.position = s.asm.position) : Handed s { s with asm := a } :=
  ⟨_, _, _, _, _, rfl, rfl, rfl, rfl, id, h, rfl⟩

theorem State.raise_handed (s : State) (f : Nat) : Handed s (s.raise f) :=
  ⟨_, _, _, _, _, rfl, rfl, rfl, rfl, fun h => h.raise f s.clock, rfl, rfl⟩

theorem State.handOver_handed (s : State) (r : Record) : Handed s (s.handOver r) :=
  ⟨_, _, _, _, _, rfl, rfl, rfl, rfl, id, rfl, rfl⟩

/-- With the slots in order such work is ordinary. -/
theorem Handed.ordinary (h : Handed s t) (hslots : s.SlotsInOrder → t.SlotsInOrder) : Ordinary s t := by
  obtain ⟨c, r, n, a, q, rfl, h1, h2, h3, h4, h5, h6⟩ := h
  exact {
    slots := hslots
    settings := fun hs => { hs with notices := h4 hs.notices }
    ring := fun _ hr t ht => by
      obtain ⟨k1, k2, k3⟩ := hr t ht
      exact ⟨h1.trans_lt k1, h2.trans_lt k2, fun n hn => k3 n (h3.symm.trans hn)⟩
    position := fun hp => ⟨h5.ge, h5.trans_le hp⟩ }

theorem State.holdCapture_handed (s : State) (c : Fin 4) (b : Bool) : Handed s (s.holdCapture c b) :=
  ((Handed.cap _).trans (State.handOver_handed _ _)).trans (State.raise_handed _ _)

theorem State.decideCapture_handed (s : State) (c : Fin 4) (post : Nat) : Handed s (s.decideCapture c post) :=
  .ite (s.holdCapture_handed c _) (.ite (s.holdCapture_handed c _) (.cap _))

theorem State.runOn_handed (s : State) (c : Fin 4) (post : Nat) (ws : List Half) : Handed s (s.runOn c post ws).1 := by
  unfold State.runOn
  split
  · exact s.decideCapture_handed c post
  · exact .cap _

theorem State.takeWanted_handed (c : Fin 4) (post : Nat) (ws : List Half) (s : State) :
    Handed s (State.takeWanted c post ws s).1 := by
  cases ws with
  | nil => exact s.runOn_handed c post []
  | cons w ws =>
    unfold State.takeWanted
    dsimp only
    split
    · exact (Handed.cap _).trans (State.runOn_handed _ _ _ _)
    · split
      · exact s.holdCapture_handed c _
      · split
        · exact .cap _
        · exact (Handed.cap _).trans (State.runOn_handed _ _ _ _)

theorem State.takeTrigger_handed (s : State) (t : Trigger) : Handed s (s.takeTrigger t).1 := by
  unfold State.takeTrigger
  split
  · exact .cap _
  · split
    · exact s.raise_handed _
    · next c _ =>
      have h := (Handed.cap (s := s) _).trans
        (State.takeWanted_handed c t.post (wantedFrames t s.cap.latest) (s.modCapture c fun _ => Capture.opening t))
      split <;> (next he => rw [he] at h; exact h)

theorem State.continueRun_handed (s : State) (r : CaptureRun) : Handed s (s.continueRun r).1 :=
  (Handed.cap _).trans (State.takeWanted_handed _ _ _ _)

theorem State.resumeRun_handed (s : State) (r : CaptureRun) (l : Fin 32) (p : Fin 48) : Handed s (s.resumeRun r l p).1 := by
  have h (c : CaptureUnit) (ws : List Half) : Handed s (State.runOn { s with cap := c } r.cap r.post ws).1 :=
    (Handed.cap _).trans (State.runOn_handed _ _ _ _)
  unfold State.resumeRun
  dsimp only
  split
  · exact h _ _
  · split
    · split
      · exact (Handed.cap _).trans (State.holdCapture_handed _ _ _)
      · exact h _ _
    · exact h _ _

theorem State.freezePost_handed (s : State) (l : Fin 32) (seq : Half) : Handed s (s.freezePost l seq) := by
  unfold State.freezePost
  split
  · exact .refl s
  · split
    · exact s.holdCapture_handed _ _
    · unfold State.afterPostFreeze
      exact (Handed.cap _).trans
        (.ite (State.holdCapture_handed _ _ _) (.ite (State.holdCapture_handed _ _ _) (.refl _)))

theorem State.resumePost_handed (s : State) (p : PostFreeze) : Handed s (s.resumePost p) := by
  unfold State.resumePost
  exact .ite ((Handed.cap _).trans (State.freezePost_handed _ _ _)) (.cap _)

theorem State.makePost_handed (s : State) : Handed s s.makePost := by
  unfold State.makePost
  split
  · exact .refl s
  · exact s.resumePost_handed _

theorem State.closeOpenCapture_handed (s : State) : Handed s s.closeOpenCapture := by
  unfold State.closeOpenCapture
  split
  · exact .refl s
  · exact s.holdCapture_handed _ _

theorem State.sequenceCheck_handed (s : State) (x : Assembly) : Handed s (s.sequenceCheck x) := by
  unfold State.sequenceCheck
  split
  · exact .asm (Assembler.chargeLost_position ..)
  · dsimp only
    split
    · next m _ _ =>
      have h : Handed s { s with
          asm := { (if 0 < m then s.asm.chargeLost x.tag (m - s.asm.pendingLost) else s.asm) with
            lastAccepted := some x.seq, pendingLost := 0 }
          aq := { s.aq with entries := s.aq.entries ++ [.frame (x.queued m)] } } := by
        refine ⟨_, _, _, _, _, rfl, rfl, rfl, rfl, id, ?_, rfl⟩
        dsimp only
        split <;> simp
      exact .ite (h.trans (State.raise_handed _ _)) h
    · exact .asm (Assembler.chargeLost_position ..)

theorem State.trailer_handed (s : State) (x : Assembly) (w : Word) (later : Bool) : Handed s (s.trailer x w later) := by
  unfold State.trailer State.postFrame
  refine .ite ?_ (.asm (Assembler.tearFrame_position ..))
  refine Handed.trans ?_ (State.sequenceCheck_handed _ x)
  have h : Handed s { s with
      asm := (s.asm.setTag x.phys (.complete x.seq)).put none, cap := { s.cap with latest := some x.seq } } :=
    ⟨_, _, _, _, _, rfl, rfl, rfl, rfl, id, rfl, rfl⟩
  exact .ite (h.trans (.cap _)) (h.trans (State.freezePost_handed _ _ _))

theorem State.stray_handed (s : State) (p : Fin 48) : Handed s (s.stray p) := by
  unfold State.stray
  dsimp only
  split <;> exact .asm rfl

theorem State.assembleWrite_handed (s : State) (l : Fin 32) (p : Fin 48) (i : Fin 128) (lanes : Lanes) (w : Word)
    (later between : Bool) : Handed s (s.assembleWrite l p i lanes w later between) := by
  unfold State.assembleWrite
  split
  · split
    · unfold State.headerWrite
      dsimp only
      split
      · exact .asm rfl
      · exact .asm (Assembler.tearFrame_position ..)
    · split
      · exact .ite (.ite (s.trailer_handed _ _ _) (.asm rfl)) (s.stray_handed p)
      · exact s.stray_handed p
  · dsimp only
    split
    · exact .ite (.asm rfl) ((Handed.asm rfl).trans (State.stray_handed _ _))
    · exact (Handed.asm rfl).trans (State.stray_handed _ _)

theorem State.makePost_ordinary (hw : s.postWaits = false) : Ordinary s s.makePost :=
  s.makePost_handed.ordinary fun h => h.makePost hw

theorem State.closeOpenCapture_ordinary (s : State) : Ordinary s s.closeOpenCapture :=
  s.closeOpenCapture_handed.ordinary fun h => h.closeOpenCapture

end

/-! ## The Command Unit -/

section
variable {s : State}

/-- The Command Unit changed without its order: no slot becomes EXECUTING, and nothing but a word that may wait waits. -/
theorem Orderly.cmd {c : CommandUnit} (hq : c.queue = s.cmd.queue) (hx : c.exec.map (·.slot) = s.cmd.exec.map (·.slot))
    (hs : ∀ i : Fin 8, c.slots[i].state = .executing → s.cmd.slots[i].state = .executing)
    (hw : s.WaitsOrdinary → ∀ x ∈ c.waits, x.2 ≠ .accepted ∧ x.2 ≠ .discarded)
    (hj : s.SettingsInRange → ∀ e, c.exec = some e → e.job.InRange) : Orderly s { s with cmd := c } where
  settings h := { h with mould := ⟨h.mould.1, hj h⟩ }
  executing h i hi := by
    obtain ⟨e, he, rfl⟩ := h i (hs i hi)
    have : c.exec.map (·.slot) = some e.slot := by rw [hx, he]; rfl
    obtain ⟨e', he', hslot⟩ := Option.map_eq_some_iff.mp this
    exact ⟨e', he', hslot⟩
  waits := hw
  sameQueue := hq
  sameSlot := hx

/-- The executing command stays as it is. -/
theorem Ordinary.cmd {c : CommandUnit} (hq : c.queue = s.cmd.queue) (hx : c.exec = s.cmd.exec)
    (hs : ∀ i : Fin 8, c.slots[i].state = .executing → s.cmd.slots[i].state = .executing)
    (hw : s.WaitsOrdinary → ∀ x ∈ c.waits, x.2 ≠ .accepted ∧ x.2 ≠ .discarded) : Ordinary s { s with cmd := c } where
  toOrderly := Orderly.cmd hq (by rw [hx]) hs hw fun h e he => h.mould.2 e (hx ▸ he)
  noMould h := by
    have e : State.mouldBusy { s with cmd := c } = s.mouldBusy := by unfold State.mouldBusy; rw [hx]
    rw [e]; exact h

theorem State.modSlot_state {i j : Fin 8} {f : Slot → Slot} :
    ((s.modSlot i f).cmd.slots[j]).state = if j = i then (f s.cmd.slots[i]).state else s.cmd.slots[j].state := by
  have e : (s.modSlot i f).cmd.slots[j] = if j = i then f s.cmd.slots[i] else s.cmd.slots[j] := vector_getElem_set_fin _ _ _ _
  rw [e]
  split <;> rfl

theorem State.modSlot_ordinary {i : Fin 8} {f : Slot → Slot}
    (hf : (f s.cmd.slots[i]).state = .executing → s.cmd.slots[i].state = .executing) : Ordinary s (s.modSlot i f) := by
  refine .cmd rfl rfl (fun j hj => ?_) id
  have hj' : ((s.modSlot i f).cmd.slots[j]).state = .executing := hj
  rw [State.modSlot_state] at hj'
  split at hj'
  · next e => subst e; exact hf hj'
  · exact hj'

theorem State.slotDone_ordinary (s : State) (i : Fin 8) : Ordinary s (s.slotDone i) :=
  (State.raise_ordinary _ _).after (State.modSlot_ordinary fun h => nomatch h)

theorem State.placeCompletion_ordinary (h : s.hasRoom = true) (i : Fin 8) (code : Code) :
    Ordinary s (s.placeCompletion i code) :=
  .ite ((State.place_ordinary h _).trans (State.slotDone_ordinary _ _)) (State.place_ordinary h _)

@[simp] theorem State.slotDone_waits (s : State) (i : Fin 8) : (s.slotDone i).cmd.waits = s.cmd.waits := rfl

@[simp] theorem State.placeCompletion_waits (s : State) (i : Fin 8) (code : Code) :
    (s.placeCompletion i code).cmd.waits = s.cmd.waits := by
  unfold State.placeCompletion
  dsimp only
  split <;> rfl

/-- Completion words that may wait are placed, or wait. -/
theorem State.placeCompletions_ordinary (l : List (Fin 8 × Code)) (s : State)
    (hl : s.WaitsOrdinary → ∀ x ∈ l, x.2 ≠ .accepted ∧ x.2 ≠ .discarded) : Ordinary s (State.placeCompletions l s) := by
  induction l generalizing s with
  | nil => exact .cmd rfl rfl (fun _ h => h) fun _ _ hx => nomatch hx
  | cons x rest ih =>
    obtain ⟨i, code⟩ := x
    unfold State.placeCompletions
    split
    · next hr =>
      refine (State.placeCompletion_ordinary hr i code).trans (ih _ fun hw y hy => ?_)
      have hw' : s.WaitsOrdinary := by unfold State.WaitsOrdinary at hw; rwa [State.placeCompletion_waits] at hw
      exact hl hw' y (List.mem_cons_of_mem _ hy)
    · exact .cmd rfl rfl (fun _ h => h) hl

/-- A completion code whose word may wait. -/
abbrev Code.CanWait (c : Code) : Prop := c ≠ .accepted ∧ c ≠ .discarded

theorem State.queueCompletion_ordinary (s : State) (i : Fin 8) {code : Code} (hc : code.CanWait) :
    Ordinary s (s.queueCompletion i code) := by
  refine State.placeCompletions_ordinary _ s fun hw x hx => ?_
  obtain hx | hx := List.mem_append.mp hx
  · exact hw x hx
  · rw [List.mem_singleton.mp hx]; exact hc

theorem State.setJob_orderly {job : Job} (hj : s.SettingsInRange → job.InRange) : Orderly s (s.setJob job) := by
  refine .cmd rfl ?_ (fun _ h => h) id fun hs e he => ?_
  · show (s.cmd.exec.map fun e => { e with job := job }).map (·.slot) = _
    rw [Option.map_map]; rfl
  · obtain ⟨e', _, rfl⟩ := Option.map_eq_some_iff.mp he
    exact hj hs

theorem Job.inRange_of_not_mould {job : Job} (hj : ∀ p w st, job ≠ .mould p w st) : job.InRange := by
  cases job with
  | mould p w st => exact absurd rfl (hj p w st)
  | _ => trivial

/-- Work that is no MOULD CHANGE goes on. -/
theorem State.setJob_ordinary {job : Job} (hj : ∀ p w st, job ≠ .mould p w st) : Ordinary s (s.setJob job) where
  toOrderly := State.setJob_orderly fun _ => Job.inRange_of_not_mould hj
  noMould _ := by
    cases he : s.cmd.exec with
    | none => simp [State.mouldBusy, State.setJob, he]
    | some e =>
      cases job with
      | mould p w st => exact absurd rfl (hj p w st)
      | _ => simp [State.mouldBusy, State.setJob, he]

theorem State.complete_ordinary (s : State) {code : Code} (hc : code.CanWait) : Ordinary s (s.complete code) := by
  unfold State.complete
  split
  · exact (State.setJob_ordinary fun _ _ _ => by simp).trans (State.queueCompletion_ordinary _ _ hc)
  · exact .refl s

theorem State.loadWaits_ordinary (s : State) (l : List Nat) : Ordinary s { s with cmd := { s.cmd with loadWaits := l } } :=
  .cmd rfl rfl (fun _ h => h) id

theorem State.placeLoads_ordinary (l : List Nat) (s : State) : Ordinary s (State.placeLoads l s) := by
  induction l generalizing s with
  | nil => exact s.loadWaits_ordinary []
  | cons a rest ih =>
    unfold State.placeLoads
    split
    · next hr => exact (State.place_ordinary hr _).trans (ih _)
    · exact s.loadWaits_ordinary _

end

end Sys2Proof.Machine
end

section
/-! PROOFS. Commands, the work that waits with a record, and every row but a cold reset: each keeps the invariants. -/

namespace Sys2Proof.Machine

/-! ## Location tables (R93, R154, R155) -/

section
variable {s : State}

/-- The stored profiles changed one by one, without their types. -/
theorem profilesInRange.map {ps : List Profile} (h : profilesInRange ps) {g : Profile → Profile}
    (hg : ∀ p, p.InRange → (g p).InRange) (ht : ∀ p, (g p).type = p.type) : profilesInRange (ps.map g) := by
  obtain ⟨h1, h2, h3⟩ := h
  refine ⟨by rwa [List.length_map], fun p hp => ?_, ?_⟩
  · obtain ⟨q, hq, rfl⟩ := List.mem_map.mp hp
    exact hg q (h2 q hq)
  · rw [List.map_map]
    exact (List.map_congr_left fun p _ => ht p).symm ▸ h3

theorem State.modTable_ordinary {f : Vector Byte 196 → Vector Byte 196}
    (hf : ∀ v, (∀ b ∈ v.toList, entryOk b.toNat = true) → ∀ b ∈ (f v).toList, entryOk b.toNat = true) :
    Ordinary s (s.modTable f) := by
  unfold State.modTable
  split
  · exact .refl s
  · next p _ =>
    refine Ordinary.after (t := { s with ev := { s.ev with profile := some { p with table := f p.table } } }) ?_
      (.openEvents rfl rfl id)
    refine .loader rfl (by simp) fun h => h.map (fun q hq => ?_) fun q => ?_
    · obtain ⟨h1, h2, h3, h4, h5⟩ := hq
      split
      · exact ⟨h1, h2, h3, hf _ h4, h5⟩
      · exact ⟨h1, h2, h3, h4, h5⟩
    · split <;> rfl

theorem entryArgs_entryOk {sh : Vector Word 16} {e : Nat × Byte} (h : entryArgs sh = .ok e) :
    entryOk e.2.toNat = true := by
  unfold entryArgs at h
  dsimp only at h
  split at h
  · cases h
  · next hc =>
    cases h
    simp only [Bool.or_eq_true, not_or, Bool.not_eq_true', Bool.not_eq_false] at hc
    have hz := hc.2
    rw [BitVec.toNat_ofNat, Nat.mod_eq_of_lt]
    · exact hz
    · unfold entryOk at hz
      simp only [Bool.or_eq_true, decide_eq_true_eq, beq_iff_eq] at hz
      omega

theorem forall_mem_vmod {α : Type} {n : Nat} {v : Vector α n} {p : α → Prop} (h : ∀ x ∈ v.toList, p x) (i : Nat)
    {x : α} (hx : p x) : ∀ y ∈ (vmod v i fun _ => x).toList, p y := by
  unfold vmod
  split
  · next hi => exact Vector.forall_mem_set h ⟨i, hi⟩ hx
  · exact h

theorem tableOf_entryOk {all : List Byte} (h : (all.all fun b => entryOk b.toNat) = true) :
    ∀ b ∈ (tableOf fun i => all[i]?.getD 0).toList, entryOk b.toNat = true := by
  intro b hb
  simp only [tableOf, Vector.toList_mk, List.mem_map] at hb
  obtain ⟨i, _, rfl⟩ := hb
  cases hi : all[i]? with
  | none => rfl
  | some x => exact List.all_eq_true.mp h x (List.mem_of_getElem? hi)

theorem State.receiveTableWord_ordinary (s : State) (w : Word) : Ordinary s (s.receiveTableWord w) := by
  unfold State.receiveTableWord
  split
  · dsimp only
    split
    · exact State.setJob_ordinary fun _ _ _ => by simp
    · split
      · next hall =>
        exact (State.modTable_ordinary fun _ _ => tableOf_entryOk hall).trans (State.complete_ordinary _ (by decide))
      · exact s.complete_ordinary (by decide)
  · exact .refl s

/-! ## Zone commands (R113 to R116) -/

/-- A record replaced in range; the zone may leave CRACKED. -/
theorem State.putZone_orderly {z : Nat} {r new : ZoneRecord} (hr : s.zone.record? z = some r)
    (hnew : r.InRange → new.InRange) : Orderly s (s.putZone z new) where
  settings h := { h with }
  zones hs i x hx := by
    have hx' : (s.zone.put z new).record? i = some x := hx
    rw [ZoneTable.record?_put] at hx'
    split at hx'
    · cases hx'; exact hnew (hs z r hr)
    · exact hs i x hx'

/-- What follows the change of a zone's record: the completion, or the ZONE_CHANGE record with which the command waits. -/
theorem State.changeZone_after_put (s : State) (z : Nat) (old new : ZoneRecord) :
    Ordinary (s.putZone z new) (s.changeZone z old new) := by
  unfold State.changeZone
  dsimp only
  split
  · exact State.complete_ordinary _ (by decide)
  · exact (State.setJob_ordinary fun _ _ _ => by simp).after (State.handOver_ordinary _ _)

theorem State.changeZone_orderly {z : Nat} {r new : ZoneRecord} (hr : s.zone.record? z = some r)
    (hnew : r.InRange → new.InRange) : Orderly s (s.changeZone z r new) :=
  (State.putZone_orderly hr hnew).trans (s.changeZone_after_put z r new).toOrderly

theorem ZoneRecord.InRange.zeroed {r : ZoneRecord} (h : r.InRange) (st : ZoneState) :
    ZoneRecord.InRange { r with state := st, score := 0, streak := 0 } :=
  ⟨Nat.zero_le _, Nat.zero_le _, h.2.2⟩

theorem ZoneRecord.InRange.mask {r : ZoneRecord} (h : r.InRange) : r.mask.InRange :=
  ⟨Nat.zero_le _, Nat.zero_le _, Nat.zero_le _, h.2.2.2⟩

theorem ZoneRecord.InRange.reset {r : ZoneRecord} (h : r.InRange) : r.reset.InRange :=
  ⟨Nat.zero_le _, Nat.zero_le _, Nat.zero_le _, h.2.2.2⟩

theorem ZoneRecord.InRange.unmask {r : ZoneRecord} (h : r.InRange) : r.unmask.InRange := h.zeroed .clear

theorem State.reportZones_ordinary (zs : List Nat) (s : State) : Ordinary s (State.reportZones zs s) := by
  induction zs generalizing s with
  | nil => exact s.complete_ordinary (by decide)
  | cons z zs ih =>
    unfold State.reportZones
    split
    · exact ih s
    · exact (State.setJob_ordinary fun _ _ _ => by simp).after (State.handOver_ordinary _ _)

/-! ## SAVE CONFIGURATION (R156) -/

theorem State.send_ordinary (s : State) (instrs : List (List Byte)) : Ordinary s (s.send instrs) := .loader rfl Iff.rfl id

theorem State.writePage_ordinary (s : State) (image : List Byte) (p : Nat) : Ordinary s (s.writePage image p) :=
  (s.send_ordinary _).trans (State.setJob_ordinary fun _ _ _ => by simp)

theorem State.beginReadback_ordinary (s : State) (image : List Byte) : Ordinary s (s.beginReadback image) :=
  (s.send_ordinary _).trans (State.setJob_ordinary fun _ _ _ => by simp)

/-! ## MOULD CHANGE (R117, R118, R134) -/

theorem clearedRecords_inRange {p : Profile} {z : Nat} {r : ZoneRecord} (h : vget (clearedRecords p) z none = some r) :
    r.InRange := by
  have hz : z < 24 := by
    by_contra hz
    simp [vget, hz] at h
  have he : vget (clearedRecords p) z none = if z < p.zoneCount then some (clearedRecord (p.mask.getLsbD z)) else none := by
    simp [vget, clearedRecords, hz]
  rw [he] at h
  split at h
  · cases h
    refine ⟨Nat.zero_le _, Nat.zero_le _, Nat.zero_le _, Nat.zero_le _, Nat.zero_le _⟩
  · cases h

/-- A mould put in force: every present zone is cleared. -/
theorem State.putMould_orderly {p : Profile} {serial : Word} (hp : s.SettingsInRange → p.type ≤ 255) :
    Orderly s (s.putMould p serial) where
  settings h := { h with mould := ⟨hp h, h.mould.2⟩ }
  zones _ _ _ hr := clearedRecords_inRange hr

theorem Profile.InRange.type_le {p : Profile} (h : p.InRange) : p.type ≤ 255 := h.1.2

/-- The profile of the MOULD CHANGE in progress, or a stored one. -/
def State.Offers (s : State) (p : Profile) : Prop :=
  (∃ e serial stage, s.cmd.exec = some e ∧ e.job = .mould p serial stage) ∨ p ∈ s.loader.stored

theorem State.Offers.inRange {p : Profile} (ho : s.Offers p) (h : s.SettingsInRange) : p.InRange := by
  obtain ⟨e, serial, stage, he, hj⟩ | hp := ho
  · have := h.mould.2 e he
    rwa [hj] at this
  · exact (h.profiles (List.ne_nil_of_mem hp)).2.1 p hp

theorem State.Offers.of_touches {T : List Field} {t : State} {p : Profile} (ho : s.Offers p) (ht : Touches T s t)
    (hc : .cmd ∉ T) (hl : .loader ∉ T) : t.Offers p := by
  have ec : t.cmd = s.cmd := ht .cmd hc
  have el : t.loader = s.loader := ht .loader hl
  unfold State.Offers
  rwa [ec, el]

theorem State.mouldHandRecord_orderly {p : Profile} (ho : s.Offers p) (serial : Word) :
    Orderly s (s.mouldHandRecord p serial) := by
  have hput : Orderly (s.handOver s.mouldRecord) ((s.handOver s.mouldRecord).putMould p serial) :=
    State.putMould_orderly fun h => (State.Offers.inRange (s := s.handOver s.mouldRecord) ho h).type_le
  refine ((s.handOver_ordinary s.mouldRecord).toOrderly.trans hput).trans (State.setJob_orderly fun h => ?_)
  exact State.Offers.inRange (s := (s.handOver s.mouldRecord).putMould p serial) ho h

theorem State.mouldSettle_orderly {p : Profile} (ho : s.Offers p) (serial : Word) : Orderly s (s.mouldSettle p serial) := by
  have ho' := ho.of_touches s.abandonAll_touches (by decide) (by decide)
  unfold State.mouldSettle
  dsimp only
  split
  · exact s.abandonAll_ordinary.toOrderly.trans (State.setJob_orderly fun h => ho'.inRange h)
  · exact s.abandonAll_ordinary.toOrderly.trans (State.mouldHandRecord_orderly ho' serial)

theorem State.mouldBegin_orderly {p : Profile} (ho : s.Offers p) (serial : Word) : Orderly s (s.mouldBegin p serial) := by
  have hend := s.endCycle_ordinary .mould s.endTime
  have ho' := ho.of_touches (s.endCycle_touches .mould s.endTime) (by decide) (by decide)
  unfold State.mouldBegin
  dsimp only
  split
  · exact hend.toOrderly.trans (State.mouldSettle_orderly ho' serial)
  · exact hend.toOrderly.trans (State.setJob_orderly fun h => ho'.inRange h)

theorem State.mouldAfterEval_ordinary (s : State) : Ordinary s s.mouldAfterEval := by
  unfold State.mouldAfterEval
  split
  · next i p serial he =>
    exact (State.mouldSettle_orderly (.inl ⟨_, serial, _, he, rfl⟩) serial).ordinary_of_mouldBusy
      (by simp [State.mouldBusy, he])
  · exact .refl s

theorem State.mouldClose_ordinary (s : State) : Ordinary s s.mouldClose :=
  s.closeOpenCapture_ordinary.trans (State.complete_ordinary _ (by decide))

theorem State.mouldFinish_ordinary (s : State) : Ordinary s s.mouldFinish := by
  unfold State.mouldFinish
  split
  · next i p serial he =>
    split
    · refine (State.setJob_orderly fun h => ?_).ordinary_of_mouldBusy (by simp [State.mouldBusy, he])
      exact State.Offers.inRange (.inl ⟨_, serial, _, he, rfl⟩) h
    · next hw => exact (State.makePost_ordinary (by simpa using hw)).trans (State.mouldClose_ordinary _)
  · exact .refl s

theorem State.mouldAfterFreeze_ordinary (s : State) : Ordinary s s.mouldAfterFreeze := by
  unfold State.mouldAfterFreeze
  split
  · exact s.mouldClose_ordinary
  · exact .refl s

/-! ## The work that waits with a record (R15, R29, R95, R109, R110, R139) -/

theorem State.afterCompletion_ordinary (s : State) : Ordinary s s.afterCompletion := by
  unfold State.afterCompletion
  split
  · exact .refl s
  · split
    · next i p serial he =>
      exact (State.mouldHandRecord_orderly (.inl ⟨_, serial, _, he, rfl⟩) serial).ordinary_of_mouldBusy
        (by simp [State.mouldBusy, he])
    · exact s.resumeFrame_ordinary

theorem State.endCompletion_ordinary (s : State) : Ordinary s s.endCompletion :=
  ((s.serveBatch_ordinary .event).trans (State.completion_ordinary _ _)).trans (State.afterCompletion_ordinary _)

theorem State.runCont_ordinary (s : State) (c : Cont) : Ordinary s (s.runCont c) := by
  cases c with
  | nothing => exact .refl s
  | eventDone => exact s.endCompletion_ordinary
  | evalZone z rose => exact s.afterZoneChange_ordinary z rose
  | evalDone => exact s.afterCycleRecord_ordinary.trans (State.mouldAfterEval_ordinary _)
  | zoneCommand => exact s.complete_ordinary (by decide)
  | zoneReport z => exact State.reportZones_ordinary _ s
  | mouldPut => exact s.mouldFinish_ordinary

theorem State.resume_ordinary (r : State × Option Cont) : Ordinary r.1 (State.resume r) := by
  unfold State.resume
  split
  · exact .refl _
  · exact State.runCont_ordinary _ _

/-! ## RELOAD (R13, R34, R52, R57, R80, R136, R157) -/

/-- The entry to RELOADING with no slot EXECUTING keeps the invariants. -/
theorem State.enterReloading_keeps (s : State)
    (hslots : s.OneExecuting → ∀ i : Fin 8, s.cmd.slots[i].state ≠ .executing) : Keeps s s.enterReloading := by
  unfold State.enterReloading
  extract_lets src s1 s2
  have h1 : Keeps s s1 := {
    slots := fun _ => State.slotsInOrder_of_reset rfl rfl rfl (by
      intro b hb
      obtain ⟨b', _, rfl⟩ := Option.map_eq_some_iff.mp hb
      rfl)
    settings := fun h => { h with running := fun hr => nomatch hr } }
  have h2 : Keeps s1 s2 := (s1.endCycle_ordinary .reload s1.endTime).toKeeps
  have hcmd : s2.cmd = s.cmd := s1.endCycle_touches .reload s1.endTime .cmd (by decide)
  have hstate : s2.path.state = .reloading := by
    have : s2.path = s1.path := s1.endCycle_touches .reload s1.endTime .path (by decide)
    rw [this]
  refine (h1.trans h2).trans ?_
  exact {
    settings := fun h => { h with
      detector := ⟨h.detector.1, fun _ hx => nomatch hx⟩
      events := ⟨h.events.1, fun _ hx => nomatch hx⟩
      programs := ⟨h.programs.1, fun _ hx => nomatch hx⟩
      mould := ⟨h.mould.1, fun _ hx => nomatch hx⟩
      ready := fun _ _ hx => nomatch hx
      running := fun hr => absurd (hstate.symm.trans hr) (by decide) }
    executing := fun h i hi => by
      have h' : s.OneExecuting := by unfold State.OneExecuting at h ⊢; rwa [hcmd] at h
      have hi' : s2.cmd.slots[i].state = .executing := hi
      simp only [hcmd] at hi'
      exact absurd hi' (hslots h' i)
    events := fun _ => ⟨Nat.zero_le _, fun _ hx => nomatch hx⟩
    channels := fun _ h => h.map fun ch hch => hch.reload }

theorem State.placeCompletion_length (s : State) (i : Fin 8) (code : Code) :
    (s.placeCompletion i code).iq.length = s.iq.length + 1 := by
  unfold State.placeCompletion
  dsimp only
  split <;> exact List.length_append

theorem State.placeCompletion_exec (s : State) (i : Fin 8) (code : Code) :
    (s.placeCompletion i code).cmd.exec = s.cmd.exec ∧ (s.placeCompletion i code).cmd.queue = s.cmd.queue := by
  unfold State.placeCompletion
  dsimp only
  split <;> exact ⟨rfl, rfl⟩

theorem State.slotDone_state (s : State) (i j : Fin 8) :
    ((s.slotDone i).cmd.slots[j]).state = if j = i then .done else s.cmd.slots[j].state :=
  State.modSlot_state (f := fun x => { x with state := .done })

/-- A slot whose word is placed with its completion is DONE; no other slot's state changes. -/
theorem State.placeCompletion_state (s : State) (i j : Fin 8) (code : Code) :
    ((s.placeCompletion i code).cmd.slots[j]).state
      = if j = i ∧ code.atPlacing = true then .done else s.cmd.slots[j].state := by
  unfold State.placeCompletion
  dsimp only
  split
  · next h =>
    rw [State.slotDone_state]
    simp [h]
  · next h => simp [h]

theorem State.placeCompletions_cons_of_room {s : State} (h : s.hasRoom = true) (i : Fin 8) (code : Code)
    (rest : List (Fin 8 × Code)) :
    State.placeCompletions ((i, code) :: rest) s = State.placeCompletions rest (s.placeCompletion i code) := if_pos h

/-- With room for all of them, completion words of any code are placed without waiting. -/
theorem State.placeCompletions_of_room (l : List (Fin 8 × Code)) (s : State)
    (hl : s.iq.length + l.length ≤ queueCapacity) : Ordinary s (State.placeCompletions l s) := by
  induction l generalizing s with
  | nil => exact .cmd rfl rfl (fun _ h => h) fun _ _ hx => nomatch hx
  | cons x rest ih =>
    obtain ⟨i, code⟩ := x
    rw [List.length_cons] at hl
    have hr : s.hasRoom = true := s.hasRoom_iff.mpr (by omega)
    rw [State.placeCompletions_cons_of_room hr]
    exact (State.placeCompletion_ordinary hr i code).trans (ih _ (by rw [State.placeCompletion_length]; omega))

/-- A slot that is EXECUTING afterwards was so before, and its word was none of those placed with their completion. -/
theorem State.placeCompletions_executing (l : List (Fin 8 × Code)) (s : State)
    (hl : s.iq.length + l.length ≤ queueCapacity) {j : Fin 8}
    (hj : ((State.placeCompletions l s).cmd.slots[j]).state = .executing) :
    s.cmd.slots[j].state = .executing ∧ ∀ code, (j, code) ∈ l → code.atPlacing = false := by
  induction l generalizing s with
  | nil => exact ⟨hj, fun _ h => nomatch h⟩
  | cons x rest ih =>
    obtain ⟨i, code⟩ := x
    rw [List.length_cons] at hl
    have hr : s.hasRoom = true := s.hasRoom_iff.mpr (by omega)
    simp only [State.placeCompletions_cons_of_room hr] at hj
    obtain ⟨h1, h2⟩ := ih _ (by rw [State.placeCompletion_length]; omega) hj
    rw [State.placeCompletion_state] at h1
    split at h1
    · cases h1
    · next hne =>
      refine ⟨h1, fun c hc => ?_⟩
      obtain hc | hc := List.mem_cons.mp hc
      · cases hc
        simpa using hne
      · exact h2 c hc

theorem State.placeCompletions_exec (l : List (Fin 8 × Code)) (s : State) :
    (State.placeCompletions l s).cmd.exec = s.cmd.exec ∧ (State.placeCompletions l s).cmd.queue = s.cmd.queue := by
  induction l generalizing s with
  | nil => exact ⟨rfl, rfl⟩
  | cons x rest ih =>
    obtain ⟨i, code⟩ := x
    unfold State.placeCompletions
    split
    · obtain ⟨h1, h2⟩ := ih (s.placeCompletion i code)
      obtain ⟨k1, k2⟩ := s.placeCompletion_exec i code
      exact ⟨h1.trans k1, h2.trans k2⟩
    · exact ⟨rfl, rfl⟩

/-- RELOAD with room for all its words keeps the invariants. -/
theorem State.reload_keeps (hroom : s.roomForAll = true) : Keeps s s.reload := by
  obtain ⟨-, hlen⟩ := s.roomForAll_iff.mp hroom
  have hempty : Keeps s { s with cmd := { s.cmd with queue := [] } } :=
    { settings := fun h => { h with } }
  unfold State.reload
  extract_lets own others src
  have hown : own.length ≤ 1 := by
    show ((s.cmd.exec.map fun e => (e.slot, Code.accepted)).toList).length ≤ 1
    cases s.cmd.exec <;> simp
  have hfit : s.iq.length + (own ++ others).length ≤ queueCapacity := by
    have : others.length = s.cmd.queue.length := List.length_map _
    rw [List.length_append, queueCapacity]
    omega
  have hplace := State.placeCompletions_of_room (own ++ others) { s with cmd := { s.cmd with queue := [] } } hfit
  refine (hempty.trans hplace.toKeeps).trans (State.enterReloading_keeps _ fun hone i hi => ?_)
  obtain ⟨e, he, rfl⟩ := hone i hi
  rw [(State.placeCompletions_exec _ _).1] at he
  have hmem : (e.slot, Code.accepted) ∈ own ++ others := by
    refine List.mem_append_left _ ?_
    show (e.slot, Code.accepted) ∈ (s.cmd.exec.map fun e => (e.slot, Code.accepted)).toList
    rw [show s.cmd.exec = some e from he]
    exact List.mem_singleton_self _
  exact absurd ((State.placeCompletions_executing _ { s with cmd := { s.cmd with queue := [] } } hfit hi).2 _ hmem) (by decide)

theorem State.reloadOn_keeps (s : State) : Keeps s s.reloadOn := by
  unfold State.reloadOn
  split
  · split
    · exact .refl s
    · next h =>
      simp only [Bool.or_eq_true, not_or, Bool.not_eq_true', Bool.not_eq_false] at h
      exact State.reload_keeps h.2
  · exact .refl s

/-! ## The memory path (R1 to R10, R14) -/

theorem State.performBus_ordinary (s : State) (b : BusAccess) : Ordinary s (s.performBus b) := by
  unfold State.performBus
  split
  · exact .path rfl rfl (.inr rfl)
  · next lanes w _ =>
    exact (Ordinary.mem (Memory.writeWord s.mem b.memAddr lanes w)).trans
      (Ordinary.path (s := { s with mem := _ }) rfl rfl (.inr rfl))

/-- What the receipt of an access changes: the access in progress, or the answer (R1, R4). -/
theorem State.receive_cases (s : State) (a : Addr) (op : BusOp) :
    ∃ x, s.receive a op = { s with path := x } ∧ x.state = s.path.state ∧ x.windows = s.path.windows := by
  unfold State.receive
  split <;> exact ⟨_, rfl, rfl, rfl⟩

theorem State.receive_ordinary (s : State) (a : Addr) (op : BusOp) : Ordinary s (s.receive a op) := by
  obtain ⟨x, e, hst, hw⟩ := s.receive_cases a op
  have hslots : s.SlotsInOrder → (s.receive a op).SlotsInOrder := fun h => h.receive a op
  rw [e] at hslots ⊢
  exact {
    slots := hslots
    settings := fun h => { h with
      windows := fun t ht => h.windows t (hw ▸ ht)
      running := fun hr => h.running (hst ▸ hr) }
    ring := fun _ h t ht => h t (hw ▸ ht) }

theorem Ordinary.trans_handed {s t u : State} (h : Ordinary s t) (k : Handed t u)
    (hslots : s.SlotsInOrder → u.SlotsInOrder) : Ordinary s u := by
  obtain ⟨c, r, n, a, q, rfl, k1, k2, k3, k4, k5, -⟩ := k
  exact {
    h with
    slots := hslots
    settings := fun hs => { h.settings hs with notices := k4 (h.settings hs).notices }
    ring := fun hs hr w hw => by
      obtain ⟨h1, h2, h3⟩ := h.ring hs hr w hw
      exact ⟨k1.trans_lt h1, k2.trans_lt h2, fun n hn => h3 n (k3.symm.trans hn)⟩
    position := fun hp => by
      obtain ⟨h1, h2⟩ := h.position hp
      exact ⟨h1.trans k5.ge, k5.trans_le h2⟩ }

theorem State.assembleWrite_ordinary {s : State} {b : BusAccess} {lanes : Lanes} {w : Word} {l : Fin 32} {p : Fin 48}
    {i : Fin 128} (hg : s.grantedSnoop = some (b, lanes, w)) (hp : b.place = .sample l p i) (later between : Bool) :
    Ordinary s ((s.performBus b).assembleWrite l p i lanes w later between) := by
  obtain ⟨hgr, hop, hsn⟩ := State.grantedSnoop_some hg
  have hbus : s.path.bus = some b := by
    unfold State.granted at hgr
    split at hgr
    · exact hgr
    · cases hgr
  have hpb : (s.performBus b).path.bus = none ∧ (s.performBus b).cap = s.cap := by
    unfold State.performBus
    split <;> exact ⟨rfl, rfl⟩
  refine (s.performBus_ordinary b).trans_handed ((s.performBus b).assembleWrite_handed l p i lanes w later between) ?_
  intro hs
  have hmap : (s.performBus b).cap.map[l] = p := by
    simp only [hpb.2]
    exact hs.2.2.2.2.2.2.2 b l p i hbus hsn hp
  exact ((s.performBus_ordinary b).slots hs).assembleWrite hmap hpb.1 i lanes w later between

theorem State.snoopNotice_ordinary (s : State) (lanes : Lanes) (w : Word) : Ordinary s (s.snoopNotice lanes w) :=
  Ordinary.after (t := { s with path := (s.snoopNotice lanes w).path }) (.notice fun h => h.control _ _)
    (.path rfl rfl (.inl rfl))

theorem State.snoopConsumer_ordinary (s : State) (lanes : Lanes) (w : Word) : Ordinary s (s.snoopConsumer lanes w) :=
  (State.takeConsumer_ordinary _ _).after (.path rfl rfl (.inl rfl))

/-- The executing command ends when its completion word has been written (R152). -/
theorem State.finish_keeps (s : State) (i : Fin 8) : Keeps s { s.slotDone i with cmd := { (s.slotDone i).cmd with
    exec := if (s.slotDone i).cmd.exec.map (·.slot) = some i then none else (s.slotDone i).cmd.exec } } := by
  have h := (s.slotDone_ordinary i).toKeeps
  refine h.trans ?_
  generalize hu : s.slotDone i = u
  have hdone : (u.cmd.slots[i]).state = .done := by
    subst hu
    rw [State.slotDone_state, if_pos rfl]
  exact {
    settings := fun h => { h with mould := ⟨h.mould.1, fun e he => by
      dsimp only at he
      split at he
      · cases he
      · exact h.mould.2 e he⟩ }
    executing := fun h j hj => by
      obtain ⟨e, he, rfl⟩ := h j hj
      have hj' : (u.cmd.slots[e.slot]).state = .executing := hj
      refine ⟨e, ?_, rfl⟩
      dsimp only
      rw [if_neg, he]
      rw [he]
      rintro heq
      cases heq
      exact absurd (hdone.symm.trans hj') (by decide) }

theorem State.internalHead_some {s : State} {r : Request} {rest : List Request} (h : s.internalHead = some (r, rest)) :
    s.path.port = some .internal ∧ s.iq = r :: rest := by
  unfold State.internalHead at h
  split at h
  · next hp hq => cases h; exact ⟨hp, hq⟩
  · cases h

theorem State.performInternal_keeps {s : State} {r : Request} {rest : List Request} (h : s.internalHead = some (r, rest)) :
    Keeps s (s.performInternal r rest) := by
  obtain ⟨-, hq⟩ := State.internalHead_some h
  have hpop : Ordinary s { s with iq := rest, path := { s.path with port := none } } :=
    Ordinary.after (t := { s with iq := rest }) (.path rfl rfl (.inl rfl)) (.iq fun hb => by
      have : s.iq.length = rest.length + 1 := by rw [hq]; rfl
      have : s.iq.length ≤ queueCapacity := hb
      omega)
  unfold State.performInternal
  dsimp only
  split
  · exact (hpop.trans (.mem _)).toKeeps
  · exact (hpop.trans (.mem _)).toKeeps.trans (State.finish_keeps _ _)
  · exact (hpop.trans (State.receiveTableWord_ordinary _ _)).toKeeps

end

end Sys2Proof.Machine
end

section
/-! PROOFS. What the arguments of the commands and an image that passes its checks give lies in its range. -/

namespace Sys2Proof.Machine

/-! ## Clamping -/

theorem clampTo_within {lo hi : Nat} (h : lo ≤ hi) (v : Nat) : within lo hi (clampTo lo hi v) :=
  ⟨Nat.le_max_left _ _, max_le h (Nat.min_le_left _ _)⟩

theorem clampTo_le {hi : Nat} (v : Nat) : clampTo 0 hi v ≤ hi := (clampTo_within (Nat.zero_le _) v).2

/-! ## Gate steps (R43) -/

theorem bits_lt (w : Word) (lo width : Nat) : bits w lo width < 2 ^ width := Nat.mod_lt _ (Nat.two_pow_pos _)

theorem outside_eq_false {lo hi v : Nat} : outside lo hi v = false ↔ within lo hi v := by
  simp [outside, within]

theorem outside_eq_true {lo hi v : Nat} : outside lo hi v = true ↔ ¬ within lo hi v := by
  simp only [outside, within, Bool.or_eq_true, decide_eq_true_eq]
  omega

theorem stepOfWord_inRange {w : Word} {g : GateStep} (h : stepOfWord w = some g) : g.InRange := by
  unfold stepOfWord at h
  split at h
  · cases h
  · dsimp only at h
    split at h
    · cases h
    · next wait _ hline =>
      cases h
      have h1 := bits_lt w 4 4
      have h2 := bits_lt w 8 3
      refine ⟨by dsimp only; omega, by dsimp only; omega, fun he => ?_⟩
      dsimp only at he
      subst he
      exact outside_eq_false.mp (by simpa using hline)

/-- Step words are read one by one. -/
theorem stepsOfWords_some {ws : List Word} {gs : List GateStep} (h : stepsOfWords ws = some gs) :
    ws.map stepOfWord = gs.map some := by
  induction ws generalizing gs with
  | nil => cases h; rfl
  | cons w ws ih =>
    unfold stepsOfWords at h
    split at h
    · next g gs' hg hgs => cases h; simp [hg, ih hgs]
    · cases h

theorem programInRange_of_words {ws : List Word} {gs : List GateStep} (h : stepsOfWords ws = some gs)
    (hn : within 1 12 ws.length) : programInRange gs := by
  have hmap := stepsOfWords_some h
  have hlen : gs.length = ws.length := by
    have := congrArg List.length hmap
    simpa using this.symm
  refine ⟨by rwa [hlen], fun g hg => ?_⟩
  have : some g ∈ ws.map stepOfWord := by rw [hmap]; exact List.mem_map_of_mem hg
  obtain ⟨w, _, hw⟩ := List.mem_map.mp this
  exact stepOfWord_inRange hw

theorem stepCountOk_iff {n : Nat} : stepCountOk n = true ↔ within 1 12 n := by
  simp [stepCountOk, within]

/-! ## The SET commands (R37, R38, R42, R55, R81, R99, R143, R148) -/

section
variable {sh : Vector Word 16}

theorem detectorArgs_inRange (sh : Vector Word 16) : (detectorArgs sh).1.InRange :=
  ⟨clampTo_within (by decide) _, clampTo_within (by decide) _, clampTo_within (by decide) _, clampTo_le _,
    clampTo_within (by decide) _, clampTo_le _, clampTo_within (by decide) _⟩

theorem eventArgs_error {base : EventSettings} {c : Code} (h : eventArgs base sh = .error c) : c = .refusedValue := by
  unfold eventArgs at h
  dsimp only at h
  split at h <;> cases h
  rfl

theorem eventArgs_inRange {base e : EventSettings} {b : Bool} (h : eventArgs base sh = .ok (e, b)) (hb : base.InRange) :
    e.InRange := by
  unfold eventArgs at h
  dsimp only at h
  split at h <;> cases h
  obtain ⟨-, -, -, -, hg⟩ := hb
  exact ⟨clampTo_within (by decide) _, clampTo_le _, clampTo_le _, clampTo_le _, hg⟩

theorem weightArgs_inRange {base : EventSettings} (hb : base.InRange) (sh : Vector Word 16) :
    (weightArgs base sh).1.InRange := by
  obtain ⟨h1, h2, h3, h4, -⟩ := hb
  exact ⟨h1, h2, h3, h4, clampTo_le _, clampTo_le _, clampTo_le _, clampTo_le _, clampTo_le _⟩

theorem policyArgs_error {c : Code} (h : policyArgs sh = .error c) : c = .refusedValue ∨ c = .refusedOrder := by
  unfold policyArgs at h
  dsimp only at h
  split at h
  · cases h; exact .inl rfl
  · split at h <;> cases h
    exact .inr rfl

theorem policyArgs_inRange {p : Policy} {b : Bool} (h : policyArgs sh = .ok (p, b)) : p.InRange := by
  unfold policyArgs at h
  dsimp only at h
  split at h
  · cases h
  · split at h
    · next ho =>
      cases h
      simp only [Bool.and_eq_true, decide_eq_true_eq] at ho
      have h1 := (clampTo_within (show 1 ≤ 1023 by decide) (argument sh 1)).1
      have h3 := (clampTo_within (show 1 ≤ 1023 by decide) (argument sh 3)).2
      have hh := clampTo_le (hi := clampTo 1 1023 (argument sh 1) - 1) (argument sh 4)
      refine ⟨h1, ho.1, ho.2, h3, ?_, clampTo_within (by decide) _, clampTo_le _, clampTo_le _, clampTo_le _⟩
      dsimp only
      omega
    · cases h

theorem bandArgs_error {c : Code} (h : bandArgs sh = .error c) : c = .refusedOrder := by
  unfold bandArgs at h
  dsimp only at h
  split at h <;> cases h
  rfl

theorem bandArgs_inRange {v : Nat × Nat} {b : Bool} (h : bandArgs sh = .ok (v, b)) : bandInRange v.1 v.2 := by
  unfold bandArgs at h
  dsimp only at h
  split at h
  · cases h
  · next ho =>
    cases h
    exact ⟨(clampTo_within (by decide) _).1, Nat.le_of_not_lt ho, (clampTo_within (by decide) _).2⟩

/-- The filter length that SET LINE sets lies in its range. -/
def LineChange.InRange : LineChange → Prop
  | .line _ l => within 1 8 l.filter
  | .tacho t => within 1 8 t.filter

theorem lineArgs_error {c : Code} (h : lineArgs sh = .error c) : c = .refusedValue := by
  unfold lineArgs at h
  dsimp only at h
  split at h
  · split at h
    · cases h
    · split at h
      · split at h <;> cases h
        rfl
      · cases h; rfl
  · cases h; rfl

theorem lineArgs_inRange {v : LineChange} {b : Bool} (h : lineArgs sh = .ok (v, b)) : v.InRange := by
  unfold lineArgs at h
  dsimp only at h
  split at h
  · split at h
    · cases h; exact clampTo_within (by decide) _
    · split at h
      · split at h <;> cases h
        exact clampTo_within (by decide) _
      · cases h
  · cases h

theorem noticeArgs_error {c : Code} (h : noticeArgs sh = .error c) : c = .refusedValue := by
  unfold noticeArgs at h
  dsimp only at h
  split at h
  · cases h; rfl
  · split at h <;> cases h
    rfl

theorem noticeArgs_inRange {v : NoticeChange} {b : Bool} (h : noticeArgs sh = .ok (v, b)) :
    v.level ≤ 7 ∧ within 1 255 v.batch := by
  unfold noticeArgs at h
  dsimp only at h
  split at h
  · cases h
  · split at h <;> cases h
    exact ⟨clampTo_le _, clampTo_within (by decide) _⟩

theorem stopArgs_error {c : Code} (h : stopArgs sh = .error c) : c = .refusedValue := by
  unfold stopArgs at h
  dsimp only at h
  split at h <;> cases h
  rfl

theorem stopArgs_inRange {v : Half × StopMode × Nat} {b : Bool} (h : stopArgs sh = .ok (v, b)) : v.2.2 ≤ 15 := by
  unfold stopArgs at h
  dsimp only at h
  split at h <;> cases h
  exact clampTo_le _

theorem entryArgs_error {c : Code} (h : entryArgs sh = .error c) : c = .refusedValue := by
  unfold entryArgs at h
  dsimp only at h
  split at h <;> cases h
  rfl

theorem programArgs_error {c : Code} (h : programArgs sh = .error c) : c = .refusedValue ∨ c = .refusedLength := by
  unfold programArgs at h
  dsimp only at h
  split at h
  · split at h <;> cases h
    exact .inl rfl
  · cases h; exact .inr rfl

theorem programArgs_inRange {p : List GateStep} (h : programArgs sh = .ok p) : programInRange p := by
  unfold programArgs at h
  dsimp only at h
  split at h
  · next hn =>
    split at h
    · next hs =>
      cases h
      exact programInRange_of_words hs (by simpa using stepCountOk_iff.mp hn)
    · cases h
  · cases h

end

/-! ## The configuration image (R3, R160) -/

section
variable (bs : List Byte)

theorem mem_tableOf {f : Nat → Byte} {b : Byte} (h : b ∈ (tableOf f).toList) : ∃ i < 196, b = f i := by
  simp only [tableOf, Vector.toList_mk, List.mem_map, List.mem_range] at h
  obtain ⟨i, hi, rfl⟩ := h
  exact ⟨i, hi, rfl⟩

theorem imageByte_lt (i : Nat) : imageByte bs i < 256 := (bs[i]?.getD 0xFF).isLt

theorem entryOk_le {v : Nat} (h : entryOk v = true) : v ≤ 31 := by
  simp only [entryOk, Bool.or_eq_true, decide_eq_true_eq, beq_iff_eq] at h
  omega

theorem defaultProfile_inRange : defaultProfile.InRange := by
  refine ⟨⟨by decide, by decide⟩, ⟨by decide, by decide⟩, by decide, fun b hb => ?_, by decide⟩
  obtain ⟨i, hi, rfl⟩ := mem_tableOf hb
  have hle : (if i < 192 then i / 48 else i - 192) ≤ 3 := by split <;> omega
  rw [BitVec.toNat_ofNat, Nat.mod_eq_of_lt (by omega)]
  unfold entryOk
  simp only [Bool.or_eq_true, decide_eq_true_eq]
  omega

theorem trimMask_lt {mask n : Nat} (hn : n ≤ 24) : (trimMask mask n).toNat < 2 ^ n := by
  have h1 : mask % 2 ^ n < 2 ^ n := Nat.mod_lt _ (Nat.two_pow_pos n)
  have h2 : 2 ^ n ≤ 2 ^ 24 := Nat.pow_le_pow_right (by decide) hn
  rw [trimMask, BitVec.toNat_ofNat, Nat.mod_eq_of_lt (h1.trans_le h2)]
  exact h1

theorem profileOf_inRange {p : Nat} (h : profileValuesOk bs p = true) : (profileOf bs p).InRange := by
  unfold profileValuesOk at h
  simp only [Bool.and_eq_true, bne_iff_ne, Bool.not_eq_true', outside_eq_false, List.all_eq_true, List.mem_range] at h
  obtain ⟨⟨htype, hzones⟩, htable⟩ := h
  have hlt := imageByte_lt bs (profileBase p)
  refine ⟨⟨Nat.one_le_iff_ne_zero.mpr htype, Nat.le_of_lt_succ hlt⟩, hzones, clampTo_le _, fun b hb => ?_,
    trimMask_lt hzones.2⟩
  obtain ⟨i, hi, rfl⟩ := mem_tableOf hb
  have hok := htable i hi
  rw [BitVec.toNat_ofNat, Nat.mod_eq_of_lt (by have := entryOk_le hok; omega)]
  exact hok

theorem mem_storedSlots {p : Nat} : p ∈ storedSlots bs ↔ p < 4 ∧ profileStored bs p = true := by
  simp [storedSlots]

theorem profileStored_iff {p : Nat} : profileStored bs p = true ↔
    profileValuesOk bs p = true ∧ ∀ j < p, imageByte bs (profileBase j) ≠ imageByte bs (profileBase p) := by
  simp [profileStored]

/-- No two profile slots that are not ignored have one type. -/
theorem storedSlots_types_nodup : ((storedSlots bs).map fun p => imageByte bs (profileBase p)).Nodup := by
  refine List.Nodup.map_on (fun p hp q hq h => ?_) (List.nodup_range.filter _)
  obtain ⟨-, hps⟩ := (mem_storedSlots bs).mp hp
  obtain ⟨-, hqs⟩ := (mem_storedSlots bs).mp hq
  rw [profileStored_iff] at hps hqs
  by_contra hne
  rcases Nat.lt_or_gt_of_ne hne with hlt | hlt
  · exact hqs.2 p hlt h
  · exact hps.2 q hlt h.symm

theorem imageProfiles_inRange : profilesInRange (imageProfiles bs) := by
  have hmem (p : Nat) (hp : p ∈ storedSlots bs) : (profileOf bs p).InRange :=
    profileOf_inRange bs ((profileStored_iff bs).mp ((mem_storedSlots bs).mp hp).2).1
  have hnodup := storedSlots_types_nodup bs
  have hlen : (storedSlots bs).length ≤ 4 := List.length_filter_le _ _
  unfold imageProfiles
  split
  · refine ⟨⟨by decide, by decide⟩, fun p hp => ?_, by simp⟩
    rw [List.mem_singleton.mp hp]
    exact defaultProfile_inRange
  · next hne =>
    refine ⟨⟨?_, by rwa [List.length_map]⟩, fun p hp => ?_, ?_⟩
    · rw [List.length_map]
      exact List.length_pos_of_ne_nil hne
    · obtain ⟨q, hq, rfl⟩ := List.mem_map.mp hp
      exact hmem q hq
    · rw [List.map_map]
      exact hnodup

theorem imageProgram_inRange (h : programOk bs = true) : programInRange ((stepsOfWords (imageStepWords bs)).getD []) := by
  unfold programOk at h
  simp only [Bool.and_eq_true, Option.isSome_iff_exists] at h
  obtain ⟨hn, gs, hgs⟩ := h
  rw [hgs]
  exact programInRange_of_words hgs (by simpa [imageStepWords] using stepCountOk_iff.mp hn)

theorem lineOfByte_inRange (v : Nat) : within 1 8 (lineOfByte v).filter := clampTo_within (by decide) _

/-- The five checks of an image, named (R160). -/
theorem imageOk_iff : imageOk bs = true ↔ markersOk bs = true ∧ crcOk bs = true ∧ windowsOk (imageWindows bs) = true
    ∧ orderOk bs = true ∧ programOk bs = true := by
  simp [imageOk, and_assoc]

theorem orderOk_iff : orderOk bs = true ↔ clampTo 1 1023 (imageWord16 bs 40) < clampTo 1 1023 (imageWord16 bs 42)
    ∧ clampTo 1 1023 (imageWord16 bs 42) < clampTo 1 1023 (imageWord16 bs 44)
    ∧ clampTo 1 65535 (imageWord16 bs 53) ≤ clampTo 1 65535 (imageWord16 bs 55) := by
  simp [orderOk, and_assoc]

/-- What an image that passes its checks gives lies in range, whatever its bytes (R3, R160). -/
theorem imageConfig_inRange (h : imageOk bs = true) : (imageConfig bs).InRange := by
  obtain ⟨-, -, hw, horder, hprog⟩ := (imageOk_iff bs).mp h
  obtain ⟨h1, h2, h3⟩ := (orderOk_iff bs).mp horder
  have hc (hi v : Nat) (h : 1 ≤ hi) : within 1 hi (clampTo 1 hi v) := clampTo_within h v
  have htw := (hc 1023 (imageWord16 bs 40) (by decide)).1
  have hh := clampTo_le (hi := clampTo 1 1023 (imageWord16 bs 40) - 1) (imageWord16 bs 46)
  refine ⟨hw, ?_, ?_, ?_, ⟨(hc _ _ (by decide)).1, h3, (hc _ _ (by decide)).2⟩, ?_, clampTo_within (by decide) _,
    imageProgram_inRange bs hprog, ?_, hc _ _ (by decide), hc _ _ (by decide), clampTo_le _, ?_, imageProfiles_inRange bs⟩
  · exact ⟨hc _ _ (by decide), clampTo_within (by decide) _, clampTo_within (by decide) _, clampTo_le _,
      clampTo_within (by decide) _, clampTo_le _, clampTo_within (by decide) _⟩
  · exact ⟨hc _ _ (by decide), clampTo_le _, clampTo_le _, clampTo_le _, clampTo_le _, clampTo_le _, clampTo_le _,
      clampTo_le _, clampTo_le _⟩
  · refine ⟨htw, h1, h2, (hc _ _ (by decide)).2, ?_, hc _ _ (by decide), clampTo_le _, clampTo_le _, clampTo_le _⟩
    show clampTo 0 (clampTo 1 1023 (imageWord16 bs 40) - 1) (imageWord16 bs 46) < clampTo 1 1023 (imageWord16 bs 40)
    omega
  · intro l hl
    simp only [imageConfig, Vector.toList_mk, List.mem_map] at hl
    obtain ⟨i, -, rfl⟩ := hl
    exact lineOfByte_inRange _
  · intro v hv
    simp only [imageConfig, Vector.toList_mk, List.mem_map] at hv
    obtain ⟨i, -, rfl⟩ := hv
    omega
  · exact Nat.le_of_lt_succ (imageByte_lt bs 135)

end

theorem builtInDefaults_inRange : builtInDefaults.InRange := by
  unfold ImageConfig.InRange DetSettings.InRange EventSettings.InRange Policy.InRange bandInRange programInRange
    GateStep.InRange within
  refine ⟨by decide, by decide, by decide, by decide, by decide, by decide, by decide, by decide, by decide, by decide,
    by decide, by decide, by decide, ⟨⟨by decide, by decide⟩, fun p hp => ?_, by simp [builtInDefaults]⟩⟩
  rw [List.mem_singleton.mp hp]
  exact defaultProfile_inRange

end Sys2Proof.Machine
end

section
/-! PROOFS. Every row but a cold reset keeps the invariants, and all but a few keep the order of commands and leave CRACKED zones
so. -/

namespace Sys2Proof.Machine

section
variable {s : State}

/-! ## Commands that begin (R152) -/

/-- A command that begins makes its slot EXECUTING, and no other one is. -/
theorem State.begun_keeps {fn : Nat} {i : Fin 8} {rest : List (Fin 8)} (hb : s.Begins fn i rest) {job : Job}
    (hj : job.InRange) : Keeps s (s.begun i rest job) where
  settings h := { h with mould := ⟨h.mould.1, fun e he => by cases he; exact hj⟩ }
  executing h j hj := by
    have hj' : ((s.begun i rest job).cmd.slots[j]).state = .executing := hj
    have hslot : (s.begun i rest job).cmd.slots[j]
        = if j = i then { s.cmd.slots[i] with state := .executing } else s.cmd.slots[j] := vector_getElem_set_fin _ _ _ _
    rw [hslot] at hj'
    split at hj'
    · next e => exact ⟨⟨i, job⟩, rfl, e.symm⟩
    · obtain ⟨e, he, -⟩ := h j hj'
      rw [hb.2.1] at he
      cases he

/-- Neither a command that begins nor its completing job is a MOULD CHANGE. -/
theorem State.begun_mouldBusy {i : Fin 8} {rest : List (Fin 8)} {job : Job} (hj : ∀ p w st, job ≠ .mould p w st) :
    (s.begun i rest job).mouldBusy = false := by
  cases job with
  | mould p w st => exact absurd rfl (hj p w st)
  | completing => rfl
  | records => rfl
  | loading => rfl
  | saving => rfl
  | verifying => rfl
  | reloading => rfl

/-- Checked arguments applied, or the command refused. -/
theorem State.applyArgs_ordinary {α : Type} {args : Except Code (α × Bool)} {apply : State → α → State}
    (hc : ∀ c, args = .error c → c.CanWait) (h : ∀ v b, args = .ok (v, b) → Ordinary s (apply s v)) :
    Ordinary s (s.applyArgs args apply) := by
  cases args with
  | error c => exact s.complete_ordinary (hc c rfl)
  | ok x =>
    obtain ⟨v, b⟩ := x
    exact (h v b rfl).trans (State.complete_ordinary _ (by unfold doneCode; cases b <;> decide))

/-! ## The SET commands -/

theorem State.setDetector_ordinary {d : DetSettings} (hd : d.InRange) :
    Ordinary s { s with det := { s.det with pending := some d } } :=
  .det (fun h => ⟨h.1, fun _ hx => Option.some.inj hx ▸ hd⟩) fun _ h => h

theorem State.setEvents_ordinary {e : EventSettings} (he : s.SettingsInRange → e.InRange) :
    Ordinary s { s with ev := { s.ev with pending := some e } } where
  settings h := { h with events := ⟨h.events.1, fun _ hx => Option.some.inj hx ▸ he h⟩ }

theorem State.eventBase_inRange (h : s.SettingsInRange) : s.eventBase.InRange := by
  unfold State.eventBase
  cases hp : s.ev.pending with
  | none => exact h.events.1
  | some e => exact h.events.2 e hp

theorem State.setPolicy_ordinary {p : Policy} (hp : p.InRange) :
    Ordinary s { s with zone := { s.zone with policy := p } } where
  settings h := { h with policy := hp }

theorem State.stageProgram_ordinary {p : List GateStep} (hp : programInRange p) :
    Ordinary s { s with gate := { s.gate with staged := some p } } where
  settings h := { h with programs := ⟨h.programs.1, fun _ hx => Option.some.inj hx ▸ hp⟩ }

theorem State.changeLine_ordinary {c : LineChange} (hc : c.InRange) : Ordinary s (s.changeLine c) := by
  cases c with
  | line i l => exact .lines fun h => Vector.forall_mem_set h i hc
  | tacho t => exact .tacho id fun _ => hc

theorem State.changeNotice_ordinary {c : NoticeChange} (hl : c.level ≤ 7) (hb : within 1 255 c.batch) :
    Ordinary s (s.changeNotice c) := by
  have hset : Ordinary s { s with notice := { s.notice with
      enables := setEnable s.notice.enables c.factor c.enable
      levels := vmod s.notice.levels c.factor fun _ => c.level } } :=
    .notice fun h => ⟨forall_mem_vmod h.1 _ hl, h.2⟩
  exact .ite (hset.trans (State.loadBatch_ordinary _ _ hb)) (.ite (hset.trans (State.loadBatch_ordinary _ _ hb)) hset)

theorem Assembler.emptyTags_position (a : Assembler) (ps : List (Fin 48)) : (a.emptyTags ps).position = a.position := by
  induction ps generalizing a with
  | nil => rfl
  | cons p ps ih => exact ih (a.setTag p .empty)

theorem State.releaseById_ordinary (s : State) (c : Nat) : Ordinary s (s.releaseById c) := by
  unfold State.releaseById
  split
  · next hc =>
    split
    · refine Ordinary.trans ?_ (State.complete_ordinary _ (by decide))
      have hh : Handed s (s.releaseCapture ⟨c, hc⟩) :=
        ⟨_, _, _, _, _, rfl, rfl, rfl, rfl, id, Assembler.emptyTags_position _ _, rfl⟩
      exact hh.ordinary fun h => h.releaseCapture _
    · exact s.complete_ordinary (by decide)
    · exact s.complete_ordinary (by decide)
  · exact s.complete_ordinary (by decide)

/-! ## The image read and the entry to RUNNING (R12, R161) -/

theorem State.loaderPhase_ordinary {l : Loader} (hst : l.stored = s.loader.stored)
    (hr : ∀ cfg st, l.phase = .ready cfg st → cfg.InRange) : Ordinary s { s with loader := l } where
  settings h := { h with
    profiles := fun hne => hst ▸ h.profiles (hst ▸ hne)
    ready := hr
    running := fun hrun => ⟨(h.running hrun).1, hst ▸ (h.running hrun).2⟩ }

theorem State.beginAttempt_ordinary (s : State) (second : Bool) : Ordinary s (s.beginAttempt second) :=
  State.loaderPhase_ordinary rfl fun _ _ h => nomatch h

theorem judgeRead_inRange {status : Byte} {bs : List Byte} {cfg : ImageConfig} {b : Bool}
    (h : judgeRead status bs = some (cfg, b)) : cfg.InRange := by
  unfold judgeRead at h
  split at h
  · cases h
  · next hok =>
    cases h
    simp only [Bool.or_eq_true, not_or, Bool.not_eq_true', Bool.not_eq_false] at hok
    exact imageConfig_inRange bs hok.2

theorem afterAttempt_inRange {second : Bool} {result : Option (ImageConfig × Bool)} {now : Nat} {cfg : ImageConfig}
    {st : ImageStatus} (hres : ∀ c b, result = some (c, b) → c.InRange)
    (h : afterAttempt second result now = .ready cfg st) : cfg.InRange := by
  unfold afterAttempt at h
  split at h
  · cases h; exact hres _ _ rfl
  · cases h
  · cases h; exact builtInDefaults_inRange

theorem State.imageRead_ordinary (s : State) (second : Bool) (status : Byte) (bytes : List Byte) :
    Ordinary s { s with loader := { s.loader with phase := afterAttempt second (judgeRead status bytes) s.clock } } :=
  State.loaderPhase_ordinary rfl fun _ _ h => afterAttempt_inRange (fun _ _ => judgeRead_inRange) h

theorem State.runningDue_some {cfg : ImageConfig} {st : ImageStatus} (h : s.runningDue = some (cfg, st)) :
    s.loader.phase = .ready cfg st := by
  unfold State.runningDue at h
  split at h
  · next hp => split at h <;> cases h; exact hp
  · cases h

/-- Every block but the Notice Unit and the mould takes the configuration. -/
theorem State.applyBlocks_keeps {cfg : ImageConfig} {st : ImageStatus} (hready : s.loader.phase = .ready cfg st) :
    Keeps s (s.applyBlocks cfg st) where
  settings h := by
    obtain ⟨hw, hd, he, hp, hb, hl, ht, hprog, -, -, -, -, -, hprof⟩ := h.ready cfg st hready
    exact {
      windows := fun t e => Option.some.inj e ▸ hw
      detector := ⟨hd, fun _ hx => nomatch hx⟩
      events := ⟨he, fun _ hx => nomatch hx⟩
      policy := hp
      band := hb
      filters := ⟨fun l hl' => by
        simp only [State.applyBlocks, Vector.mem_toList_iff, Vector.mem_ofFn] at hl'
        obtain ⟨i, rfl⟩ := hl'
        exact hl cfg.lines[i] (by simp), ht⟩
      programs := ⟨fun _ hx => Option.some.inj hx ▸ hprog, fun _ hx => nomatch hx⟩
      notices := h.notices
      profiles := fun _ => hprof
      mould := ⟨h.mould.1, fun _ hx => nomatch hx⟩
      ready := fun _ _ hx => nomatch hx
      running := fun _ => ⟨by simp [State.applyBlocks], List.ne_nil_of_length_pos hprof.1.1⟩ }
  queue h := by
    show (s.iq.map Request.plain).length ≤ queueCapacity
    rw [List.length_map]
    exact h
  ring hs _ t e := by
    have hw := (hs.ready cfg st hready).1
    cases e
    have hr : 0 < cfg.windows.r := by
      have : outside 16 512 cfg.windows.r = false := by
        unfold windowsOk at hw
        simp only [Bool.and_eq_true, Bool.not_eq_true'] at hw
        exact hw.1.1.1.1.1.1.1
      have := (outside_eq_false.mp this).1
      omega
    exact ⟨hr, hr, fun _ hx => nomatch hx⟩
  executing _ i hi := by
    have hi' : ((Vector.replicate 8 ({} : Slot))[i]).state = .executing := hi
    rw [show (Vector.replicate 8 ({} : Slot))[i] = {} from Vector.getElem_replicate ..] at hi'
    cases hi'
  waits _ _ hx := nomatch hx

/-- The mould chosen is a stored one, or the default. -/
theorem State.applyMould_keeps {cfg : ImageConfig} (hp : s.loader.stored = cfg.profiles) : Keeps s (s.applyMould cfg) := by
  unfold State.applyMould
  split
  · next p _ =>
    exact (Ordinary.openEvents (e := { s.ev with profile := some p }) rfl rfl id).toKeeps
  · refine (State.putMould_orderly fun hs => ?_).toKeeps
    unfold profileOfType
    cases hf : cfg.profiles.find? fun p => p.type == chooseType cfg with
    | none => decide
    | some p =>
      have hmem : p ∈ s.loader.stored := hp ▸ List.mem_of_find?_eq_some hf
      exact (State.Offers.inRange (.inr hmem) hs).type_le

/-- What touches no field but the notices differs in them alone. -/
theorem Touches.eq_notice_status {t : State} (h : Touches [.notice, .status] s t) :
    t = { s with notice := t.notice, status := t.status } := by
  have e := fun f hf => h f hf
  obtain ⟨a1, a2, a3, a4, a5, a6, a7, a8, a9, b1, b2, b3, b4, b5, b6, b7⟩ :=
    And.intro (e .pending (by decide)) <| And.intro (e .mem (by decide)) <| And.intro (e .path (by decide)) <|
    And.intro (e .iq (by decide)) <| And.intro (e .loader (by decide)) <| And.intro (e .asm (by decide)) <|
    And.intro (e .aq (by decide)) <| And.intro (e .lines (by decide)) <| And.intro (e .tacho (by decide)) <|
    And.intro (e .gate (by decide)) <| And.intro (e .det (by decide)) <| And.intro (e .ev (by decide)) <|
    And.intro (e .zone (by decide)) <| And.intro (e .cap (by decide)) <| And.intro (e .report (by decide)) <|
    And.intro (e .cmd (by decide)) <| And.intro (e .clock (by decide)) (e .free (by decide))
  cases t
  simp_all [Field.agree]

theorem NoticeUnit.InRange.loadBatch {n : State} (h : n.notice.InRange) (k : BatchKind) {count : Nat}
    (hc : within 1 255 count) : (n.loadBatch k count).notice.InRange := by
  have hf : (n.fireBatch k).notice.InRange := by
    unfold State.fireBatch
    split
    · refine NoticeUnit.InRange.raise ?_ _ _
      exact h.setBatch k (h.batch k)
    · exact h
  exact hf.setBatch k hc

/-- The notices that the entry to RUNNING leaves lie in range. -/
theorem State.applyNotice_inRange {cfg : ImageConfig} (h : cfg.InRange) (hn : s.notice.InRange) :
    (s.applyNotice cfg).notice.InRange := by
  obtain ⟨-, -, -, -, -, -, -, -, hl, hbe, hbc, hk, -⟩ := h
  have h1 := (hn.loadBatch .event hbe).loadBatch .cycle hbc
  exact ⟨hl, h1.2.1, h1.2.2.1, hk⟩

theorem State.enterRunning_keeps {cfg : ImageConfig} {st : ImageStatus} (hready : s.loader.phase = .ready cfg st) :
    Keeps s (s.enterRunning cfg st) := by
  have hblocks := State.applyBlocks_keeps hready
  have hmould : Keeps s ((s.applyBlocks cfg st).applyMould cfg) := hblocks.trans (State.applyMould_keeps rfl)
  unfold State.enterRunning
  extract_lets s1 s2
  generalize hu : (s.applyBlocks cfg st).applyMould cfg = u at hmould
  have ht1 : Touches [.notice, .status] u s1 := by
    subst hu; exact (State.applyNotice_touches _ cfg).mono (by decide)
  have ht2 : Touches [.notice, .status] u s2 := .ite (ht1.trans ((s1.raise_touches _).mono (by decide))) ht1
  have heq := (ht2.trans ((s2.markWhere_touches fun _ => true).mono (by decide))).eq_notice_status
  have hn (hs : s.SettingsInRange) : (s2.markWhere fun _ => true).notice.InRange := by
    have h1 : s1.notice.InRange := by
      have := State.applyNotice_inRange (hs.ready cfg st hready) (hmould.settings hs).notices
      subst hu
      exact this
    show (if st.notable then s1.raise fImage else s1).notice.InRange
    split
    · exact h1.raise _ _
    · exact h1
  generalize s2.markWhere (fun _ => true) = t at heq hn
  rw [heq]
  exact { hmould with settings := fun hs => { hmould.settings hs with notices := hn hs } }

/-! ## Snooped command-window writes (R149 to R151) -/

theorem State.takeCommand_keeps (s : State) (i : Fin 8) : Keeps s (s.takeCommand i) := by
  have h : Ordinary s (s.modSlot i fun x => { x with state := .pending }) := State.modSlot_ordinary fun h => nomatch h
  exact h.toKeeps.trans { settings := fun h => { h with } }

/-- A snooped write to a slot takes its command at the tail of the queue, or leaves the order of commands. -/
theorem State.slotWrite_cases (s : State) (i : Fin 8) (k : Fin 16) (lanes : Lanes) (w : Word) :
    Ordinary s (s.slotWrite i k lanes w)
      ∨ ∃ u, Ordinary s u ∧ u.cmd.exec = s.cmd.exec ∧ s.slotWrite i k lanes w = u.takeCommand i := by
  unfold State.slotWrite
  extract_lets x v stored
  split
  · next hfree =>
    have h1 : Ordinary s (s.modSlot i stored) := State.modSlot_ordinary id
    split
    · unfold State.testTerminator
      split
      · exact .inl h1
      · exact .inr ⟨_, h1, rfl, rfl⟩
      · have h2 := State.modSlot_ordinary (s := s.modSlot i stored) (i := i) (f := fun x => { x with state := .pending })
          fun h => nomatch h
        exact .inl ((h1.trans h2).trans (State.queueCompletion_ordinary _ _ (by decide)))
    · exact .inl h1
  · left
    split
    · exact State.modSlot_ordinary fun h => nomatch h
    · exact .refl s
  · exact .inl (State.modSlot_ordinary id)

end

end Sys2Proof.Machine
end

section
/-! PROOFS. What a row other than a cold reset does to the invariants, to the order of commands and to CRACKED zones. -/

namespace Sys2Proof.Machine

/-- The commands that may take a zone out of CRACKED (design invariant 9). -/
def Uncracks (c : Instr) : Prop := c = .resetZone ∨ c = .maskZone ∨ c = .mouldChange ∨ c = .runningEntry

/-- A RELOAD that begins or has waited for room, or the entry to RUNNING, empties the command queue (R153, R157). -/
def State.Emptied (c : Instr) (s t : State) : Prop :=
  (c = .reload ∨ c = .runningEntry ∨ ∃ i, s.cmd.exec = some ⟨i, .reloading⟩) ∧ t.cmd.queue = [] ∧ t.cmd.exec = none

/-- The EXECUTING command ends with the write of its completion word (R152). -/
def State.Ended (c : Instr) (s t : State) : Prop :=
  ∃ first e r w, c = .internalAccessComplete first ∧ s.cmd.exec = some e ∧ s.iq.head? = some r
    ∧ r.act = .completion e.slot w ∧ t.cmd.queue = s.cmd.queue ∧ t.cmd.exec = none

/-- What a row keeps: the invariants, the order of commands, and CRACKED zones unless the row may take one out. -/
structure Moves (c : Instr) (s t : State) : Prop extends Keeps s t where
  order : s.cmd.OrderKept t.cmd ∨ State.Emptied c s t ∨ State.Ended c s t
  cracked : s.mouldBusy = false → ¬ Uncracks c → s.CrackedKept t

section
variable {s t u : State} {c : Instr}

theorem State.CrackedKept.trans (h : s.CrackedKept t) (k : t.CrackedKept u) : s.CrackedKept u := by
  intro z r hz hc
  obtain ⟨r', hz', hc'⟩ := h z r hz hc
  exact k z r' hz' hc'

theorem State.CrackedKept.of_zone (h : t.zone = s.zone) : s.CrackedKept t := fun z r hz hc => ⟨r, by rwa [h], hc⟩

theorem Orderly.orderKept (h : Orderly s t) : s.cmd.OrderKept t.cmd := .inl ⟨h.sameQueue, h.sameSlot⟩

theorem Ordinary.moves (h : Ordinary s t) (c : Instr) : Moves c s t where
  toKeeps := h.toKeeps
  order := .inl h.orderKept
  cracked hm _ := h.cracked hm

/-- What takes a command at the tail of the queue. -/
theorem Ordinary.moves_takeCommand (h : Ordinary s t) (he : t.cmd.exec = s.cmd.exec) (c : Instr) (i : Fin 8) :
    Moves c s (t.takeCommand i) where
  toKeeps := h.toKeeps.trans (t.takeCommand_keeps i)
  order := .inl (.inr (.inl ⟨i, congrArg (· ++ [i]) h.sameQueue, he⟩))
  cracked hm _ := (h.cracked hm).trans (.of_zone rfl)

/-! ## Commands that begin (R152) -/

/-- A command that begins works, and no CRACKED zone changes. -/
theorem Ordinary.moves_begun {fn : Nat} {i : Fin 8} {rest : List (Fin 8)} {job : Job} (hb : s.Begins fn i rest)
    (hj : job.InRange) (hm : ∀ p w st, job ≠ .mould p w st) (h : Ordinary (s.begun i rest job) u) (c : Instr) :
    Moves c s u where
  toKeeps := (State.begun_keeps hb hj).trans h.toKeeps
  order := .inl (.inr (.inr ⟨i, by rw [h.sameQueue]; exact hb.2.2.1, hb.2.1, h.sameSlot⟩))
  cracked _ _ := (State.CrackedKept.of_zone rfl).trans (h.cracked (State.begun_mouldBusy hm))

/-- A command that begins and may take a zone out of CRACKED. -/
theorem Orderly.moves_begun {fn : Nat} {i : Fin 8} {rest : List (Fin 8)} (hb : s.Begins fn i rest)
    (h : Orderly (s.begun i rest .completing) u) (hc : Uncracks c) : Moves c s u where
  toKeeps := (State.begun_keeps hb (job := .completing) trivial).trans h.toKeeps
  order := .inl (.inr (.inr ⟨i, by rw [h.sameQueue]; exact hb.2.2.1, hb.2.1, h.sameSlot⟩))
  cracked _ hn := absurd hc hn

theorem State.answered_moves {fn : Nat} {i : Fin 8} {rest : List (Fin 8)} (hb : s.Begins fn i rest) {code : Code}
    (hc : code.CanWait) (c : Instr) : Moves c s (s.answered i rest code) :=
  (State.complete_ordinary _ hc).moves_begun (job := .completing) hb trivial (fun _ _ _ => by simp) c

/-! ## RELOAD (R153, R157) -/

theorem State.reload_cracked (s : State) (hm : s.mouldBusy = false) : s.CrackedKept s.reload := by
  unfold State.reload
  extract_lets own others src
  generalize hu : State.placeCompletions (own ++ others) { s with cmd := { s.cmd with queue := [] } } = u
  have hz : u.zone = s.zone := by
    subst hu
    exact State.placeCompletions_touches _ _ .zone (by decide)
  have hx : u.cmd.exec = s.cmd.exec := by
    subst hu
    exact (State.placeCompletions_exec _ _).1
  refine (State.CrackedKept.of_zone hz).trans ?_
  unfold State.enterReloading
  extract_lets src s1 s2
  have h1 : s1.mouldBusy = false := by
    unfold State.mouldBusy at hm ⊢
    rwa [show s1.cmd.exec = s.cmd.exec from hx]
  exact (s1.endCycle_ordinary .reload s1.endTime).cracked h1

theorem State.reload_emptied (s : State) : s.reload.cmd.queue = [] ∧ s.reload.cmd.exec = none := by
  unfold State.reload
  extract_lets own others src
  generalize hu : State.placeCompletions (own ++ others) { s with cmd := { s.cmd with queue := [] } } = u
  have hq : u.cmd.queue = [] := by
    subst hu
    exact (State.placeCompletions_exec _ _).2
  unfold State.enterReloading
  extract_lets src s1 s2
  have hcmd : s2.cmd = u.cmd := s1.endCycle_touches .reload s1.endTime .cmd (by decide)
  exact ⟨(congrArg CommandUnit.queue hcmd).trans hq, rfl⟩

/-- A RELOAD goes on waiting, or acts. -/
theorem State.reloadOn_cases (s : State) :
    s.reloadOn = s ∨ ∃ i, s.cmd.exec = some ⟨i, .reloading⟩ ∧ s.roomForAll = true ∧ s.reloadOn = s.reload := by
  unfold State.reloadOn
  split
  · next i he =>
    split
    · exact .inl rfl
    · next h =>
      simp only [Bool.or_eq_true, not_or, Bool.not_eq_true', Bool.not_eq_false] at h
      exact .inr ⟨i, he, h.2, rfl⟩
  · exact .inl rfl

/-! ## Waiting requests (R15) -/

/-- The waiting requests of a source are placed, and only a RELOAD among the further work empties the queue. -/
theorem State.pump_cases (s : State) (src : Source) :
    Ordinary s (s.pump src)
      ∨ ∃ t i, Ordinary s t ∧ t.cmd.exec = s.cmd.exec ∧ s.cmd.exec = some ⟨i, .reloading⟩ ∧ t.roomForAll = true
        ∧ s.pump src = t.reload := by
  cases src with
  | reportWriter => exact .inl (s.pumpRecord_ordinary.trans (State.resume_ordinary _))
  | statusUpdate => exact .inl s.pumpStatus_ordinary
  | tableLoad => exact .inl (State.placeLoads_ordinary _ s)
  | commandUnit =>
    have hp := State.placeCompletions_ordinary s.cmd.waits s id
    have hx := (State.placeCompletions_exec s.cmd.waits s).1
    obtain e | ⟨i, he, hr, e⟩ := State.reloadOn_cases s.pumpCompletions
    · left
      show Ordinary s s.pumpCompletions.reloadOn
      rw [e]
      exact hp
    · exact .inr ⟨_, i, hp, hx, hx.symm.trans he, hr, e⟩

/-- What a RELOAD that has waited leaves, once the waiting words of the Command Unit are placed. -/
theorem Ordinary.moves_reload (h : Ordinary s t) {i : Fin 8} (he : s.cmd.exec = some ⟨i, .reloading⟩)
    (hr : t.roomForAll = true) (c : Instr) : Moves c s t.reload where
  toKeeps := h.toKeeps.trans (State.reload_keeps hr)
  order := .inr (.inl ⟨.inr (.inr ⟨i, he⟩), t.reload_emptied⟩)
  cracked hm _ := (h.cracked hm).trans (t.reload_cracked (h.noMould hm))

theorem State.pump_moves (s : State) (src : Source) (c : Instr) : Moves c s (s.pump src) := by
  obtain h | ⟨t, i, h, -, he, hr, e⟩ := s.pump_cases src
  · exact h.moves c
  · rw [e]; exact h.moves_reload he hr c

/-! ## Accesses of the internal master (R14, R152) -/

theorem State.complete_exec (s : State) (code : Code) :
    (s.complete code).cmd.exec = s.cmd.exec.map fun e => { e with job := .completing } := by
  unfold State.complete
  split
  · next e he =>
    refine (State.placeCompletions_exec _ _).1.trans ?_
    show s.cmd.exec.map _ = _
    rw [he]
  · next he => rw [he]; rfl

theorem State.modTable_cmd (s : State) (f : Vector Byte 196 → Vector Byte 196) : (s.modTable f).cmd = s.cmd := by
  unfold State.modTable
  split <;> rfl

/-- A table word that is received is no word of a RELOAD. -/
theorem State.receiveTableWord_reloading {w : Word} {i : Fin 8}
    (h : (s.receiveTableWord w).cmd.exec = some ⟨i, .reloading⟩) : s.cmd.exec = some ⟨i, .reloading⟩ := by
  unfold State.receiveTableWord at h
  split at h
  · next j got he =>
    dsimp only at h
    split at h
    · simp [State.setJob, he] at h
    · split at h <;> simp [State.complete_exec, State.modTable_cmd, he] at h
  · exact h

/-- The access of the oldest entry is ordinary work, or it writes the completion word of the EXECUTING command, which ends. -/
theorem State.performInternal_cases {r : Request} {rest : List Request} (h : s.internalHead = some (r, rest)) :
    (Ordinary s (s.performInternal r rest) ∧ ∀ i, (s.performInternal r rest).cmd.exec = some ⟨i, .reloading⟩ →
        s.cmd.exec = some ⟨i, .reloading⟩)
      ∨ ∃ e w, s.cmd.exec = some e ∧ r.act = .completion e.slot w ∧ (s.performInternal r rest).cmd.exec = none
        ∧ (s.performInternal r rest).cmd.queue = s.cmd.queue ∧ (s.performInternal r rest).zone = s.zone := by
  have hk := State.performInternal_keeps h
  revert hk
  unfold State.performInternal
  dsimp only
  split
  · exact fun hk => .inl ⟨{ hk with }, fun _ h => h⟩
  · next i w hact =>
    intro hk
    by_cases he : s.cmd.exec.map (·.slot) = some i
    · obtain ⟨e, he', rfl⟩ := Option.map_eq_some_iff.mp he
      exact .inr ⟨e, w, he', hact, if_pos he, rfl, rfl⟩
    · have hx : (if s.cmd.exec.map (·.slot) = some i then none else s.cmd.exec) = s.cmd.exec := if_neg he
      refine .inl ⟨{ hk with
        sameSlot := congrArg (Option.map (·.slot)) hx
        noMould := fun hm => ?_
        cracked := fun _ => .of_zone rfl }, fun j hj => hx.symm.trans hj⟩
      unfold State.mouldBusy at hm ⊢
      rwa [show (State.cmd _).exec = s.cmd.exec from hx]
  · intro hk
    have hpop : Ordinary s { s with iq := rest, path := { s.path with port := none } } :=
      Ordinary.after (t := { s with iq := rest }) (.path rfl rfl (.inl rfl)) (.iq fun hb => by
        have e : s.iq.length = rest.length + 1 := by rw [(State.internalHead_some h).2]; rfl
        have : s.iq.length ≤ queueCapacity := hb
        omega)
    exact .inl ⟨hpop.trans (State.receiveTableWord_ordinary _ _),
      fun i => State.receiveTableWord_reloading (s := { s with iq := rest, path := { s.path with port := none } })⟩

/-- The access of the oldest entry, and then the waiting requests of a source that is named. -/
theorem State.performInternal_moves {r : Request} {rest : List Request} (h : s.internalHead = some (r, rest))
    (first : Option Source) (hu : u = match first with
      | none => s.performInternal r rest
      | some src => (s.performInternal r rest).pump src) : Moves (.internalAccessComplete first) s u := by
  have hk := State.performInternal_keeps h
  have hhead : s.iq.head? = some r := by rw [(State.internalHead_some h).2]; rfl
  obtain ⟨ho, hre⟩ | ⟨e, w, he, hact, hnone, hq, hz⟩ := State.performInternal_cases h
  · subst hu
    cases first with
    | none => exact ho.moves _
    | some src =>
      obtain hp | ⟨t, i, hp, -, he, hr, e⟩ := (s.performInternal r rest).pump_cases src
      · exact (ho.trans hp).moves _
      · dsimp only
        rw [e]
        exact (ho.trans hp).moves_reload (hre i he) hr _
  · have hp : Ordinary (s.performInternal r rest) u := by
      subst hu
      cases first with
      | none => exact .refl _
      | some src =>
        obtain hp | ⟨t, i, -, -, he', -⟩ := (s.performInternal r rest).pump_cases src
        · exact hp
        · cases hnone.symm.trans he'
    have hx : u.cmd.exec = none := by
      have := hp.sameSlot
      rwa [hnone, Option.map_none, Option.map_eq_none_iff] at this
    have hm : (s.performInternal r rest).mouldBusy = false := by unfold State.mouldBusy; rw [hnone]
    exact {
      toKeeps := hk.trans hp.toKeeps
      order := .inr (.inr ⟨first, e, r, w, rfl, he, hhead, hact, hp.sameQueue.trans hq, hx⟩)
      cracked := fun _ _ => (State.CrackedKept.of_zone hz).trans (hp.cracked hm) }

end

end Sys2Proof.Machine
end

section
/-! PROOFS. Every row but a cold reset keeps the invariants, the order of commands and CRACKED zones: one line for each row of
`Does`. -/

namespace Sys2Proof.Machine

section
variable {s t u : State} {c : Instr}

/-- A command that checks its arguments. -/
theorem State.applyArgs_moves {fn : Nat} {i : Fin 8} {rest : List (Fin 8)} (hb : s.Begins fn i rest) {α : Type}
    {args : Except Code (α × Bool)} {apply : State → α → State} (hc : ∀ code, args = .error code → code.CanWait)
    (h : ∀ v b, args = .ok (v, b) → Ordinary (s.begun i rest .completing) (apply (s.begun i rest .completing) v)) :
    Moves c s ((s.begun i rest .completing).applyArgs args apply) :=
  (State.applyArgs_ordinary hc h).moves_begun (job := .completing) hb trivial (fun _ _ _ => by simp) c

/-- Checked arguments that only the work itself can show to be clamped. -/
theorem map_ok_eq {α : Type} {args : Except Code α} {v : α} {b : Bool} (h : (args.map fun x => (x, false)) = .ok (v, b)) :
    args = .ok v := by
  cases args with
  | error c => cases h
  | ok x => cases h; rfl

theorem map_error_eq {α β : Type} {args : Except Code α} {f : α → β} {c : Code} (h : args.map f = .error c) :
    args = .error c := by
  cases args with
  | error c => cases h; rfl
  | ok x => cases h

theorem State.namedProfile_offers {type : Nat} {p : Profile} (h : s.namedProfile type = some p) : s.Offers p := by
  unfold State.namedProfile at h
  split at h
  · cases h
  · exact .inr (List.mem_of_find?_eq_some h)

theorem State.reach_ordinary (s : State) (t : Nat) : Ordinary s (s.reach t) := .clock _

theorem State.changeZone_ordinary {z : Nat} {r new : ZoneRecord} (hr : s.zone.record? z = some r)
    (hnew : r.InRange → new.InRange) (hc : r.state = .cracked → new.state = .cracked) :
    Ordinary s (s.changeZone z r new) :=
  (State.putZone_ordinary hr hnew hc).trans (s.changeZone_after_put z r new)

/-- The entry to RUNNING after the blocks have taken the configuration. -/
theorem State.applyRest_touches (s : State) (cfg : ImageConfig) (st : ImageStatus) :
    Touches [.notice, .status, .zone, .ev] s
      ((if st.notable then ((s.applyMould cfg).applyNotice cfg).raise fImage
        else (s.applyMould cfg).applyNotice cfg).markWhere fun _ => true) := by
  have h := ((s.applyMould_touches cfg).mono (U := [.notice, .status, .zone, .ev]) (by decide)).trans
    ((State.applyNotice_touches _ cfg).mono (by decide))
  exact (Touches.ite (h.trans ((State.raise_touches _ _).mono (by decide))) h).trans
    ((State.markWhere_touches _ _).mono (by decide))

theorem State.enterRunning_emptied {cfg : ImageConfig} {st : ImageStatus} (h : s.runningDue = some (cfg, st)) :
    Moves .runningEntry s (s.enterRunning cfg st) where
  toKeeps := State.enterRunning_keeps (State.runningDue_some h)
  order := by
    have ht := (s.applyBlocks cfg st).applyRest_touches cfg st
    have e : (s.enterRunning cfg st).cmd = (s.applyBlocks cfg st).cmd := ht .cmd (by decide)
    exact .inr (.inl ⟨.inr (.inl rfl), congrArg CommandUnit.queue e, congrArg CommandUnit.exec e⟩)
  cracked _ hn := absurd (.inr (.inr (.inr rfl))) hn

theorem Does.moves (h : Does c s u) : Moves c s u := by
  cases h with
  | idle => exact (Ordinary.refl s).moves c
  | resetRelease => exact (s.beginAttempt_ordinary false).moves _
  | imageRead => exact (s.imageRead_ordinary _ _ _).moves _
  | imageRetry => exact ((s.reach_ordinary _).trans (State.beginAttempt_ordinary _ true)).moves _
  | runningEntry h => exact State.enterRunning_emptied h
  | busAccess => exact (s.receive_ordinary _ _).moves _
  | busAccessComplete => exact (s.performBus_ordinary _).moves _
  | sampleWrite hg hp => exact (State.assembleWrite_ordinary hg hp _ _).moves _
  | commandWindowWrite =>
    obtain ho | ⟨t, ho, he, e⟩ := State.slotWrite_cases (s.performBus _) _ _ _ _
    · exact ((s.performBus_ordinary _).trans ho).moves _
    · rw [e]
      exact ((s.performBus_ordinary _).trans ho).moves_takeCommand
        (he.trans (congrArg CommandUnit.exec (s.performBus_touches _ .cmd (by decide)))) _ _
  | noticeControlWord => exact ((s.performBus_ordinary _).trans (State.snoopNotice_ordinary _ _ _)).moves _
  | consumerIndex => exact ((s.performBus_ordinary _).trans (State.snoopConsumer_ordinary _ _ _)).moves _
  | internalAccess h => exact State.performInternal_moves h none rfl
  | internalAccessFirst h => exact State.performInternal_moves h (some _) rfl
  | waitingRequestPlaced => exact s.pump_moves _ _
  | lineSample => exact ((Ordinary.ite (.refl s) (s.nextSample_ordinary _)).trans (State.takeEdges_ordinary _ _)).moves _
  | tachoSample => exact (s.sampleTacho_ordinary _).moves _
  | tachoStall => exact (s.stall_ordinary _).moves _
  | delayEnd => exact ((s.reach_ordinary _).trans (State.stepDone_ordinary _ _ _ _)).moves _
  | edgeTimeout => exact ((s.reach_ordinary _).trans (State.endCycle_ordinary _ _ _)).moves _
  | frameTaken => exact (s.takeFrame_ordinary _ _).moves _
  | sampleSet => exact (State.runChannels_ordinary _ _ _ s).moves _
  | hitEnd => exact ((s.endHit_ordinary _).trans (State.runChannels_ordinary _ _ _ _)).moves _
  | longHit => exact ((s.endLong_ordinary _).trans (State.runChannels_ordinary _ _ _ _)).moves _
  | holdoffEnd => exact ((s.setChanState_ordinary _ _).trans (State.runChannels_ordinary _ _ _ _)).moves _
  | lockoutEnd => exact ((s.setChanState_ordinary _ _).trans (State.runChannels_ordinary _ _ _ _)).moves _
  | windowPassed => exact (s.stopCollecting_ordinary.trans (State.afterSet_ordinary _ _ _)).moves _
  | eventComplete => exact (s.completeWith_ordinary _ _).moves _
  | captureRun hr =>
    exact (((s.continueRun_handed _).ordinary fun h => h.continueRun hr).trans (State.endRun_ordinary _ _)).moves _
  | captureTrigger hr =>
    exact (((s.takeTrigger_handed _).ordinary fun h => h.takeTrigger hr _).trans (State.giveAnswer_ordinary _)).moves _
  | freezePost _ ha =>
    exact (((s.resumePost_handed _).ordinary fun h => h.resumePost ha).trans (State.mouldAfterFreeze_ordinary _)).moves _
  | freezeRun hp hr hw ha =>
    exact (((s.resumeRun_handed _ _ _).ordinary fun h => h.resumeRun hr ha).trans (State.endRun_ordinary _ _)).moves _
  | recordTaken => exact ((s.takeRecord_ordinary _ _).trans (State.resume_ordinary _)).moves _
  | statusBlockUpdate => exact s.beginUpdate_ordinary.moves _
  | cycleEndEvaluation => exact s.startEvaluation_ordinary.moves _
  | batchCounter => exact (s.fireBatch_ordinary _).moves _
  | stopPulseExpiry =>
    exact ((s.reach_ordinary _).trans (Ordinary.notice (n := s.notice.releaseStop) id)).moves _
  | nop hb => exact State.answered_moves hb (by decide) _
  | setDetector hb =>
    exact State.applyArgs_moves hb (fun _ h => nomatch h) fun v b h => State.setDetector_ordinary
      (by cases h; exact detectorArgs_inRange _)
  | setEvent hb =>
    exact State.applyArgs_moves hb (fun _ h => by rw [eventArgs_error h]; decide) fun v b h =>
      State.setEvents_ordinary fun hs =>
        eventArgs_inRange h (State.eventBase_inRange (s := s.begun _ _ .completing) hs)
  | setWeights hb =>
    exact State.applyArgs_moves hb (fun _ h => nomatch h) fun v b h =>
      State.setEvents_ordinary fun hs => by
        cases h; exact weightArgs_inRange (State.eventBase_inRange (s := s.begun _ _ .completing) hs) _
  | setZonePolicy hb =>
    exact State.applyArgs_moves hb (fun _ h => by obtain rfl | rfl := policyArgs_error h <;> decide) fun v b h =>
      State.setPolicy_ordinary (policyArgs_inRange h)
  | loadGateProgram hb =>
    exact State.applyArgs_moves hb
      (fun _ h => by obtain rfl | rfl := programArgs_error (map_error_eq h) <;> decide) fun v b h =>
      State.stageProgram_ordinary (programArgs_inRange (map_ok_eq h))
  | setLine _ hb =>
    exact State.applyArgs_moves hb (fun _ h => by rw [lineArgs_error h]; decide) fun v b h =>
      State.changeLine_ordinary (lineArgs_inRange h)
  | setTachoBand hb =>
    exact State.applyArgs_moves hb (fun _ h => by rw [bandArgs_error h]; decide) fun v b h =>
      Ordinary.tacho (fun _ => bandArgs_inRange h) id
  | setLocationEntry hb =>
    exact State.applyArgs_moves hb (fun _ h => by rw [entryArgs_error (map_error_eq h)]; decide) fun v b h =>
      State.modTable_ordinary fun _ hv => forall_mem_vmod hv _ (entryArgs_entryOk (map_ok_eq h))
  | loadLocationTable hb =>
    split
    · exact (State.placeLoads_ordinary _ _).moves_begun (job := .loading []) hb trivial (fun _ _ _ => by simp) _
    · exact State.answered_moves hb (by decide) _
  | mouldRefused _ hb => exact State.answered_moves hb (by decide) _
  | mouldChange _ hb hp =>
    exact (State.mouldBegin_orderly (State.namedProfile_offers (s := s.begun _ _ .completing) hp) _).moves_begun hb (.inr (.inr (.inl rfl)))
  | maskRefused _ hb => exact State.answered_moves hb (by decide) _
  | unmaskRefused _ hb => exact State.answered_moves hb (by decide) _
  | resetRefused _ hb => exact State.answered_moves hb (by decide) _
  | maskZone _ hb hr =>
    exact (State.changeZone_orderly (s := s.begun _ _ .completing) hr ZoneRecord.InRange.mask).moves_begun hb (.inr (.inl rfl))
  | unmaskZone _ hb hr hm =>
    exact (State.changeZone_ordinary (s := s.begun _ _ .completing) hr ZoneRecord.InRange.unmask
      fun hc => absurd (hm.symm.trans hc) (by decide)).moves_begun (job := .completing) hb trivial (fun _ _ _ => by simp) _
  | resetZone _ hb hr =>
    exact (State.changeZone_orderly (s := s.begun _ _ .completing) hr ZoneRecord.InRange.reset).moves_begun hb (.inl rfl)
  | releaseCapture hb =>
    exact (State.releaseById_ordinary _ _).moves_begun (job := .completing) hb trivial (fun _ _ _ => by simp) _
  | stopRelease hb =>
    refine Ordinary.moves_begun (job := .completing) hb trivial (fun _ _ _ => by simp) ?_ _
    exact (State.complete_ordinary _ (by decide)).after
      (Ordinary.notice (s := s.begun _ _ .completing) (n := s.notice.releaseStop) id)
  | setNotice hb =>
    exact State.applyArgs_moves hb (fun _ h => by rw [noticeArgs_error h]; decide) fun v b h =>
      State.changeNotice_ordinary (noticeArgs_inRange h).1 (noticeArgs_inRange h).2
  | setStop hb =>
    exact State.applyArgs_moves hb (fun _ h => by rw [stopArgs_error h]; decide) fun v b h =>
      Ordinary.notice fun hn => ⟨hn.1, hn.2.1, hn.2.2.1, stopArgs_inRange h⟩
  | zoneReport hb =>
    exact (State.reportZones_ordinary _ _).moves_begun (job := .completing) hb trivial (fun _ _ _ => by simp) _
  | saveConfiguration hb =>
    exact (State.writePage_ordinary _ _ _).moves_begun (job := .completing) hb trivial (fun _ _ _ => by simp) _
  | nextPage => exact (s.writePage_ordinary _ _).moves _
  | lastPage => exact (s.beginReadback_ordinary _).moves _
  | nvmPageTimeout => exact ((s.reach_ordinary _).trans (State.complete_ordinary _ (by decide))).moves _
  | nvmReadback => exact (s.complete_ordinary (by split <;> decide)).moves _
  | reload _ _ hb =>
    obtain e | ⟨_, _, hr, e⟩ := State.reloadOn_cases (s.begun _ _ .reloading)
    · rw [e]
      exact (Ordinary.refl _).moves_begun (job := .reloading) hb trivial (fun _ _ _ => by simp) _
    · rw [e]
      exact {
        toKeeps := (State.begun_keeps hb (job := .reloading) trivial).trans (State.reload_keeps hr)
        order := .inr (.inl ⟨.inl rfl, State.reload_emptied _⟩)
        cracked := fun _ _ => (State.CrackedKept.of_zone rfl).trans
          (State.reload_cracked _ (State.begun_mouldBusy (job := .reloading) fun _ _ _ => by simp)) }

end

end Sys2Proof.Machine
end

section
/-! PROOFS. The invariants that every step keeps (design invariants 1 to 9, 11 and 12). A cold reset leaves a state like the one
right after reset; every other row is one of `Does.moves`. -/

namespace Sys2Proof.Machine

/-! ## The state after a reset -/

/-- The state right after reset, but for the waiting commands, the SRAM, the answer to the bus master and the model's clock and
free values. -/
def State.resetWith (pending : List Instr) (mem : Memory) (reply : Reply) (clock free : Nat) : State :=
  { State.reset with pending := pending, mem := mem, path := { state := .starting, reply := reply }, clock := clock, free := free }

theorem State.coldReset_eq_resetWith (s : State) : ∃ m r n, s.coldReset = State.resetWith s.pending m r s.clock n :=
  ⟨_, _, _, rfl⟩

theorem State.reset_eq_resetWith : State.reset = State.resetWith [] State.reset.mem State.reset.path.reply 0 0 := rfl

section
variable (p : List Instr) (m : Memory) (r : Reply) (n f : Nat)

theorem State.resetWith_settings : (State.resetWith p m r n f).SettingsInRange where
  windows _ h := nomatch h
  detector := by
    refine ⟨?_, fun _ h => nomatch h⟩
    show DetSettings.InRange {}
    unfold DetSettings.InRange within
    decide
  events := by
    refine ⟨?_, fun _ h => nomatch h⟩
    show EventSettings.InRange {}
    unfold EventSettings.InRange within
    decide
  policy := by
    show Policy.InRange {}
    unfold Policy.InRange within
    decide
  band := by
    show bandInRange ({} : TachoCell).pmin ({} : TachoCell).pmax
    unfold bandInRange
    decide
  filters := by
    refine ⟨fun l hl => ?_, ?_⟩
    · have hl' : l ∈ State.reset.lines.toList := hl
      have hall : ∀ l ∈ State.reset.lines.toList, 1 ≤ l.settings.filter ∧ l.settings.filter ≤ 8 := by decide
      exact hall l hl'
    · show within 1 8 ({} : TachoCell).settings.filter
      unfold within
      decide
  programs := ⟨fun _ h => (nomatch h), fun _ h => nomatch h⟩
  notices := by
    show NoticeUnit.InRange {}
    unfold NoticeUnit.InRange within
    decide
  profiles h := absurd rfl h
  mould := ⟨Nat.zero_le _, fun _ h => nomatch h⟩
  ready _ _ h := nomatch h
  running h := nomatch h

theorem State.resetWith_slots : (State.resetWith p m r n f).SlotsInOrder :=
  State.slotsInOrder_of_reset rfl rfl rfl fun _ h => nomatch h

theorem State.resetWith_executing : (State.resetWith p m r n f).OneExecuting := by
  intro i hi
  have hi' : ((Vector.replicate 8 ({} : Slot))[i]).state = .executing := hi
  rw [show (Vector.replicate 8 ({} : Slot))[i] = {} from Vector.getElem_replicate ..] at hi'
  cases hi'

theorem State.resetWith_zones : (State.resetWith p m r n f).ZonesInRange := by
  intro z x hx
  have hx' : vget (Vector.replicate 24 (none : Option ZoneRecord)) z none = some x := hx
  unfold vget at hx'
  rw [Vector.getElem?_replicate] at hx'
  split at hx' <;> cases hx'

theorem State.resetWith_chan (c : Fin 4) : (State.resetWith p m r n f).det.chans[c] = {} := Vector.getElem_replicate ..

theorem State.resetWith_channels : (State.resetWith p m r n f).ChannelsInRange := by
  intro ch hch
  have hch' : ch ∈ (Vector.replicate 4 ({} : Channel)).toList := hch
  rw [Vector.toList_replicate] at hch'
  rw [List.eq_of_mem_replicate hch']
  unfold Channel.InRange floorsInRange
  decide

theorem State.resetWith_thresholds : (State.resetWith p m r n f).ThresholdsInUse := by
  refine ⟨fun _ => ⟨fun h => (nomatch h), rfl, fun _ h => (nomatch h), fun _ h => (nomatch h), fun c => ?_⟩, fun c t ht => ?_, fun _ h => (nomatch h)⟩
  · rw [State.resetWith_chan]
  · rw [State.resetWith_chan] at ht; cases ht

end

/-- Settles O3. -/
theorem resetMeetsInvariants : Obligations.ResetMeetsInvariants := by
  unfold Obligations.ResetMeetsInvariants
  rw [State.reset_eq_resetWith]
  exact {
    memory := by
      show Memory.wf State.reset.mem = true
      decide
    queue := Nat.zero_le _
    settings := State.resetWith_settings ..
    channels := State.resetWith_channels _ _ _ _ _
    zones := State.resetWith_zones _ _ _ _ _
    slots := State.resetWith_slots ..
    oneExecuting := State.resetWith_executing _ _ _ _ _
    waits := fun _ h => nomatch h
    thresholds := State.resetWith_thresholds ..
    events := ⟨Nat.zero_le _, fun _ h => nomatch h⟩
    ring := fun _ h => nomatch h
    position := Nat.zero_le _ }

/-! ## A step -/

section
variable {s t : State}

theorem Moves.settled {c : Instr} {u : State} (h : Moves c s u) (x : State) : Moves c s (x.settle u) where
  toKeeps := h.toKeeps.trans (x.settle_ordinary u).toKeeps
  order := by
    have hc : (x.settle u).cmd = u.cmd := State.settle_cmd ..
    unfold State.Emptied State.Ended
    rw [hc]
    exact h.order
  cracked hm hn := (h.cracked hm hn).trans (.of_zone (State.settle_zone ..))

theorem Moves.of_popped {c : Instr} {rest : List Instr} (h : Moves c (s.popped rest) t) : Moves c s t where
  toKeeps := (Ordinary.pending rest).toKeeps.trans h.toKeeps
  order := h.order
  cracked := h.cracked

/-- A step idles, resets the part, or moves it. -/
theorem step_cases (h : step s = .next t) :
    (s.pending = [] ∧ t = s) ∨ ∃ c rest, s.pending = c :: rest ∧
      ((c = .coldReset ∧ ∃ m r n, t = State.resetWith rest m r s.clock n) ∨ (c ≠ .coldReset ∧ Moves c s t)) := by
  unfold step at h
  split at h
  · next hp => exact .inl ⟨hp, (Host.Outcome.next.inj h).symm⟩
  · next c rest hp =>
    refine .inr ⟨c, rest, hp, ?_⟩
    by_cases hc : c = .coldReset
    · subst hc
      exact .inl ⟨rfl, _, _, _, (Host.Outcome.next.inj h).symm⟩
    · obtain ⟨hc', -⟩ | ⟨u, hu, rfl⟩ := exec_inversion h
      · exact absurd hc' hc
      · exact .inr ⟨hc, (hu.moves.settled _).of_popped⟩

/-- An invariant that the state after a reset meets and that every other row keeps. -/
theorem step_keeps_of {P : State → Prop} (hreset : ∀ p m r n f, P (State.resetWith p m r n f))
    (hk : ∀ {s t : State}, Keeps s t → P s → P t) (hs : P s) (h : step s = .next t) : P t := by
  obtain ⟨-, rfl⟩ | ⟨c, rest, -, ⟨-, m, r, n, rfl⟩ | ⟨-, hm⟩⟩ := step_cases h
  · exact hs
  · exact hreset _ _ _ _ _
  · exact hk hm.toKeeps hs

end

/-- Settles O5. -/
theorem stepKeepsSlotsInOrder : Obligations.StepKeepsSlotsInOrder :=
  fun _ _ => step_keeps_of State.resetWith_slots Keeps.slots

/-- In RUNNING there are windows, a program and stored profiles, so that what is saved is a configuration in range. -/
theorem State.SettingsInRange.savedConfig {s : State} (h : s.SettingsInRange) (hr : s.path.state = .running) :
    s.savedConfig.InRange := by
  obtain ⟨hprog, hprof⟩ := h.running hr
  refine ⟨?_, ?_, State.eventBase_inRange h, h.policy, h.band, ?_, h.filters.2, ?_, h.notices.1, h.notices.2.1,
    h.notices.2.2.1, h.notices.2.2.2, h.mould.1, h.profiles hprof⟩
  · show windowsOk s.windows = true
    unfold State.windows
    cases hw : s.path.windows with
    | none => decide
    | some w => exact h.windows w hw
  · show (s.det.pending.getD s.det.settings).InRange
    cases hd : s.det.pending with
    | none => exact h.detector.1
    | some d => exact h.detector.2 d hd
  · intro l hl
    have hl' : l ∈ (s.lines.map (·.settings)).toList := hl
    rw [Vector.toList_map] at hl'
    obtain ⟨x, hx, rfl⟩ := List.mem_map.mp hl'
    exact h.filters.1 x hx
  · unfold State.savedConfig
    dsimp only
    split
    · next p hp => exact h.programs.2 p hp
    · obtain ⟨p, hp⟩ := Option.ne_none_iff_exists'.mp hprog
      rw [hp]
      exact h.programs.1 p hp

/-- Settles O6. -/
theorem stepKeepsSettingsInRange : Obligations.StepKeepsSettingsInRange :=
  ⟨fun _ _ => step_keeps_of State.resetWith_settings Keeps.settings, fun _ => State.SettingsInRange.savedConfig⟩

/-- Settles O7. -/
theorem stepKeepsQueueRingAndCommandOrder : Obligations.StepKeepsQueueRingAndCommandOrder := by
  refine ⟨fun _ _ => step_keeps_of (fun _ _ _ _ _ => Nat.zero_le _) Keeps.queue, fun s t hs hr h => ?_,
    fun _ _ => step_keeps_of State.resetWith_executing Keeps.executing,
    fun _ _ => step_keeps_of (fun _ _ _ _ _ _ h => nomatch h) Keeps.waits, fun s t c rest hp h => ?_⟩
  · exact (step_keeps_of (P := fun x => x.SettingsInRange ∧ x.RingInRange)
      (fun _ _ _ _ _ => ⟨State.resetWith_settings .., fun _ h => nomatch h⟩)
      (fun hk hs => ⟨hk.settings hs.1, hk.ring hs.1 hs.2⟩) ⟨hs, hr⟩ h).2
  · obtain ⟨hp', -⟩ | ⟨c', rest', hp', ho⟩ := step_cases h
    · cases hp.symm.trans hp'
    · cases hp.symm.trans hp'
      obtain ⟨rfl, m, r, n, rfl⟩ | ⟨-, hm⟩ := ho
      · exact .inr (.inl ⟨.inr (.inr (.inl rfl)), rfl, rfl⟩)
      · obtain ho | ⟨hc, hq, hx⟩ | he := hm.order
        · exact .inl ho
        · refine .inr (.inl ⟨?_, hq, hx⟩)
          obtain hc | hc | hc := hc
          · exact .inl hc
          · exact .inr (.inl hc)
          · exact .inr (.inr (.inr hc))
        · exact .inr (.inr he)

/-- Settles O8. -/
theorem stepKeepsZonesAndEventsInRange : Obligations.StepKeepsZonesAndEventsInRange :=
  ⟨fun _ _ => step_keeps_of State.resetWith_zones Keeps.zones,
    fun _ _ => step_keeps_of (fun _ _ _ _ _ => ⟨Nat.zero_le _, fun _ h => nomatch h⟩) Keeps.events⟩

/-- Settles O10. -/
theorem streamPositionNeverDecreases : Obligations.StreamPositionNeverDecreases := by
  intro s t hs h
  obtain ⟨hp, rfl⟩ | ⟨c, rest, hp, ⟨rfl, m, r, n, rfl⟩ | ⟨hc, hm⟩⟩ := step_cases h
  · exact ⟨hs, fun _ => Nat.le_refl _, fun h => by rw [hp] at h; cases h⟩
  · exact ⟨Nat.zero_le _, fun h => absurd (by rw [hp]; rfl) h, fun _ => rfl⟩
  · obtain ⟨h1, h2⟩ := hm.position hs
    refine ⟨h2, fun _ => h1, fun h => ?_⟩
    rw [hp] at h
    exact absurd (Option.some.inj h) hc

/-- Settles O11. -/
theorem crackedLeavesOnlyByCommand : Obligations.CrackedLeavesOnlyByCommand := by
  intro s t c rest z r hp hz hcr h hleft
  obtain ⟨hp', -⟩ | ⟨c', rest', hp', ho⟩ := step_cases h
  · cases hp.symm.trans hp'
  · cases hp.symm.trans hp'
    obtain ⟨rfl, -⟩ | ⟨-, hm⟩ := ho
    · exact .inr (.inr (.inr (.inr (.inl rfl))))
    · by_contra hn
      simp only [not_or, Bool.not_eq_true] at hn
      obtain ⟨h1, h2, h3, h4, -, h5⟩ := hn
      obtain ⟨r', hz', hc'⟩ := hm.cracked h5 (by unfold Uncracks; simp only [h1, h2, h3, h4, or_self, not_false_eq_true]) z r hz hcr
      exact hleft r' hz' hc'

end Sys2Proof.Machine
end

section
/-! PROOFS. Every threshold in use lies in range, and the channels are quiet while the Image Loader is at work (design invariant 7,
R34, R56, R57, R62). Most work is calm: it leaves channels, frames and the path as they were. The work on a frame keeps
the thresholds by the ranges of the settings. -/

namespace Sys2Proof.Machine

/-- `t` stands as `s` does, but that a channel may have become IDLE and that an access or a queued frame may be gone. -/
structure Calm (s t : State) : Prop where
  phase : t.loader.phase = s.loader.phase := by rfl
  state : t.path.state = s.path.state := by rfl
  bus : t.path.bus = s.path.bus ∨ t.path.bus = none := by exact .inl rfl
  work : t.aq.work = s.aq.work := by rfl
  frames : ∀ f, AQEntry.frame f ∈ t.aq.entries → AQEntry.frame f ∈ s.aq.entries := by exact fun _ h => h
  settings : t.det.settings = s.det.settings := by rfl
  chans : ∀ c : Fin 4, (t.det.chans[c].state = s.det.chans[c].state ∨ t.det.chans[c].state = .idle)
    ∧ t.det.chans[c].frameTh = s.det.chans[c].frameTh := by exact fun _ => ⟨.inl rfl, rfl⟩

section
variable {s t u : State}

theorem Calm.refl (s : State) : Calm s s := {}

theorem Calm.trans (h : Calm s t) (k : Calm t u) : Calm s u where
  phase := k.phase.trans h.phase
  state := k.state.trans h.state
  bus := by
    obtain e | e := k.bus
    · rw [e]; exact h.bus
    · exact .inr e
  work := k.work.trans h.work
  frames f hf := h.frames f (k.frames f hf)
  settings := k.settings.trans h.settings
  chans c := by
    refine ⟨?_, (k.chans c).2.trans (h.chans c).2⟩
    obtain e | e := (k.chans c).1
    · rw [e]; exact (h.chans c).1
    · exact .inr e

theorem Calm.ite {p : Prop} [Decidable p] (h : Calm s t) (k : Calm s u) : Calm s (if p then t else u) := by
  split <;> assumption

theorem Calm.fold {α : Type} {g : State → α → State} (h : ∀ s a, Calm s (g s a)) :
    ∀ (l : List α) (s : State), Calm s (l.foldl g s)
  | [], s => Calm.refl s
  | a :: l, s => (h s a).trans (Calm.fold h l (g s a))

theorem Touches.calm {T : List Field} (h : Touches T s t)
    (hT : .path ∉ T ∧ .loader ∉ T ∧ .aq ∉ T ∧ .det ∉ T) : Calm s t := by
  obtain ⟨h1, h2, h3, h4⟩ := hT
  have e1 : t.path = s.path := h .path h1
  have e2 : t.loader = s.loader := h .loader h2
  have e3 : t.aq = s.aq := h .aq h3
  have e4 : t.det = s.det := h .det h4
  exact {
    phase := by rw [e2]
    state := by rw [e1]
    bus := by rw [e1]; exact .inl rfl
    work := by rw [e3]
    frames := fun f hf => by rwa [e3] at hf
    settings := by rw [e4]
    chans := fun c => by simp only [e4]; exact ⟨.inl trivial, trivial⟩ }

theorem Calm.quiet (h : Calm s t) (hs : s.QuietWhileLoading) : t.QuietWhileLoading := by
  intro hp
  obtain ⟨hrun, hwork, hfr, hbus, hidle⟩ := hs (h.phase ▸ hp)
  refine ⟨h.state ▸ hrun, h.work.trans hwork, fun f hf => hfr f (h.frames f hf), fun b hb => ?_, fun c => ?_⟩
  · obtain e | e := h.bus
    · exact hbus b (e ▸ hb)
    · cases e.symm.trans hb
  · obtain e | e := (h.chans c).1
    · exact e.trans (hidle c)
    · exact e

theorem Calm.thresholds (h : Calm s t) (hs : s.ThresholdsInUse) : t.ThresholdsInUse := by
  obtain ⟨hq, hl, hf⟩ := hs
  refine ⟨h.quiet hq, fun c x hx => ?_, fun w hw hp c => ?_⟩
  · rw [h.settings]
    obtain e | e := (h.chans c).1
    · exact hl c x (e ▸ hx)
    · rw [e] at hx; cases hx
  · rw [h.settings, (h.chans c).2]
    exact hf w (h.work ▸ hw) hp c

/-! ## Calm work -/

theorem State.setChan_calm (s : State) (c : Fin 4) {ch : Channel}
    (hst : ch.state = s.det.chans[c].state ∨ ch.state = .idle) (hth : ch.frameTh = s.det.chans[c].frameTh) :
    Calm s (s.setChan c ch) where
  chans d := by
    have e : (s.setChan c ch).det.chans[d] = if d = c then ch else s.det.chans[d] := vector_getElem_set_fin _ _ _ _
    rw [e]
    split
    · next hd => subst hd; exact ⟨hst, hth⟩
    · exact ⟨.inl rfl, rfl⟩

theorem State.idleChannel_calm (s : State) (c : Fin 4) : Calm s (s.setChanState c .idle) :=
  s.setChan_calm c (.inr rfl) rfl

theorem State.gapChannel_calm (s : State) (c : Fin 4) : Calm s (s.gapChannel c) := by
  unfold State.gapChannel
  split
  · exact (s.idleChannel_calm c).trans ((State.endMember_touches _ _ _).calm (by decide))
  · exact s.idleChannel_calm c

theorem State.abandonChannel_calm (s : State) (c : Fin 4) : Calm s (s.abandonChannel c) := by
  unfold State.abandonChannel
  split
  · exact (s.idleChannel_calm c).trans ((State.endMember_touches _ _ _).calm (by decide))
  · exact s.idleChannel_calm c

theorem State.abandonAll_calm (s : State) : Calm s s.abandonAll := by
  have h := Calm.fold State.abandonChannel_calm (List.finRange 4) s
  exact { h with }

theorem State.gapStep_calm (s : State) (m : Nat) : Calm s (s.gapStep m) := by
  have h := Calm.fold State.gapChannel_calm (List.finRange 4) (s.advance (gapSpan m))
  exact { h with }

theorem mem_insertMarker {n : Word} {m e : AQEntry} {l : List AQEntry} (h : e ∈ insertMarker n m l) : e = m ∨ e ∈ l := by
  induction l with
  | nil => cases h
  | cons x xs ih =>
    unfold insertMarker at h
    split at h
    · obtain rfl | h := List.mem_cons.mp h
      · exact .inr List.mem_cons_self
      · exact (ih h).imp id (List.mem_cons_of_mem _)
    · split at h
      · obtain rfl | h := List.mem_cons.mp h
        · exact .inr List.mem_cons_self
        · exact (List.mem_cons.mp h).imp id (List.mem_cons_of_mem _)
      · exact .inr h

theorem State.handCycleEnd_calm (s : State) (m : CycleSummary) : Calm s (s.handCycleEnd m) := by
  unfold State.handCycleEnd
  dsimp only
  split
  · refine { frames := fun f hf => ?_ }
    obtain hf | hf := mem_insertMarker hf
    · cases hf
    · exact hf
  · split
    · refine { frames := fun f hf => ?_ }
      obtain hf | hf := List.mem_cons.mp hf
      · cases hf
      · exact hf
    · exact {}

theorem State.endCycle_calm (s : State) (c : Cause) (t : Nat) : Calm s (s.endCycle c t) := by
  unfold State.endCycle
  split
  · exact { State.handCycleEnd_calm _ _ with }
  · exact .refl s

theorem State.stepDone_calm (s : State) (r : CycleRun) (st : GateStep) (n : Nat) : Calm s (s.stepDone r st n) := by
  unfold State.stepDone
  dsimp only
  split
  · exact { State.endCycle_calm _ _ _ with }
  · exact {}

theorem State.edge_calm (s : State) (i : Fin 5) : Calm s (s.edge i) := by
  unfold State.edge
  split
  · unfold State.cycEdge
    split
    · exact .refl s
    · exact {}
    · exact { s.endCycle_calm .truncated s.clock with }
  · unfold State.lineEdge
    split
    · exact .ite (s.stepDone_calm _ _ _) (.refl s)
    · exact .refl s

theorem State.takeEdge_calm (s : State) (i : Fin 5) : Calm s (s.takeEdge i) := by
  unfold State.takeEdge
  split
  · refine Calm.trans ?_ ((State.noteChanges_touches _ _).calm (by decide))
    exact { State.edge_calm { s with gate := { s.gate with due := s.gate.due.filter (· != i) } } i with }
  · exact .refl s

theorem State.takeEdges_calm (s : State) (lines : List (Fin 5)) : Calm s (s.takeEdges lines) :=
  Calm.fold State.takeEdge_calm lines s

theorem State.nextSample_calm (s : State) (pins : Vector Bool 5) : Calm s (s.nextSample pins) := by
  have h : Calm s { s.takeEdges (List.finRange 5) with clock := (s.takeEdges (List.finRange 5)).clock + 1 } :=
    { s.takeEdges_calm (List.finRange 5) with }
  unfold State.nextSample
  dsimp only
  split
  · exact h
  · exact h.trans ((State.samplePress_touches _ _).calm (by decide))

theorem State.startEvaluation_calm (s : State) : Calm s s.startEvaluation := by
  unfold State.startEvaluation
  split
  · exact .refl s
  · split
    · exact { (State.beginEval_touches _ _).calm (by decide) with }
    · next m rest hm =>
      refine Calm.trans ?_ ((State.beginEval_touches _ _).calm (by decide))
      refine { frames := fun f hf => ?_ }
      unfold State.headMarker at hm
      split at hm
      · cases hm
      · split at hm
        · next he => cases hm; rw [he]; exact List.mem_cons_of_mem _ hf
        · cases hm
    · exact .refl s

theorem State.begun_calm (s : State) (i : Fin 8) (rest : List (Fin 8)) (job : Job) : Calm s (s.begun i rest job) := {}

theorem State.mouldHandRecord_calm (s : State) (p : Profile) (w : Word) : Calm s (s.mouldHandRecord p w) := {}

theorem State.mouldSettle_calm (s : State) (p : Profile) (w : Word) : Calm s (s.mouldSettle p w) := by
  unfold State.mouldSettle
  dsimp only
  split
  · exact { s.abandonAll_calm with }
  · exact s.abandonAll_calm.trans (State.mouldHandRecord_calm _ _ _)

theorem State.mouldBegin_calm (s : State) (p : Profile) (w : Word) : Calm s (s.mouldBegin p w) := by
  unfold State.mouldBegin
  dsimp only
  split
  · exact (s.endCycle_calm _ _).trans (State.mouldSettle_calm _ _ _)
  · exact { s.endCycle_calm .mould s.endTime with }

theorem State.mouldAfterEval_calm (s : State) : Calm s s.mouldAfterEval := by
  unfold State.mouldAfterEval
  split
  · exact s.mouldSettle_calm _ _
  · exact .refl s

theorem State.modTable_calm (s : State) (f : Vector Byte 196 → Vector Byte 196) : Calm s (s.modTable f) := by
  unfold State.modTable
  split <;> exact {}

theorem State.receiveTableWord_calm (s : State) (w : Word) : Calm s (s.receiveTableWord w) := by
  unfold State.receiveTableWord
  split
  · dsimp only
    split
    · exact {}
    · split
      · exact (s.modTable_calm _).trans ((State.complete_touches _ _).calm (by decide))
      · exact (s.complete_touches _).calm (by decide)
  · exact .refl s

theorem State.performInternal_calm (s : State) (r : Request) (rest : List Request) : Calm s (s.performInternal r rest) := by
  unfold State.performInternal
  dsimp only
  split
  · exact {}
  · exact {}
  · exact { State.receiveTableWord_calm { s with iq := rest, path := { s.path with port := none } } _ with }

theorem State.performBus_calm (s : State) (b : BusAccess) : Calm s (s.performBus b) := by
  unfold State.performBus
  split <;> exact { bus := .inr rfl }

theorem State.writePage_calm (s : State) (image : List Byte) (p : Nat) : Calm s (s.writePage image p) := {}

theorem State.beginReadback_calm (s : State) (image : List Byte) : Calm s (s.beginReadback image) := {}

end

end Sys2Proof.Machine
end

section
/-! PROOFS. The work on a frame keeps the thresholds in range (R56, R62 to R68), and so does every row (design invariant 7). -/

namespace Sys2Proof.Machine

/-- Every latched threshold is in range under the settings in force. -/
def State.LatchedOk (s : State) : Prop :=
  ∀ (c : Fin 4) t, s.det.chans[c].state.latched? = some t → thresholdOk s.det.settings.code t

/-- Every frame threshold is in range under the settings in force. -/
def State.FrameThsOk (s : State) : Prop := ∀ c : Fin 4, thresholdOk s.det.settings.code s.det.chans[c].frameTh

/-- The ladder codes in force and pending are codes. -/
def State.CodesOk (s : State) : Prop := s.det.settings.code ≤ 31 ∧ ∀ d, s.det.pending = some d → d.code ≤ 31

/-- The Image Loader has done its work and the latched thresholds are in range. -/
def State.Working (s : State) : Prop := s.loader.phase = .idle ∧ s.LatchedOk

section
variable {s t u : State}

theorem State.SettingsInRange.codesOk (h : s.SettingsInRange) : s.CodesOk :=
  ⟨h.detector.1.2.2.2.1, fun d hd => (h.detector.2 d hd).2.2.2.1⟩

theorem ladder_le {code : Nat} (h : code ≤ 31) : ladder code ≤ 32767 := by unfold ladder; omega

theorem frameThreshold_ok {d : DetSettings} (h : d.code ≤ 31) (n : Nat) : thresholdOk d.code (frameThreshold d n) := by
  have := ladder_le h
  unfold thresholdOk frameThreshold
  omega

/-- Outside the sample sets no frame threshold is in use. -/
theorem State.Working.thresholds (h : s.Working) (hp : ∀ w, s.aq.work = some w → w.phase.inSets = false) :
    s.ThresholdsInUse :=
  ⟨fun hl => absurd h.1 hl, h.2, fun w hw hi => by rw [hp w hw] at hi; cases hi⟩

theorem State.Working.thresholds_of_frame (h : s.Working) (hf : s.FrameThsOk) : s.ThresholdsInUse :=
  ⟨fun hl => absurd h.1 hl, h.2, fun _ _ _ => hf⟩

theorem State.ThresholdsInUse.working (h : s.ThresholdsInUse) {w : FrameWork} (hw : s.aq.work = some w) : s.Working := by
  refine ⟨?_, h.2.1⟩
  by_contra hl
  cases (h.1 hl).2.1.symm.trans hw

theorem Calm.working (h : Calm s t) (hs : s.Working) : t.Working := by
  refine ⟨h.phase.trans hs.1, fun c x hx => ?_⟩
  rw [h.settings]
  obtain e | e := (h.chans c).1
  · exact hs.2 c x (e ▸ hx)
  · rw [e] at hx; cases hx

theorem Calm.frameThsOk (h : Calm s t) (hs : s.FrameThsOk) : t.FrameThsOk := fun c => by
  rw [h.settings, (h.chans c).2]; exact hs c

/-! ## Settings and thresholds of a frame (R55, R56, R62) -/

theorem State.mapChans_chan {d : Detectors} (g : Channel → Channel) (c : Fin 4) : (d.chans.map g)[c] = g d.chans[c] :=
  Vector.getElem_map ..

theorem Channel.raiseLatched_ok {code code' : Nat} {ch : Channel} (hcode : code ≤ 31)
    (h : ∀ t, ch.state.latched? = some t → thresholdOk code' t) {t : Nat}
    (ht : (ch.raiseLatched code).state.latched? = some t) : thresholdOk code t := by
  have hl := ladder_le hcode
  have key (x : Nat) (hx : thresholdOk code' x) : thresholdOk code (max x (ladder code)) := by
    obtain ⟨-, h2⟩ := hx
    unfold thresholdOk
    omega
  unfold Channel.raiseLatched at ht
  split at ht
  · next x r e => cases ht; exact key x (h x (by rw [e]; rfl))
  · next x r e => cases ht; exact key x (h x (by rw [e]; rfl))
  · next h1 h2 =>
    exfalso
    cases e : ch.state with
    | active x r => exact h1 x r e
    | holdoff x r => exact h2 x r e
    | idle => rw [e] at ht; cases ht
    | lockout n => rw [e] at ht; cases ht

/-- Pending settings taken: a latched threshold below the new ladder value is raised to it (R56). -/
theorem State.Working.applyPending (h : s.Working) (hc : s.CodesOk) :
    s.applyPending.Working ∧ s.applyPending.det.settings.code ≤ 31 := by
  unfold State.applyPending
  dsimp only
  split
  · exact ⟨⟨h.1, h.2⟩, hc.1⟩
  · next d hd =>
    refine ⟨⟨h.1, fun c t ht => ?_⟩, hc.2 d hd⟩
    have ht' : ((s.det.chans.map (Channel.raiseLatched d.code))[c]).state.latched? = some t := ht
    rw [State.mapChans_chan] at ht'
    exact Channel.raiseLatched_ok (hc.2 d hd) (h.2 c) ht'

theorem State.setPhase_work {p : Phase} {w : FrameWork} (h : (s.setPhase p).aq.work = some w) : w.phase = p := by
  obtain ⟨x, -, rfl⟩ := Option.map_eq_some_iff.mp h
  rfl

theorem State.Working.setPhase (h : s.Working) {p : Phase} (hp : p.inSets = false) : (s.setPhase p).ThresholdsInUse := by
  have hs : (s.setPhase p).Working := h
  refine hs.thresholds fun w hw => ?_
  rw [State.setPhase_work hw, hp]

theorem State.Working.endWork (h : s.Working) : s.endWork.ThresholdsInUse := by
  have hs : s.endWork.Working := h
  exact hs.thresholds fun w hw => nomatch hw

/-- The frame goes on behind its gap: it is skipped, or every channel takes its frame threshold (R62). -/
theorem State.Working.skipOrAnalyse (h : s.Working) (hc : s.det.settings.code ≤ 31) (f : QFrame) :
    (s.skipOrAnalyse f).ThresholdsInUse := by
  have ha : s.abandonAll.Working := s.abandonAll_calm.working h
  unfold State.skipOrAnalyse
  split
  · dsimp only
    split
    · exact ha.setPhase rfl
    · exact ha.endWork
  · have hchan (c : Fin 4) : (s.beginAnalysis f).det.chans[c] = (s.det.chans[c]).beginFrame s.det.settings f.cls :=
      State.mapChans_chan _ c
    have hwork : (s.beginAnalysis f).Working := ⟨h.1, fun c t ht => h.2 c t (by rw [hchan] at ht; exact ht)⟩
    exact hwork.thresholds_of_frame fun c => by rw [hchan]; exact frameThreshold_ok hc _

theorem State.Working.takeFrame (h : s.Working) (hc : s.CodesOk) (f : QFrame) (rest : List AQEntry) :
    (s.takeFrame f rest).ThresholdsInUse := by
  obtain ⟨h1, hcode⟩ := State.Working.applyPending (s := { s with aq := { entries := rest, work := some ⟨f, .gap⟩ } }) h hc
  have hwork : (State.applyPending { s with aq := { entries := rest, work := some ⟨f, .gap⟩ } }).aq.work
      = some ⟨f, .gap⟩ := rfl
  unfold State.takeFrame
  dsimp only
  generalize State.applyPending _ = x at h1 hcode hwork ⊢
  have hgap := x.gapStep_calm f.missing
  split
  · exact h1.skipOrAnalyse hcode f
  · split
    · refine (hgap.working h1).thresholds fun w hw => ?_
      rw [hgap.work, hwork] at hw
      cases hw
      rfl
    · exact (hgap.working h1).skipOrAnalyse (by rw [hgap.settings]; exact hcode) f

/-! ## Sample sets (R63 to R68) -/

/-- A step of the state machine latches the frame threshold or keeps the threshold latched. -/
theorem ChanState.step_latched {d : DetSettings} {st : ChanState} {th p a e prev : Nat} {clip : Bool} {seq : Half} {cls : Cls}
    {cycle : Word} {t : Nat} (h : (st.step d th p a e prev clip seq cls cycle).1.latched? = some t) :
    t = th ∨ st.latched? = some t := by
  cases st with
  | idle =>
    unfold ChanState.step at h
    dsimp only at h
    split at h
    · cases h; exact .inl rfl
    · cases h
  | active x r => exact .inr h
  | holdoff x r => exact .inr h
  | lockout n => cases h

/-- The state of one channel replaced, its latched threshold, if any, in range. -/
theorem State.Working.setChan (h : s.Working) {c : Fin 4} {ch : Channel}
    (hch : ∀ t, ch.state.latched? = some t → thresholdOk s.det.settings.code t) : (s.setChan c ch).Working := by
  refine ⟨h.1, fun d t ht => ?_⟩
  have e : (s.setChan c ch).det.chans[d] = if d = c then ch else s.det.chans[d] := vector_getElem_set_fin _ _ _ _
  rw [e] at ht
  split at ht
  · exact hch t ht
  · exact h.2 d t ht

theorem State.FrameThsOk.setChan (h : s.FrameThsOk) {c : Fin 4} {ch : Channel}
    (hch : ch.frameTh = s.det.chans[c].frameTh) : (s.setChan c ch).FrameThsOk := by
  intro d
  have e : (s.setChan c ch).det.chans[d] = if d = c then ch else s.det.chans[d] := vector_getElem_set_fin _ _ _ _
  rw [e]
  split
  · rw [hch]; exact h c
  · exact h d

/-- Thresholds in range in the midst of a frame. -/
def State.Analysing (s : State) : Prop := s.Working ∧ s.FrameThsOk

theorem State.Analysing.thresholds (h : s.Analysing) : s.ThresholdsInUse := h.1.thresholds_of_frame h.2

theorem Calm.analysing (h : Calm s t) (hs : s.Analysing) : t.Analysing := ⟨h.working hs.1, h.frameThsOk hs.2⟩

theorem State.Analysing.setPhase (h : s.Analysing) (p : Phase) : (s.setPhase p).Analysing := h

theorem State.Analysing.endFrame (h : s.Analysing) (f : QFrame) : (s.endFrame f).Analysing := by
  have hs : State.Analysing { s with
      asm := s.asm.countAnalysed f.tag f.cls
      det := { s.det with chans := s.det.chans.map (Channel.endFrame s.det.settings f.cls) }
      ev := s.ev.check } := by
    have hch (c : Fin 4) : (s.det.chans.map (Channel.endFrame s.det.settings f.cls))[c].state = s.det.chans[c].state
        ∧ (s.det.chans.map (Channel.endFrame s.det.settings f.cls))[c].frameTh = s.det.chans[c].frameTh := by
      rw [State.mapChans_chan]
      unfold Channel.endFrame
      split <;> exact ⟨rfl, rfl⟩
    refine ⟨⟨h.1.1, fun c t ht => h.1.2 c t ?_⟩, fun c => ?_⟩
    · exact (hch c).1 ▸ ht
    · exact (hch c).2.symm ▸ h.2 c
  unfold State.endFrame
  dsimp only
  split
  · exact hs
  · exact hs

theorem State.Analysing.afterSet (h : s.Analysing) (f : QFrame) (n : Nat) : (s.afterSet f n).Analysing := by
  unfold State.afterSet
  split
  · exact h
  · exact h.endFrame f

theorem State.Analysing.endSet (h : s.Analysing) (f : QFrame) (n : Nat) : (s.endSet f n).Analysing := by
  have h1 : (s.advance 1).Analysing := h
  unfold State.endSet
  dsimp only
  split
  · exact h1
  · exact h1.afterSet f n

theorem State.Analysing.runChannels (f : QFrame) (n : Nat) (cs : List (Fin 4)) :
    ∀ {s : State}, s.Analysing → (State.runChannels f n cs s).Analysing := by
  induction cs with
  | nil => exact fun h => h.endSet f n
  | cons c cs ih =>
    intro s h
    have hset : (s.setChan c ((s.det.chans[c]).step s.det.settings s.asm.position (f.sample n c) f.seq f.cls
        f.tag.cycle).1).Analysing := by
      refine ⟨h.1.setChan fun t ht => ?_, h.2.setChan rfl⟩
      obtain rfl | ht := ChanState.step_latched ht
      · exact h.2 c
      · exact h.1.2 c t ht
    unfold State.runChannels
    dsimp only
    split
    · exact ih hset
    · exact ih (Calm.analysing ((State.hitStart_touches _ _ _ _ _ _).calm (by decide)) hset)
    · exact hset

theorem afterHit_latched (d : DetSettings) : (afterHit d).latched? = none := by
  unfold afterHit
  split <;> rfl

theorem State.Analysing.setChanState (h : s.Analysing) (c : Fin 4) {st : ChanState}
    (hst : ∀ t, st.latched? = some t → s.det.chans[c].state.latched? = some t) : (s.setChanState c st).Analysing :=
  ⟨h.1.setChan fun t ht => h.1.2 c t (hst t ht), h.2.setChan rfl⟩

theorem State.Analysing.setAfterHit (h : s.Analysing) (c : Fin 4) :
    (s.setChanState c (afterHit s.det.settings)).Analysing :=
  h.setChanState c fun t ht => by rw [afterHit_latched] at ht; cases ht

theorem State.Analysing.endHit (h : s.Analysing) (c : Fin 4) : (s.endHit c).Analysing := by
  unfold State.endHit
  split
  · refine Calm.analysing ((State.endMember_touches _ _ _).calm (by decide)) (h.setAfterHit c)
  · exact h

theorem State.Analysing.endLong (h : s.Analysing) (c : Fin 4) : (s.endLong c).Analysing := by
  unfold State.endLong
  split
  · next x r e =>
    refine Calm.analysing ((State.endMember_touches _ _ _).calm (by decide)) (h.setChanState c fun t ht => ?_)
    rw [e]
    exact ht
  · exact h

/-- A frame in its sample sets is being analysed. -/
theorem State.ThresholdsInUse.analysing (h : s.ThresholdsInUse) {w : FrameWork} (hw : s.aq.work = some w)
    (hp : w.phase.inSets = true) : s.Analysing := ⟨h.working hw, h.2.2 w hw hp⟩

theorem State.transition_work {c : Fin 4} {what : Due} {f : QFrame} {n : Nat} (h : s.transition c what = some (f, n)) :
    ∃ w, s.aq.work = some w ∧ w.phase.inSets = true := by
  unfold State.transition at h
  split at h
  · cases h
  · unfold State.dueNow at h
    split at h
    · next hw => exact ⟨_, hw, rfl⟩
    · cases h

theorem State.nextSet_work {f : QFrame} {n : Nat} (h : s.nextSet = some (f, n)) :
    ∃ w, s.aq.work = some w ∧ w.phase.inSets = true := by
  unfold State.nextSet at h
  split at h
  · cases h
  · split at h
    · next hw => exact ⟨_, hw, rfl⟩
    · cases h

theorem State.windowNow_work {f : QFrame} {n : Nat} (h : s.windowNow = some (f, n)) :
    ∃ w, s.aq.work = some w ∧ w.phase.inSets = true := by
  unfold State.windowNow at h
  split at h
  · cases h
  · split at h
    · next hw => exact ⟨_, hw, rfl⟩
    · cases h

theorem State.headFrame_entries {f : QFrame} {rest : List AQEntry} (h : s.headFrame = some (f, rest)) :
    s.aq.entries = .frame f :: rest := by
  unfold State.headFrame at h
  split at h
  · cases h
  · split at h
    · next he => cases h; exact he
    · cases h

/-- The completions of a check have ended, and the frame goes on. -/
theorem State.ThresholdsInUse.resumeFrame (h : s.ThresholdsInUse) (hc : s.det.settings.code ≤ 31) :
    s.resumeFrame.ThresholdsInUse := by
  unfold State.resumeFrame
  split
  · next f hw => exact (h.working hw).skipOrAnalyse hc f
  · next hw => exact (h.working hw).endWork
  · next hw => exact (h.working hw).endWork
  · exact h

/-! ## The work that waits with a record, and RELOAD -/

theorem State.ThresholdsInUse.afterCompletion (h : s.ThresholdsInUse) (hc : s.det.settings.code ≤ 31) :
    s.afterCompletion.ThresholdsInUse := by
  unfold State.afterCompletion
  split
  · exact h
  · split
    · exact (s.mouldHandRecord_calm _ _).thresholds h
    · exact h.resumeFrame hc

theorem State.ThresholdsInUse.runCont (h : s.ThresholdsInUse) (hc : s.det.settings.code ≤ 31) (k : Cont) :
    (s.runCont k).ThresholdsInUse := by
  cases k with
  | nothing => exact h
  | eventDone =>
    have hb : Calm s { s.serveBatch .event with ev := { (s.serveBatch .event).ev with completion := none } } :=
      { (s.serveBatch_touches .event).calm (by decide) with }
    exact State.ThresholdsInUse.afterCompletion (hb.thresholds h) (hb.settings ▸ hc)
  | evalZone z rose => exact ((s.afterZoneChange_touches z rose).calm (by decide)).thresholds h
  | evalDone =>
    exact (((s.afterCycleRecord_touches).calm (by decide)).trans (State.mouldAfterEval_calm _)).thresholds h
  | zoneCommand => exact ((s.complete_touches .done).calm (by decide)).thresholds h
  | zoneReport z => exact ((State.reportZones_touches _ s).calm (by decide)).thresholds h
  | mouldPut => exact (s.mouldFinish_touches.calm (by decide)).thresholds h

theorem State.resume_thresholds {r : State × Option Cont} (h : r.1.ThresholdsInUse) (hc : r.1.det.settings.code ≤ 31) :
    (State.resume r).ThresholdsInUse := by
  unfold State.resume
  split
  · exact h
  · exact h.runCont hc _

/-- At the entry to RELOADING every channel is IDLE and no frame is left (R34, R57). -/
theorem State.enterReloading_thresholds (s : State) : s.enterReloading.ThresholdsInUse := by
  have hch (c : Fin 4) : s.enterReloading.det.chans[c].state = .idle := by
    unfold State.enterReloading
    dsimp only
    rw [State.mapChans_chan]
    rfl
  have hcalm := State.endCycle_calm { s with
    path := { s.path with state := .reloading, bus := s.path.bus.map BusAccess.unsnoop }
    asm := s.asm.reload
    aq := {}
    cap := {} } .reload (State.endTime { s with
      path := { s.path with state := .reloading, bus := s.path.bus.map BusAccess.unsnoop }
      asm := s.asm.reload
      aq := {}
      cap := {} })
  have hwork : s.enterReloading.aq.work = none := hcalm.work
  have hstate : s.enterReloading.path.state = .reloading := hcalm.state
  refine ⟨fun _ => ⟨by rw [hstate]; simp, hwork, fun f hf => (nomatch hcalm.frames f hf), fun b hb => ?_, hch⟩,
    fun c t ht => ?_, fun w hw => nomatch hwork.symm.trans hw⟩
  · obtain e | e := hcalm.bus
    · obtain ⟨b', -, rfl⟩ := Option.map_eq_some_iff.mp (e.symm.trans hb)
      rfl
    · cases e.symm.trans hb
  · rw [hch c] at ht
    cases ht

theorem State.reload_thresholds (s : State) : s.reload.ThresholdsInUse := State.enterReloading_thresholds _

theorem State.ThresholdsInUse.reloadOn (h : s.ThresholdsInUse) : s.reloadOn.ThresholdsInUse := by
  obtain e | ⟨_, _, _, e⟩ := s.reloadOn_cases
  · rwa [e]
  · rw [e]; exact s.reload_thresholds

theorem State.ThresholdsInUse.pump (h : s.ThresholdsInUse) (hc : s.det.settings.code ≤ 31) (src : Source) :
    (s.pump src).ThresholdsInUse := by
  cases src with
  | reportWriter =>
    have hp : Calm s s.pumpRecord.1 := s.pumpRecord_touches.calm (by decide)
    exact State.resume_thresholds (hp.thresholds h) (hp.settings ▸ hc)
  | statusUpdate => exact (s.pumpStatus_touches.calm (by decide)).thresholds h
  | commandUnit =>
    exact State.ThresholdsInUse.reloadOn
      (((State.placeCompletions_touches s.cmd.waits s).calm (by decide)).thresholds h)
  | tableLoad => exact ((State.placeLoads_touches _ s).calm (by decide)).thresholds h

/-! ## The rows -/

theorem State.snoopConsumer_calm (s : State) (lanes : Lanes) (w : Word) : Calm s (s.snoopConsumer lanes w) :=
  { (State.takeConsumer_touches _ _).calm (by decide) with }

theorem State.settle_calm (s t : State) : Calm t (s.settle t) where
  phase := by simp
  state := by simp
  bus := .inl (by simp)
  work := by simp
  frames f hf := by simpa using hf
  settings := by simp
  chans c := by simp


theorem State.begun_applyArgs_calm {α : Type} {args : Except Code (α × Bool)} {apply : State → α → State}
    (h : ∀ x v, Calm x (apply x v)) (s : State) (i : Fin 8) (rest : List (Fin 8)) :
    Calm s ((s.begun i rest .completing).applyArgs args apply) := by
  refine (s.begun_calm i rest .completing).trans ?_
  cases args with
  | error c => exact (State.complete_touches _ c).calm (by decide)
  | ok x => exact (h _ x.1).trans ((State.complete_touches _ _).calm (by decide))


/-- While the Image Loader is at work, its own phase changes nothing else. -/
theorem State.ThresholdsInUse.of_loading (h : s.ThresholdsInUse) (hp : s.loader.phase ≠ .idle)
    (ht : Touches [.loader, .clock] s t) : t.ThresholdsInUse := by
  have e1 : t.path = s.path := ht .path (by decide)
  have e2 : t.aq = s.aq := ht .aq (by decide)
  have e3 : t.det = s.det := ht .det (by decide)
  obtain ⟨hq, hl, hf⟩ := h
  unfold State.ThresholdsInUse State.QuietWhileLoading
  rw [e1, e2, e3]
  exact ⟨fun _ => hq hp, hl, hf⟩

/-- Every channel is IDLE when the configuration is applied (R57). -/
theorem State.ThresholdsInUse.enterRunning (h : s.ThresholdsInUse) {cfg : ImageConfig} {st : ImageStatus}
    (hr : s.loader.phase = .ready cfg st) : (s.enterRunning cfg st).ThresholdsInUse := by
  obtain ⟨-, hwork, -, -, hidle⟩ := h.1 (by rw [hr]; simp)
  have hb : (s.applyBlocks cfg st).Working := ⟨rfl, fun c t ht => by
    have ht' : (s.det.chans[c]).state.latched? = some t := ht
    rw [hidle c] at ht'
    cases ht'⟩
  have ht := (s.applyBlocks cfg st).applyRest_touches cfg st
  exact (ht.calm (by decide)).thresholds (hb.thresholds fun w hw => nomatch hwork.symm.trans hw)

/-- An access received is snooped in RUNNING only (R10, R13). -/
theorem State.ThresholdsInUse.receive (h : s.ThresholdsInUse) (a : Addr) (op : BusOp) :
    (s.receive a op).ThresholdsInUse := by
  unfold State.receive
  split
  · exact h
  · exact h
  · refine ⟨fun hp => ?_, h.2⟩
    obtain ⟨hrun, hwork, hfr, -, hidle⟩ := h.1 hp
    refine ⟨hrun, hwork, hfr, fun b e => ?_, hidle⟩
    cases e
    have : (s.path.state == .running) = false := by simpa using hrun
    simp [this]

/-- A snooped sample write can add a frame to the queue; the Image Loader has then done its work (R13). -/
theorem State.ThresholdsInUse.sampleWrite (h : s.ThresholdsInUse) {b : BusAccess} {lanes : Lanes} {w : Word} {l : Fin 32}
    {p : Fin 48} {i : Fin 128} (hg : s.grantedSnoop = some (b, lanes, w)) (later between : Bool) :
    ((s.performBus b).assembleWrite l p i lanes w later between).ThresholdsInUse := by
  obtain ⟨hgr, -, hsn⟩ := State.grantedSnoop_some hg
  have hbus : s.path.bus = some b := by
    unfold State.granted at hgr
    split at hgr
    · exact hgr
    · cases hgr
  have hidle : s.loader.phase = .idle := by
    by_contra hp
    cases hsn.symm.trans ((h.1 hp).2.2.2.1 b hbus)
  have hcalm := s.performBus_calm b
  obtain ⟨-, hl, hf⟩ := hcalm.thresholds h
  have hphase := hcalm.phase.trans hidle
  obtain ⟨c, r, n, a, q, e, -, -, -, -, -, hq⟩ := (s.performBus b).assembleWrite_handed l p i lanes w later between
  rw [e]
  exact ⟨fun hp => absurd hphase hp, hl, fun x hx => hf x (hq ▸ hx)⟩

theorem Does.thresholds {c : Instr} (h : Does c s u) (hc : s.CodesOk) (hs : s.ThresholdsInUse) : u.ThresholdsInUse := by
  have ht := h.touches
  cases h with
  | idle => exact hs
  | resetRelease hp => exact hs.of_loading (by rw [hp]; simp) (ht.mono (by simp [footprint]))
  | imageRead hp => exact hs.of_loading (by rw [hp]; simp) (ht.mono (by simp [footprint]))
  | imageRetry hp => exact hs.of_loading (by rw [hp]; simp) (ht.mono (by simp [footprint]))
  | runningEntry hr => exact hs.enterRunning (State.runningDue_some hr)
  | busAccess => exact hs.receive _ _
  | busAccessComplete => exact (s.performBus_calm _).thresholds hs
  | sampleWrite hg => exact hs.sampleWrite hg _ _
  | commandWindowWrite =>
    exact ((s.performBus_calm _).trans ((State.slotWrite_touches _ _ _ _ _).calm (by decide))).thresholds hs
  | noticeControlWord => exact Calm.thresholds { s.performBus_calm _ with } hs
  | consumerIndex =>
    exact ((s.performBus_calm _).trans (State.snoopConsumer_calm _ _ _)).thresholds hs
  | internalAccess => exact (s.performInternal_calm _ _).thresholds hs
  | internalAccessFirst =>
    refine State.ThresholdsInUse.pump ((s.performInternal_calm _ _).thresholds hs) ?_ _
    rw [(s.performInternal_calm _ _).settings]
    exact hc.1
  | waitingRequestPlaced => exact hs.pump hc.1 _
  | lineSample => exact ((Calm.ite (.refl s) (s.nextSample_calm _)).trans (State.takeEdges_calm _ _)).thresholds hs
  | delayEnd => exact (State.stepDone_calm (s.reach _) _ _ _).thresholds hs
  | edgeTimeout => exact (State.endCycle_calm (s.reach _) _ _).thresholds hs
  | frameTaken hh =>
    refine State.Working.takeFrame ⟨?_, hs.2.1⟩ hc _ _
    by_contra hp
    exact (hs.1 hp).2.2.1 _ (by rw [State.headFrame_entries hh]; exact List.mem_cons_self)
  | sampleSet hn =>
    obtain ⟨w, hw, hp⟩ := State.nextSet_work hn
    exact ((hs.analysing hw hp).runChannels _ _ _).thresholds
  | hitEnd hd =>
    obtain ⟨w, hw, hp⟩ := State.transition_work hd
    exact (((hs.analysing hw hp).endHit _).runChannels _ _ _).thresholds
  | longHit hd =>
    obtain ⟨w, hw, hp⟩ := State.transition_work hd
    exact (((hs.analysing hw hp).endLong _).runChannels _ _ _).thresholds
  | holdoffEnd hd =>
    obtain ⟨w, hw, hp⟩ := State.transition_work hd
    exact (((hs.analysing hw hp).setAfterHit _).runChannels _ _ _).thresholds
  | lockoutEnd hd =>
    obtain ⟨w, hw, hp⟩ := State.transition_work hd
    exact (((hs.analysing hw hp).setChanState _ (st := .idle) fun t ht => nomatch ht).runChannels _ _ _).thresholds
  | windowPassed hd =>
    obtain ⟨w, hw, hp⟩ := State.windowNow_work hd
    have ha : State.Analysing { s with ev := s.ev.stopCollecting } := hs.analysing hw hp
    exact (ha.afterSet _ _).thresholds
  | recordTaken =>
    refine State.resume_thresholds (((s.takeRecord_touches _ _).calm (by decide)).thresholds hs) ?_
    rw [((s.takeRecord_touches _ _).calm (by decide)).settings]
    exact hc.1
  | cycleEndEvaluation => exact s.startEvaluation_calm.thresholds hs
  | setDetector => exact (State.begun_applyArgs_calm (fun _ _ => {}) s _ _).thresholds hs
  | setLocationEntry => exact (State.begun_applyArgs_calm (fun x _ => x.modTable_calm _) s _ _).thresholds hs
  | mouldRefused => exact ((s.answered_touches _ _ _).calm (by decide)).thresholds hs
  | mouldChange => exact ((s.begun_calm _ _ _).trans (State.mouldBegin_calm _ _ _)).thresholds hs
  | saveConfiguration => exact ((s.begun_calm _ _ _).trans (State.writePage_calm _ _ _)).thresholds hs
  | nextPage => exact (s.writePage_calm _ _).thresholds hs
  | lastPage => exact (s.beginReadback_calm _).thresholds hs
  | reload => exact State.ThresholdsInUse.reloadOn ((s.begun_calm _ _ _).thresholds hs)
  | _ => exact (ht.calm (by simp [footprint])).thresholds hs

/-- Settles O9. -/
theorem stepKeepsChannelsAndThresholdsInRange : Obligations.StepKeepsChannelsAndThresholdsInRange := by
  refine ⟨fun s t hs hc h => ?_, fun s t hs ht h => ?_⟩
  · exact (step_keeps_of (P := fun x => x.SettingsInRange ∧ x.ChannelsInRange)
      (fun _ _ _ _ _ => ⟨State.resetWith_settings .., State.resetWith_channels _ _ _ _ _⟩)
      (fun hk hs => ⟨hk.settings hs.1, hk.channels hs.1 hs.2⟩) ⟨hs, hc⟩ h).2
  · obtain ⟨-, rfl⟩ | ⟨c, rest, -, ⟨-, rfl⟩ | ⟨u, hu, rfl⟩⟩ := step_inversion h
    · exact ht
    · exact State.resetWith_thresholds _ _ _ _ _
    · exact (State.settle_calm _ u).thresholds (hu.thresholds hs.codesOk ht)

end

end Sys2Proof.Machine
end

section
/-! PROOFS. A word made of fields is the sum of the fields at their places (R163), and the gate step words (section 11.3). -/

namespace Sys2Proof.Machine

/-! ## Words made of fields -/

/-- The fields stand one above the other from bit `lo` on, and end at bit 32 or below. -/
def Ascending : Nat → List (Nat × Nat × Nat) → Prop
  | lo, [] => lo ≤ 32
  | lo, f :: fs => lo ≤ f.2.1 ∧ Ascending (f.2.1 + f.2.2) fs

/-- The number that fields make. -/
def fieldSum (fs : List (Nat × Nat × Nat)) : Nat := (fs.map fun f => f.1 % 2 ^ f.2.2 * 2 ^ f.2.1).sum

@[simp] theorem fieldSum_nil : fieldSum [] = 0 := rfl

@[simp] theorem fieldSum_cons (f : Nat × Nat × Nat) (fs : List (Nat × Nat × Nat)) :
    fieldSum (f :: fs) = f.1 % 2 ^ f.2.2 * 2 ^ f.2.1 + fieldSum fs := by
  rw [fieldSum, List.map_cons, List.sum_cons, fieldSum]

/-- Fields from bit `lo` on make a multiple of 2 ^ `lo`. -/
theorem fieldSum_dvd {lo : Nat} {fs : List (Nat × Nat × Nat)} (h : Ascending lo fs) : 2 ^ lo ∣ fieldSum fs := by
  induction fs generalizing lo with
  | nil => exact Nat.dvd_zero _
  | cons f fs ih =>
    obtain ⟨hlo, hrest⟩ := h
    refine Nat.dvd_add ?_ ?_
    · exact Dvd.dvd.mul_left (Nat.pow_dvd_pow 2 hlo) _
    · exact (Nat.pow_dvd_pow 2 (hlo.trans (Nat.le_add_right _ _))).trans (ih hrest)

theorem Ascending.le {lo : Nat} {fs : List (Nat × Nat × Nat)} (h : Ascending lo fs) : lo ≤ 32 := by
  induction fs generalizing lo with
  | nil => exact h
  | cons f fs ih => exact h.1.trans ((Nat.le_add_right _ _).trans (ih h.2))

/-- One field lies below the bit at which it ends. -/
theorem field_lt (v lo width : Nat) : v % 2 ^ width * 2 ^ lo < 2 ^ (lo + width) := by
  rw [Nat.pow_add, Nat.mul_comm (2 ^ lo)]
  exact Nat.mul_lt_mul_of_pos_right (Nat.mod_lt _ (Nat.two_pow_pos _)) (Nat.two_pow_pos _)

theorem packWord_eq_fieldSum {lo : Nat} {fs : List (Nat × Nat × Nat)} (h : Ascending lo fs) :
    packWord fs = BitVec.ofNat 32 (fieldSum fs) := by
  induction fs generalizing lo with
  | nil => rfl
  | cons f fs ih =>
    obtain ⟨hlo, hrest⟩ := h
    obtain ⟨m, hm⟩ := fieldSum_dvd hrest
    have hor : f.1 % 2 ^ f.2.2 * 2 ^ f.2.1 ||| fieldSum fs = f.1 % 2 ^ f.2.2 * 2 ^ f.2.1 + fieldSum fs := by
      rw [hm, Nat.or_comm]
      exact (Nat.two_pow_add_eq_or_of_lt (field_lt _ _ _) m).symm.trans (Nat.add_comm _ _)
    show fieldAt f.1 f.2.1 f.2.2 ||| packWord fs = _
    rw [ih hrest, fieldSum_cons, ← hor, BitVec.ofNat_or]
    rfl

theorem fieldSum_lt {lo : Nat} {fs : List (Nat × Nat × Nat)} (h : Ascending lo fs) : fieldSum fs < 2 ^ 32 := by
  induction fs generalizing lo with
  | nil => exact Nat.two_pow_pos _
  | cons f fs ih =>
    obtain ⟨hlo, hrest⟩ := h
    obtain ⟨m, hm⟩ := fieldSum_dvd hrest
    have hlt := ih hrest
    have hle : f.2.1 + f.2.2 ≤ 32 := hrest.le
    have hf := field_lt f.1 f.2.1 f.2.2
    rw [fieldSum_cons]
    have hpow : 2 ^ 32 = 2 ^ (f.2.1 + f.2.2) * 2 ^ (32 - (f.2.1 + f.2.2)) := by
      rw [← Nat.pow_add, Nat.add_sub_cancel' hle]
    rw [hm, hpow] at hlt ⊢
    have hm' : m + 1 ≤ 2 ^ (32 - (f.2.1 + f.2.2)) := Nat.lt_of_mul_lt_mul_left hlt
    calc f.1 % 2 ^ f.2.2 * 2 ^ f.2.1 + 2 ^ (f.2.1 + f.2.2) * m
        < 2 ^ (f.2.1 + f.2.2) + 2 ^ (f.2.1 + f.2.2) * m := Nat.add_lt_add_right hf _
      _ = 2 ^ (f.2.1 + f.2.2) * (m + 1) := by ring
      _ ≤ _ := Nat.mul_le_mul_left _ hm'

theorem packWord_toNat {lo : Nat} {fs : List (Nat × Nat × Nat)} (h : Ascending lo fs) :
    (packWord fs).toNat = fieldSum fs := by
  rw [packWord_eq_fieldSum h, BitVec.toNat_ofNat, Nat.mod_eq_of_lt (fieldSum_lt h)]

/-- A field of a word put back at its place. -/
theorem fieldAt_fieldOf (w : Word) (lo width : Nat) :
    fieldAt (fieldOf w lo width) lo width = w &&& BitVec.ofNat 32 ((2 ^ width - 1) <<< lo) := by
  refine BitVec.eq_of_getLsbD_eq fun i hi => ?_
  unfold fieldAt fieldOf
  have hw : w.getLsbD i = w.toNat.testBit i := rfl
  simp only [BitVec.getLsbD_ofNat, BitVec.getLsbD_and, hw, Nat.testBit_mul_two_pow, Nat.testBit_mod_two_pow,
    Nat.testBit_div_two_pow, Nat.testBit_shiftLeft, Nat.testBit_two_pow_sub_one, hi, decide_true, Bool.true_and]
  by_cases h : lo ≤ i
  · simp only [h, decide_true, Bool.true_and, Nat.sub_add_cancel h]
    by_cases h2 : i - lo < width <;> simp [h2]
  · simp [h]

/-! ## Gate step words (R43, section 11.3) -/

theorem bits_eq_fieldOf (w : Word) (lo width : Nat) : bits w lo width = fieldOf w lo width := by
  unfold bits fieldOf
  rw [Nat.shiftRight_eq_div_pow]

theorem waitKindOf_code (k : WaitKind) : waitKindOf k.code = some k := by cases k <;> rfl

theorem waitKindOf_some {n : Nat} {k : WaitKind} (h : waitKindOf n = some k) : k.code = n := by
  unfold waitKindOf at h
  split at h <;> cases h <;> rfl

theorem waitKindOf_eq_none {n : Nat} : waitKindOf n = none ↔ 2 ≤ n := by
  match n with
  | 0 => simp [waitKindOf]
  | 1 => simp [waitKindOf]
  | n + 2 => simp [waitKindOf]

theorem Gates.toNat_lt (g : Gates) : g.toNat < 16 := by
  obtain ⟨a, b, c, d⟩ := g
  revert a b c d
  decide

theorem Gates.ofNat_toNat (g : Gates) : Gates.ofNat g.toNat = g := by
  obtain ⟨a, b, c, d⟩ := g
  revert a b c d
  decide

theorem Gates.toNat_ofNat {n : Nat} (h : n < 16) : (Gates.ofNat n).toNat = n := by
  revert n
  decide

theorem flag_lt (b : Bool) : flag b < 2 := by cases b <;> decide

theorem wordOfStep_toNat (g : GateStep) : (wordOfStep g).toNat =
    g.wait.code % 4 + g.k % 16 * 16 + g.line % 8 * 256 + g.gates.toNat % 16 * 4096 + flag g.isEnd % 2 * 65536 := by
  unfold wordOfStep
  rw [packWord_toNat (lo := 0) (by simp [Ascending])]
  simp
  omega

/-- A word is a step unless its wait kind is unknown or it waits on an edge of a line that is none of 1 to 4 (R43). -/
theorem stepOfWord_eq (w : Word) {k : WaitKind} (hk : waitKindOf (fieldOf w 0 2) = some k) :
    stepOfWord w = if k == .edge && outside 1 4 (fieldOf w 8 3) then none
      else some ⟨k, fieldOf w 4 4, fieldOf w 8 3, Gates.ofNat (fieldOf w 12 4), w.getLsbD 16⟩ := by
  unfold stepOfWord
  simp only [bits_eq_fieldOf, hk, bit]

/-- A step in range is read back from its word. -/
theorem stepOfWord_wordOfStep {g : GateStep} (h : g.InRange) : stepOfWord (wordOfStep g) = some g := by
  obtain ⟨hk, hline, hedge⟩ := h
  have hn := wordOfStep_toNat g
  have hg := g.gates.toNat_lt
  have hf := flag_lt g.isEnd
  have hc : g.wait.code < 2 := by cases g.wait <;> decide
  have e0 : fieldOf (wordOfStep g) 0 2 = g.wait.code := by unfold fieldOf; rw [hn]; omega
  have e1 : fieldOf (wordOfStep g) 4 4 = g.k := by unfold fieldOf; rw [hn]; omega
  have e2 : fieldOf (wordOfStep g) 8 3 = g.line := by unfold fieldOf; rw [hn]; omega
  have e3 : fieldOf (wordOfStep g) 12 4 = g.gates.toNat := by unfold fieldOf; rw [hn]; omega
  have e4 : (wordOfStep g).getLsbD 16 = g.isEnd := by
    have : (wordOfStep g).toNat / 2 ^ 16 % 2 = flag g.isEnd := by rw [hn]; omega
    rw [BitVec.getLsbD, Nat.testBit_eq_decide_div_mod_eq, this]
    cases g.isEnd <;> rfl
  rw [stepOfWord_eq _ (by rw [e0]; exact waitKindOf_code _), e1, e2, e3, e4, Gates.ofNat_toNat, if_neg]
  simp only [Bool.and_eq_true, beq_iff_eq, outside_eq_true, not_and, not_not]
  exact hedge

theorem stepOfWord_eq_none {w : Word} : stepOfWord w = none ↔
    2 ≤ fieldOf w 0 2 ∨ (fieldOf w 0 2 = 1 ∧ ¬ (1 ≤ fieldOf w 8 3 ∧ fieldOf w 8 3 ≤ 4)) := by
  cases hk : waitKindOf (fieldOf w 0 2) with
  | none =>
    have h2 := waitKindOf_eq_none.mp hk
    simp only [h2, true_or, iff_true]
    unfold stepOfWord
    rw [bits_eq_fieldOf, hk]
  | some k =>
    rw [stepOfWord_eq w hk]
    have hcode := waitKindOf_some hk
    have h2 : ¬ 2 ≤ fieldOf w 0 2 := fun h => by rw [waitKindOf_eq_none.mpr h] at hk; cases hk
    have hedge : k = .edge ↔ fieldOf w 0 2 = 1 := by
      rw [← hcode]
      cases k <;> decide
    have hline : outside 1 4 (fieldOf w 8 3) = true ↔ ¬ (1 ≤ fieldOf w 8 3 ∧ fieldOf w 8 3 ≤ 4) := outside_eq_true
    rw [← hedge, ← hline, or_iff_right h2, ← beq_iff_eq (a := k), ← Bool.and_eq_true]
    split
    · next hc => exact iff_of_true rfl hc
    · next hc => exact iff_of_false (by simp) hc

/-- The word of the step read is the word, bits outside the fields apart. -/
theorem wordOfStep_of_stepOfWord {w : Word} {g : GateStep} (h : stepOfWord w = some g) :
    wordOfStep g = w &&& 0x1F7F3 := by
  cases hk : waitKindOf (fieldOf w 0 2) with
  | none =>
    unfold stepOfWord at h
    rw [bits_eq_fieldOf, hk] at h
    cases h
  | some k =>
    have hcode := waitKindOf_some hk
    rw [stepOfWord_eq w hk] at h
    split at h
    · cases h
    · cases h
      have hgates : (Gates.ofNat (fieldOf w 12 4)).toNat = fieldOf w 12 4 := Gates.toNat_ofNat (Nat.mod_lt _ (by decide))
      have hend : flag (w.getLsbD 16) = fieldOf w 16 1 := by
        unfold fieldOf
        rw [BitVec.getLsbD, Nat.testBit_eq_decide_div_mod_eq]
        unfold flag
        have := Nat.mod_two_eq_zero_or_one (w.toNat / 2 ^ 16)
        split <;> simp_all
      show packWord _ = _
      dsimp only
      rw [hcode, hgates, hend]
      show fieldAt _ _ _ ||| (fieldAt _ _ _ ||| (fieldAt _ _ _ ||| (fieldAt _ _ _ ||| (fieldAt _ _ _ ||| 0#32)))) = _
      simp only [fieldAt_fieldOf, BitVec.or_zero, ← BitVec.and_or_distrib_left]
      rfl

/-- Settles O15. -/
theorem gateStepWordsAgree : Obligations.GateStepWordsAgree :=
  ⟨fun _ => stepOfWord_wordOfStep, fun _ => ⟨stepOfWord_eq_none, fun _ h => ⟨stepOfWord_inRange h, wordOfStep_of_stepOfWord h⟩⟩⟩

end Sys2Proof.Machine
end

section
/-! PROOFS. An image read is judged by R160: the checks of the model are those of the rule, and what passes gives the values that
the rule states. -/

namespace Sys2Proof.Machine

section
variable (bs : List Byte)

/-! ## The words and limits of the rule -/

theorem imagePair_eq (i : Nat) : imagePair bs i = imageWord16 bs i := by
  unfold imagePair imageWord16
  omega

theorem imageTriple_eq (i : Nat) : imageTriple bs i = imageWord24 bs i := by
  unfold imageTriple imageWord24
  rw [imagePair_eq]
  omega

theorem imageStep_eq (i : Nat) : imageStep bs i = imageWord32 bs (64 + 4 * i) := by
  unfold imageStep imageWord32
  rw [imagePair_eq, imagePair_eq, Nat.mul_comm 65536, show 66 + 4 * i = 64 + 4 * i + 2 by omega]

theorem limited_eq {lo hi : Nat} (h : lo ≤ hi) (v : Nat) : limited lo hi v = clampTo lo hi v := by
  unfold limited clampTo
  split
  · omega
  · split <;> omega

theorem limited_zero_eq (hi v : Nat) : limited 0 hi v = clampTo 0 hi v := limited_eq (Nat.zero_le _) v

theorem outside_iff {lo hi v : Nat} : outside lo hi v = true ↔ v < lo ∨ hi < v := by
  simp [outside]

/-! ## The checks -/

theorem markersOk_iff : markersOk bs = true ↔
    imageByte bs 0 = 0xC3 ∧ imageByte bs 1 = 0x3C ∧ imageByte bs 1022 = 0x3C ∧ imageByte bs 1023 = 0xC3 := by
  simp [markersOk, and_assoc]

theorem crcOk_iff : crcOk bs = true ↔ (crc16 ((bs.drop 2).take 1018)).toNat = imagePair bs 1020 := by
  rw [imagePair_eq]
  simp [crcOk]

theorem allDisjoint_iff {l : List (Nat × Nat)} :
    allDisjoint l = true ↔ l.Pairwise fun x y => x.1 + x.2 ≤ y.1 ∨ y.1 + y.2 ≤ x.1 := by
  induction l with
  | nil => simp [allDisjoint]
  | cons x l ih => simp [allDisjoint, disjointExtents, ih]

theorem windowsOk_iff {t : WindowTable} : windowsOk t = true ↔
    (16 ≤ t.r ∧ t.r ≤ 512)
      ∧ (t.bs % 4096 = 0 ∧ t.be % 4096 = 0 ∧ t.bc % 256 = 0 ∧ t.bt % 256 = 0 ∧ t.br % 256 = 0)
      ∧ (∀ e ∈ windowExtents t, e.1 + e.2 ≤ 2 ^ 24)
      ∧ (windowExtents t).Pairwise fun x y => x.1 + x.2 ≤ y.1 ∨ y.1 + y.2 ≤ x.1 := by
  unfold windowsOk
  simp only [Bool.and_eq_true, Bool.not_eq_true', outside_eq_false, within, beq_iff_eq, List.all_eq_true, decide_eq_true_eq,
    allDisjoint_iff, and_assoc]

theorem stepsOfWords_isSome {ws : List Word} : (stepsOfWords ws).isSome = true ↔ ∀ w ∈ ws, stepOfWord w ≠ none := by
  induction ws with
  | nil => simp [stepsOfWords]
  | cons w ws ih =>
    unfold stepsOfWords
    cases hw : stepOfWord w with
    | none => simp [hw]
    | some g =>
      cases hs : stepsOfWords ws with
      | none =>
        rw [hs] at ih
        have : ¬ ∀ w ∈ ws, stepOfWord w ≠ none := fun h => by cases ih.mpr h
        simp only [Option.isSome_none, Bool.false_eq_true, List.mem_cons, forall_eq_or_imp, false_iff, not_and]
        exact fun _ => this
      | some gs =>
        rw [hs] at ih
        have := ih.mp rfl
        simp only [Option.isSome_some, List.mem_cons, forall_eq_or_imp, true_iff]
        exact ⟨by rw [hw]; simp, this⟩

theorem programOk_iff : programOk bs = true ↔
    1 ≤ imageByte bs 63 ∧ imageByte bs 63 ≤ 12 ∧ ∀ i < imageByte bs 63, stepOfWord (imageStep bs i) ≠ none := by
  unfold programOk
  rw [Bool.and_eq_true, stepCountOk_iff, stepsOfWords_isSome]
  simp [imageStepWords, imageStep_eq, within, and_assoc]

/-- The checks of the model are those of R160. -/
theorem imagePasses_iff (status : Byte) : ImagePasses status bs ↔ status ≠ 0xFF ∧ imageOk bs = true := by
  have hle (v : Nat) : limited 1 1023 v = clampTo 1 1023 v := limited_eq (by decide) v
  have hle' (v : Nat) : limited 1 65535 v = clampTo 1 65535 v := limited_eq (by decide) v
  rw [imageOk_iff, markersOk_iff, crcOk_iff, windowsOk_iff, orderOk_iff, programOk_iff]
  constructor
  · rintro ⟨h1, h2, h3, h4, h5, ⟨h6, h7⟩, h8, h9⟩
    simp only [imagePair_eq, imageTriple_eq, hle, hle', Nat.mul_comm 128] at h4 h5 h6 h7 h8
    exact ⟨h1, h2, h3, ⟨h4, h5, h6, h7⟩, h8, h9⟩
  · rintro ⟨h1, h2, h3, ⟨h4, h5, h6, h7⟩, h8, h9⟩
    refine ⟨h1, h2, h3, ?_, ?_, ?_, ?_, h9⟩
    · simp only [imagePair_eq]
      exact h4
    · simp only [imageTriple_eq]
      exact h5
    · simp only [imagePair_eq, imageTriple_eq, Nat.mul_comm 128]
      exact ⟨h6, h7⟩
    · simpa only [imagePair_eq, hle, hle'] using h8

/-! ## The values -/

theorem tableOf_getElem (f : Nat → Byte) (i : Fin 196) : (tableOf f)[i] = f i := by
  simp [tableOf]

theorem imageKeepsSlot_eq (p : Nat) : imageKeepsSlot bs p = profileStored bs p := by
  have hbase (i : Nat) : 136 + 202 * p + i = profileBase p + i := rfl
  rw [Bool.eq_iff_iff, profileStored_iff]
  unfold imageKeepsSlot profileValuesOk
  simp only [hbase, Nat.add_zero, Bool.and_eq_true, Bool.not_eq_true', outside_eq_false, within, decide_eq_true_eq,
    List.all_eq_true, List.mem_range, bne_iff_ne, and_assoc]
  simp only [profileBase, entryOk, Nat.add_assoc]

theorem profileOf_gives {p : Nat} (h : profileValuesOk bs p = true) : ImageSlotGives bs p (profileOf bs p) := by
  obtain ⟨-, hz, -⟩ := profileOf_inRange bs h
  have hbase (i : Nat) : profileBase p + i = 136 + i + 202 * p := by unfold profileBase; omega
  have hbase0 : profileBase p = 136 + 202 * p := rfl
  refine { type := rfl, zoneCount := ?_, q := ?_, table := fun i => ?_, mask := fun z => ?_ }
  · show imageByte bs (profileBase p + 1) = _
    rw [hbase]
  · show clampTo 0 7 (imageByte bs (profileBase p + 2)) = _
    rw [hbase, limited_zero_eq]
  · show ((tableOf fun i => BitVec.ofNat 8 (imageByte bs (profileBase p + 3 + i)))[i]).toNat = _
    rw [tableOf_getElem, BitVec.toNat_ofNat, Nat.mod_eq_of_lt (imageByte_lt bs _), Nat.add_assoc, hbase,
      show 136 + (3 + i.val) + 202 * p = 139 + 202 * p + i.val by omega]
  · show (trimMask (imageWord24 bs (profileBase p + 199)) (imageByte bs (profileBase p + 1))).getLsbD z
      = (decide (z < imageByte bs (profileBase p + 1)) && _)
    have hz' : imageByte bs (profileBase p + 1) ≤ 24 := hz.2
    rw [trimMask, BitVec.getLsbD_ofNat, Nat.testBit_mod_two_pow, imageTriple_eq, hbase 199]
    by_cases hlt : z < imageByte bs (profileBase p + 1)
    · have : z < 24 := by omega
      simp [hlt, this]
    · simp [hlt]

/-- The number whose bits are those of `f`. -/
def bitsNat (f : Nat → Bool) (n init : Nat) : Nat := (List.range n).foldr (fun i acc => acc + flag (f i) * 2 ^ i) init

theorem bitsNat_eq_add (f : Nat → Bool) (n init : Nat) : bitsNat f n init = bitsNat f n 0 + init := by
  unfold bitsNat
  induction n generalizing init with
  | zero => simp
  | succ n ih =>
    rw [List.range_succ, List.foldr_append, List.foldr_append]
    simp only [List.foldr_cons, List.foldr_nil]
    rw [ih, ih (0 + _)]
    omega

theorem bitsNat_succ (f : Nat → Bool) (n : Nat) : bitsNat f (n + 1) 0 = 2 ^ n * flag (f n) + bitsNat f n 0 := by
  have : bitsNat f (n + 1) 0 = bitsNat f n (0 + flag (f n) * 2 ^ n) := by
    unfold bitsNat
    rw [List.range_succ, List.foldr_append]
    rfl
  rw [this, bitsNat_eq_add, Nat.zero_add, Nat.mul_comm, Nat.add_comm]

theorem bitsNat_lt (f : Nat → Bool) (n : Nat) : bitsNat f n 0 < 2 ^ n := by
  induction n with
  | zero => exact Nat.one_pos
  | succ n ih =>
    rw [bitsNat_succ, Nat.pow_succ]
    have := Nat.mul_le_mul_left (2 ^ n) (Nat.le_of_lt_succ (flag_lt (f n)))
    omega

theorem bitsNat_testBit (f : Nat → Bool) (n j : Nat) : (bitsNat f n 0).testBit j = (decide (j < n) && f j) := by
  induction n with
  | zero => simp [bitsNat]
  | succ n ih =>
    rw [bitsNat_succ, Nat.testBit_two_pow_mul_add _ (bitsNat_lt f n), ih]
    split
    · next h => simp [h, Nat.lt_succ_of_lt h]
    · next h =>
      by_cases hj : j = n
      · subst hj
        cases f j <;> simp [flag]
      · have h1 : ¬ j < n + 1 := by omega
        obtain ⟨k, hk⟩ : ∃ k, j - n = k + 1 := ⟨j - n - 1, by omega⟩
        rw [hk]
        cases f n <;> simp [flag, h1, Nat.testBit_succ]

theorem imageEnables_getLsbD (f : Fin 16) : (imageEnables bs).getLsbD f = (imageByte bs (112 + f)).testBit 7 := by
  have h : imageEnables bs = BitVec.ofNat 16 (bitsNat (fun i => (imageByte bs (112 + i)).testBit 7) 16 0) := rfl
  rw [h, BitVec.getLsbD_ofNat, bitsNat_testBit]
  simp

theorem switchOf_getD (v : Nat) : (switchOf v).getD true = (v != 0) := by
  match v with
  | 0 => rfl
  | 1 => rfl
  | v + 2 => rfl

theorem lineByteMode_getD (v : Nat) : (lineByteMode v).getD .rising
    = if v / 32 % 4 = 1 then .falling else if v / 32 % 4 = 2 then .both else .rising := by
  have h4 : v / 32 % 4 < 4 := Nat.mod_lt _ (by decide)
  unfold lineByteMode
  generalize v / 32 % 4 = n at h4 ⊢
  revert n
  decide

theorem lineByteMode_measuring (v : Nat) : ((lineByteMode v).bind EdgeMode.measuring?).getD .rising
    = if v / 32 % 4 = 1 then .falling else .rising := by
  have h4 : v / 32 % 4 < 4 := Nat.mod_lt _ (by decide)
  unfold lineByteMode
  generalize v / 32 % 4 = n at h4 ⊢
  revert n
  decide

theorem clearModeOf_getD (v : Nat) : (clearModeOf v).getD .clearOnOne = if v = 1 then .replace else .clearOnOne := by
  match v with
  | 0 => rfl
  | 1 => rfl
  | v + 2 => simp [clearModeOf]

theorem stopModeOf_getD (v : Nat) : (stopModeOf v).getD .latch = if v = 1 then .pulse else .latch := by
  match v with
  | 0 => rfl
  | 1 => rfl
  | v + 2 => simp [stopModeOf]

theorem imageProgram_map (h : programOk bs = true) : ((stepsOfWords (imageStepWords bs)).getD []).map some
    = (List.range (imageByte bs 63)).map fun i => stepOfWord (imageStep bs i) := by
  unfold programOk at h
  simp only [Bool.and_eq_true, Option.isSome_iff_exists] at h
  obtain ⟨-, gs, hgs⟩ := h
  rw [hgs, Option.getD_some, ← stepsOfWords_some hgs, imageStepWords, List.map_map]
  exact List.map_congr_left fun i _ => by rw [Function.comp_apply, imageStep_eq]

/-- The stored profiles are those of the profile slots kept, or the default profile. -/
theorem imageProfiles_gives : (storedSlots bs = [] → imageProfiles bs = [defaultProfile])
    ∧ (storedSlots bs ≠ [] → List.Forall₂ (ImageSlotGives bs) (storedSlots bs) (imageProfiles bs)) := by
  unfold imageProfiles
  split
  · next h => exact ⟨fun _ => rfl, fun hn => absurd h hn⟩
  · next h =>
    refine ⟨fun hn => absurd hn h, fun _ => ?_⟩
    rw [List.forall₂_map_right_iff, List.forall₂_same]
    exact fun p hp => profileOf_gives bs ((profileStored_iff bs).mp ((mem_storedSlots bs).mp hp).2).1

theorem imageConfig_gives (h : imageOk bs = true) : ImageGives bs (imageConfig bs) := by
  obtain ⟨-, -, -, -, hprog⟩ := (imageOk_iff bs).mp h
  have h1 (hi v : Nat) (hle : 1 ≤ hi) : limited 1 hi v = clampTo 1 hi v := limited_eq hle v
  have hb51 : clampTo 0 255 (imageByte bs 51) = imageByte bs 51 := by
    have := imageByte_lt bs 51
    unfold clampTo
    omega
  refine {
    windows := by simp only [imagePair_eq, imageTriple_eq]; rfl
    det := ?_, event := ?_, policy := ?_, band := ?_, lines := fun i => ?_, tacho := ?_
    program := imageProgram_map bs hprog, factors := fun f => ⟨imageEnables_getLsbD bs f, ?_⟩, batches := ?_
    clearMode := clearModeOf_getD _, stop := ⟨?_, stopModeOf_getD _, ?_⟩, mould := rfl, profiles := ?_ }
  · simp only [imagePair_eq, limited_zero_eq, h1 _ _ (show 1 ≤ 6 by decide), limited_eq (show 4 ≤ 10 by decide),
      limited_eq (show 16 ≤ 255 by decide), limited_eq (show 8 ≤ 1023 by decide), limited_eq (show 64 ≤ 4095 by decide)]
    rfl
  · simp only [imagePair_eq, limited_zero_eq, h1 _ _ (show 1 ≤ 4095 by decide), ← switchOf_getD]
    rfl
  · simp only [imagePair_eq, limited_zero_eq, h1 _ _ (show 1 ≤ 1023 by decide), h1 _ _ (show 1 ≤ 255 by decide),
      ← switchOf_getD]
    rw [← hb51]
    rfl
  · simp only [imagePair_eq, h1 _ _ (show 1 ≤ 65535 by decide)]
    exact ⟨rfl, rfl⟩
  · simp only [h1 _ _ (show 1 ≤ 8 by decide), ← lineByteMode_getD]
    simp [imageConfig, lineOfByte, lineBytePolarity]
  · simp only [h1 _ _ (show 1 ≤ 8 by decide), ← lineByteMode_measuring]
    rfl
  · simp [imageConfig]
  · simp only [h1 _ _ (show 1 ≤ 255 by decide)]
    exact ⟨rfl, rfl⟩
  · simp only [imagePair_eq]
    rfl
  · simp only [limited_zero_eq]
    rfl
  · have hk : (List.range 4).filter (imageKeepsSlot bs) = storedSlots bs :=
      List.filter_congr fun p _ => imageKeepsSlot_eq bs p
    rw [hk]
    exact imageProfiles_gives bs

/-! ## CLAMPED -/

theorem switchOf_isNone {v : Nat} : (switchOf v).isNone = true ↔ 1 < v := by
  match v with
  | 0 => simp [switchOf]
  | 1 => simp [switchOf]
  | v + 2 => simp [switchOf]

theorem clearModeOf_isNone {v : Nat} : (clearModeOf v).isNone = true ↔ 1 < v := by
  match v with
  | 0 => simp [clearModeOf]
  | 1 => simp [clearModeOf]
  | v + 2 => simp [clearModeOf]

theorem stopModeOf_isNone {v : Nat} : (stopModeOf v).isNone = true ↔ 1 < v := by
  match v with
  | 0 => simp [stopModeOf]
  | 1 => simp [stopModeOf]
  | v + 2 => simp [stopModeOf]

theorem lineByteMode_isNone (v : Nat) : (lineByteMode v).isNone = true ↔ v / 32 % 4 = 3 := by
  have h4 : v / 32 % 4 < 4 := Nat.mod_lt _ (by decide)
  unfold lineByteMode
  generalize v / 32 % 4 = n at h4 ⊢
  revert n
  decide

theorem tachoMode_isNone (v : Nat) : ((lineByteMode v).bind EdgeMode.measuring?).isNone = true ↔ 2 ≤ v / 32 % 4 := by
  have h4 : v / 32 % 4 < 4 := Nat.mod_lt _ (by decide)
  unfold lineByteMode
  generalize v / 32 % 4 = n at h4 ⊢
  revert n
  decide

theorem unknownCodes_iff : unknownCodes bs = true ↔ 1 < imageByte bs 32 ∨ 1 < imageByte bs 52 ∨ 1 < imageByte bs 130
    ∨ 1 < imageByte bs 133 ∨ (∃ i : Fin 5, imageByte bs (57 + i) / 32 % 4 = 3) ∨ 2 ≤ imageByte bs 62 / 32 % 4 := by
  unfold unknownCodes
  simp only [Bool.or_eq_true, switchOf_isNone, clearModeOf_isNone, stopModeOf_isNone, tachoMode_isNone, List.any_eq_true,
    List.mem_range, lineByteMode_isNone, or_assoc, Fin.exists_iff, exists_prop]

/-- The numeric fields of an image and the q of each profile slot, in the order of the rule; a byte is always a blind limit. -/
def imageNumbers : List (Nat × Nat × Nat) :=
  (numericFields bs).take 23 ++ (((numericFields bs).drop 24).take 2 ++ ((numericFields bs).drop 29
    ++ (((numericFields bs).drop 26).take 3 ++ (List.range 4).map fun p => (0, 7, imageByte bs (profileBase p + 2)))))

theorem imageClamped_iff_numbers : imageClamped bs = true ↔
    (imageNumbers bs).any (fun f => outside f.1 f.2.1 f.2.2) = true ∨ unknownCodes bs = true := by
  have hsplit : numericFields bs = (numericFields bs).take 23 ++ (0, 255, imageByte bs 51)
      :: (((numericFields bs).drop 24).take 2 ++ (((numericFields bs).drop 26).take 3 ++ (numericFields bs).drop 29)) := rfl
  have h51 : outside 0 255 (imageByte bs 51) = false :=
    outside_eq_false.mpr ⟨Nat.zero_le _, Nat.le_of_lt_succ (imageByte_lt bs 51)⟩
  unfold imageClamped
  rw [hsplit]
  unfold imageNumbers
  clear hsplit
  generalize (numericFields bs).take 23 = a
  generalize ((numericFields bs).drop 24).take 2 = b
  generalize ((numericFields bs).drop 26).take 3 = c
  generalize (numericFields bs).drop 29 = d
  simp only [List.any_append, List.any_cons, List.any_map, h51, Bool.false_or, Bool.or_eq_true, Function.comp_def]
  tauto

theorem imageClamped_iff : imageClamped bs = true ↔ ImageIsClamped bs := by
  rw [imageClamped_iff_numbers, unknownCodes_iff, List.any_eq_true]
  simp only [outside_iff]
  unfold ImageIsClamped
  simp only [imagePair_eq, limited_eq (show 1 ≤ 1023 by decide)]
  exact Iff.rfl

end

/-- Settles O14. -/
theorem acceptedImageIsInRange : Obligations.AcceptedImageIsInRange := by
  intro status bs
  rw [imagePasses_iff]
  unfold judgeRead
  by_cases h : status ≠ 0xFF ∧ imageOk bs = true
  · refine ⟨fun hn => absurd h hn, fun _ => ⟨_, _, ?_, imageConfig_inRange bs h.2, imageConfig_gives bs h.2, imageClamped_iff bs⟩⟩
    rw [if_neg]
    simpa [h.2] using h.1
  · refine ⟨fun _ => ?_, fun hn => absurd hn h⟩
    rw [if_pos]
    by_contra hn
    exact h (by simpa using hn)

end Sys2Proof.Machine
end

section
/-! PROOFS. The image that SAVE CONFIGURATION builds reads back (R156, R160, R164). Its bytes are numbers of one to four bytes one
behind the other; what stands at each place is said once, for any such list. -/

namespace Sys2Proof.Machine

/-! ## Numbers one behind the other -/

/-- The number of `n` bytes of an image from byte `i` on (R164). -/
def imageNumber (bs : List Byte) (i : Nat) : Nat → Nat
  | 1 => imageByte bs i
  | 2 => imageWord16 bs i
  | 3 => imageWord24 bs i
  | _ => imageWord16 bs i * 65536 + imageWord16 bs (i + 2)

/-- Numbers as bytes, big-endian, each `(bytes, value)`. -/
def numberBytes (fs : List (Nat × Nat)) : List Byte := fs.flatMap fun f => bytesBE f.1 f.2

/-- Numbers stand one behind the other from byte `i` of an image on, each cut to its bytes. -/
def NumbersAt (bs : List Byte) : Nat → List (Nat × Nat) → Prop
  | _, [] => True
  | i, f :: fs => imageNumber bs i f.1 = f.2 % 256 ^ f.1 ∧ NumbersAt bs (i + f.1) fs

/-- The number of bytes that a list of numbers takes. -/
def numbersLength (fs : List (Nat × Nat)) : Nat := (fs.map (·.1)).sum

section
variable {bs : List Byte}

@[simp] theorem bytesBE_length (n v : Nat) : (bytesBE n v).length = n := by simp [bytesBE]

theorem numberBytes_length (fs : List (Nat × Nat)) : (numberBytes fs).length = numbersLength fs := by
  simp [numberBytes, numbersLength, List.length_flatMap]

theorem imageByte_of_drop {i k : Nat} {l : List Byte} (h : bs.drop i = l) :
    imageByte bs (i + k) = (l[k]?.getD 0xFF).toNat := by
  rw [← h, List.getElem?_drop]
  rfl

/-- The number at the head of what stands from byte `i` on. -/
theorem imageNumber_of_drop {i n v : Nat} {rest : List Byte} (hn : within 1 4 n) (h : bs.drop i = bytesBE n v ++ rest) :
    imageNumber bs i n = v % 256 ^ n := by
  have hb (k : Nat) := imageByte_of_drop (k := k) h
  have h0 := hb 0
  have h1 := hb 1
  have h2 := hb 2
  have h3 := hb 3
  obtain ⟨hlo, hhi⟩ := hn
  have hcases : n = 1 ∨ n = 2 ∨ n = 3 ∨ n = 4 := by omega
  obtain rfl | rfl | rfl | rfl := hcases <;>
    simp [bytesBE, List.range_succ, Nat.shiftRight_eq_div_pow] at h0 h1 h2 h3 <;>
    simp only [imageNumber, imageWord16, imageWord24, Nat.add_assoc, h0, h1, h2, h3] <;> omega

theorem NumbersAt.of_drop {fs : List (Nat × Nat)} (hw : ∀ f ∈ fs, within 1 4 f.1) {i : Nat} {rest : List Byte}
    (h : bs.drop i = numberBytes fs ++ rest) : NumbersAt bs i fs ∧ bs.drop (i + numbersLength fs) = rest := by
  induction fs generalizing i with
  | nil => exact ⟨trivial, h⟩
  | cons f fs ih =>
    have h' : bs.drop i = bytesBE f.1 f.2 ++ (numberBytes fs ++ rest) := by rw [h]; simp [numberBytes]
    have hrest : bs.drop (i + f.1) = numberBytes fs ++ rest := by
      rw [← List.drop_drop, h', List.drop_append_of_le_length (by simp)]
      simp
    obtain ⟨h1, h2⟩ := ih (fun g hg => hw g (List.mem_cons_of_mem _ hg)) hrest
    refine ⟨⟨imageNumber_of_drop (hw f List.mem_cons_self) h', h1⟩, ?_⟩
    rw [← h2]
    simp [numbersLength, Nat.add_assoc]

theorem NumbersAt.append {i : Nat} {fs gs : List (Nat × Nat)} (h : NumbersAt bs i (fs ++ gs)) :
    NumbersAt bs i fs ∧ NumbersAt bs (i + numbersLength fs) gs := by
  induction fs generalizing i with
  | nil => exact ⟨trivial, h⟩
  | cons f fs ih =>
    obtain ⟨h1, h2⟩ := ih h.2
    refine ⟨⟨h.1, h1⟩, ?_⟩
    simpa [numbersLength, Nat.add_assoc] using h2

/-- Numbers of one size. -/
theorem NumbersAt.map {α : Type} {n : Nat} {g : α → Nat} {l : List α} {i : Nat}
    (h : NumbersAt bs i (l.map fun x => (n, g x))) (k : Nat) (hk : k < l.length) :
    imageNumber bs (i + n * k) n = g l[k] % 256 ^ n := by
  induction l generalizing i k with
  | nil => cases hk
  | cons x l ih =>
    cases k with
    | zero => exact h.1
    | succ k =>
      have := ih h.2 k (Nat.lt_of_succ_lt_succ hk)
      rw [List.getElem_cons_succ, ← this]
      congr 1
      dsimp only
      ring

/-- Parts of one size. -/
theorem drop_flatMap_range {f : Nat → List Byte} {w : Nat} (hw : ∀ p, (f p).length = w) (n p : Nat) (hp : p < n)
    (rest : List Byte) : ∃ rest', ((List.range n).flatMap f ++ rest).drop (w * p) = f p ++ rest' := by
  induction n generalizing rest with
  | zero => cases hp
  | succ n ih =>
    have e : (List.range (n + 1)).flatMap f ++ rest = (List.range n).flatMap f ++ (f n ++ rest) := by
      rw [List.range_succ, List.flatMap_append, List.append_assoc]
      simp
    rw [e]
    by_cases hlt : p < n
    · exact ih hlt _
    · obtain rfl : p = n := by omega
      refine ⟨rest, ?_⟩
      have hlen : ((List.range p).flatMap f).length = w * p := by
        simp [List.length_flatMap, hw, Nat.mul_comm]
      rw [← hlen]
      simp

end

/-! ## The image as numbers -/

/-- The code of a clear mode (R164). -/
def clearModeCode : ClearMode → Nat
  | .clearOnOne => 0
  | .replace => 1

/-- The code of a stop mode (R164). -/
def stopModeCode : StopMode → Nat
  | .latch => 0
  | .pulse => 1

/-- The numbers of an image from its markers to the tacho band (section 11.6). -/
def settingNumbers (c : ImageConfig) : List (Nat × Nat) :=
  let w := c.windows
  let d := c.det
  let e := c.event
  let z := c.policy
  [(1, 0xC3), (1, 0x3C), (3, w.bs), (3, w.be), (3, w.bc), (3, w.bt), (3, w.br), (2, w.r),
    (1, d.kEnv), (1, d.kUp), (1, d.f), (1, d.code), (2, d.hdt), (2, d.lockout), (2, d.dMax),
    (2, e.w), (1, e.wCap), (1, flag e.suspect), (1, e.pre), (1, e.post), (1, e.gA), (1, e.gB), (1, e.gC), (1, e.slope),
    (1, e.octFloor), (2, z.tWatch), (2, z.tSuspect), (2, z.tCrack), (2, z.h), (1, z.n), (1, z.d), (1, z.b),
    (1, z.blindLimit), (1, flag z.offBlind), (2, c.pmin), (2, c.pmax)]

/-- The numbers behind the factor bytes, up to the initial type. -/
def lastNumbers (c : ImageConfig) : List (Nat × Nat) :=
  [(1, c.batchEvent), (1, c.batchCycle), (1, clearModeCode c.clearMode), (2, c.sources.toNat), (1, stopModeCode c.stopMode),
    (1, c.stopK), (1, c.initialType)]

/-- The line byte of a press line. -/
def pressLineByte (l : LineSettings) : Byte := lineByte l.filter l.polarity (edgeModeCode l.mode)

/-- The line byte of the tacho. -/
def tachoLineByte (c : ImageConfig) : Byte := lineByte c.tacho.filter c.tacho.polarity (measEdgeCode c.tacho.edge)

/-- Step word `i` of the image of a configuration, 0 beyond the step count. -/
def savedStepWord (c : ImageConfig) (i : Nat) : Word := (c.program[i]?.map wordOfStep).getD 0

/-- The numbers of an image before its profile slots. -/
def headNumbers (c : ImageConfig) : List (Nat × Nat) :=
  settingNumbers c ++ (c.lines.toList.map (fun l => (1, (pressLineByte l).toNat))
    ++ ([(1, (tachoLineByte c).toNat), (1, c.program.length)]
    ++ ((List.range 12).map (fun i => (4, (savedStepWord c i).toNat))
    ++ ((List.range 16).map (fun i => (1, (factorByte c.enables c.levels i).toNat)) ++ lastNumbers c))))

/-- The bytes of profile slot `p` in the image of a configuration. -/
def savedSlotBytes (c : ImageConfig) (p : Nat) : List Byte := (c.profiles[p]?.map profileBytes).getD emptySlotBytes

/-- The numbers behind byte 1019: the CRC and the markers. -/
def endNumbers (c : ImageConfig) : List (Nat × Nat) := [(2, (crc16 (imageBody c)).toNat), (1, 0x3C), (1, 0xC3)]

theorem bytesBE_one (v : Nat) : bytesBE 1 v = [BitVec.ofNat 8 v] := by simp [bytesBE]

theorem bytesBE_toNat (b : Byte) : bytesBE 1 b.toNat = [b] := by simp [bytesBE_one]

theorem numberBytes_append (fs gs : List (Nat × Nat)) : numberBytes (fs ++ gs) = numberBytes fs ++ numberBytes gs := by
  simp [numberBytes]

theorem numberBytes_bytes {α : Type} (g : α → Byte) (l : List α) :
    numberBytes (l.map fun x => (1, (g x).toNat)) = l.map g := by
  simp [numberBytes, List.flatMap_map, bytesBE_toNat, ← List.map_eq_flatMap]

theorem buildImage_eq (c : ImageConfig) : buildImage c = numberBytes (headNumbers c)
    ++ ((List.range 4).flatMap (savedSlotBytes c) ++ (List.replicate 76 0 ++ numberBytes (endNumbers c))) := by
  have hprog : programBytes c.program = numberBytes ((List.range 12).map fun i => (4, (savedStepWord c i).toNat)) := by
    simp [programBytes, numberBytes, List.flatMap_map, savedStepWord]
  unfold buildImage
  generalize hcrc : bytesBE 2 (crc16 (imageBody c)).toNat = crc
  have hend : numberBytes (endNumbers c) = crc ++ [0x3C, 0xC3] := by
    rw [← hcrc]
    simp [endNumbers, numberBytes, bytesBE_one]
  rw [hend]
  unfold headNumbers
  simp only [numberBytes_append, numberBytes_bytes, ← hprog]
  generalize hzeros : List.replicate 76 (0 : Byte) = zeros
  unfold imageBody
  rw [hzeros]
  simp only [settingNumbers, lastNumbers, numberBytes, bytesBE_one, List.flatMap_cons, List.flatMap_nil, List.append_assoc,
    List.cons_append, List.nil_append, List.append_nil, BitVec.ofNat_toNat, BitVec.setWidth_eq]
  rfl

/-! ## What stands at each place -/

section
variable (c : ImageConfig)

theorem profileBytes_eq (p : Profile) : profileBytes p = numberBytes ([(1, p.type), (1, p.zoneCount), (1, p.q)]
    ++ (p.table.toList.map (fun b => (1, b.toNat)) ++ [(3, p.mask.toNat)])) := by
  rw [numberBytes_append, numberBytes_append, numberBytes_bytes fun b => b]
  simp [profileBytes, numberBytes, bytesBE_one]

theorem savedSlotBytes_length (p : Nat) : (savedSlotBytes c p).length = 202 := by
  unfold savedSlotBytes
  cases c.profiles[p]? with
  | none => exact List.length_replicate
  | some x => simp [profileBytes]

theorem headNumbers_width : ∀ f ∈ headNumbers c, within 1 4 f.1 := by
  have h1 : within 1 4 1 := ⟨by decide, by decide⟩
  have h4 : within 1 4 4 := ⟨by decide, by decide⟩
  simp only [headNumbers, List.forall_mem_append, List.forall_mem_map]
  exact ⟨by simp [settingNumbers, within], fun _ _ => h1, by simp [within], fun _ _ => h4, fun _ _ => h1,
    by simp [lastNumbers, within]⟩

theorem headNumbers_length : numbersLength (headNumbers c) = 136 := by
  simp [headNumbers, settingNumbers, lastNumbers, numbersLength, Function.comp_def]

/-- Where the parts of the image stand. -/
theorem buildImage_parts : NumbersAt (buildImage c) 0 (headNumbers c)
    ∧ (buildImage c).drop 136 = (List.range 4).flatMap (savedSlotBytes c) ++ (List.replicate 76 0 ++ numberBytes (endNumbers c)) := by
  have h := NumbersAt.of_drop (headNumbers_width c) (i := 0) (buildImage_eq c)
  rwa [headNumbers_length, Nat.zero_add] at h

theorem buildImage_end : (buildImage c).drop 944 = List.replicate 76 0 ++ numberBytes (endNumbers c) := by
  have hlen : ((List.range 4).flatMap (savedSlotBytes c)).length = 808 := by
    simp [List.length_flatMap, savedSlotBytes_length]
  have h := (buildImage_parts c).2
  rw [show 944 = 136 + 808 from rfl, ← List.drop_drop, h, ← hlen]
  simp

theorem buildImage_slot (p : Nat) (hp : p < 4) : ∃ rest, (buildImage c).drop (136 + 202 * p) = savedSlotBytes c p ++ rest := by
  obtain ⟨rest, h⟩ := drop_flatMap_range (savedSlotBytes_length c) 4 p hp (List.replicate 76 0 ++ numberBytes (endNumbers c))
  exact ⟨rest, by rw [← List.drop_drop, (buildImage_parts c).2, h]⟩

theorem buildImage_length : (buildImage c).length = 1024 := by
  rw [buildImage_eq, List.length_append, List.length_append, List.length_append, numberBytes_length, headNumbers_length,
    numberBytes_length, List.length_replicate, List.length_flatMap]
  simp [savedSlotBytes_length, endNumbers, numbersLength]

theorem imageBody_length : (imageBody c).length = 1018 := by
  have h := buildImage_length c
  unfold buildImage at h
  simp only [List.length_append, bytesBE_length, List.length_cons, List.length_nil] at h
  omega

/-- The CRC covers the body (R160). -/
theorem buildImage_body : ((buildImage c).drop 2).take 1018 = imageBody c := by
  have h : buildImage c = [0xC3, 0x3C] ++ (imageBody c ++ (bytesBE 2 (crc16 (imageBody c)).toNat ++ [0x3C, 0xC3])) := by
    unfold buildImage
    simp only [List.append_assoc]
  rw [h, ← imageBody_length c]
  simp

theorem endNumbers_at : NumbersAt (buildImage c) 1020 (endNumbers c) := by
  have h : (buildImage c).drop 1020 = numberBytes (endNumbers c) ++ [] := by
    rw [show 1020 = 944 + (List.replicate 76 (0 : Byte)).length by rw [List.length_replicate], ← List.drop_drop,
      buildImage_end, List.drop_left, List.append_nil]
  exact (NumbersAt.of_drop (by simp [endNumbers, within]) h).1

end

end Sys2Proof.Machine
end

section
/-! PROOFS. The image of a configuration in range is accepted, gives the configuration back and clamps nothing (R156, R160, R164). -/

namespace Sys2Proof.Machine

theorem ImageConfig.eq_of_fields {a b : ImageConfig} (h1 : a.windows = b.windows) (h2 : a.det = b.det)
    (h3 : a.event = b.event) (h4 : a.policy = b.policy) (h5 : a.pmin = b.pmin ∧ a.pmax = b.pmax)
    (h6 : a.lines = b.lines ∧ a.tacho = b.tacho) (h7 : a.program = b.program)
    (h8 : a.enables = b.enables ∧ a.levels = b.levels)
    (h9 : a.batchEvent = b.batchEvent ∧ a.batchCycle = b.batchCycle ∧ a.clearMode = b.clearMode ∧ a.sources = b.sources
      ∧ a.stopMode = b.stopMode ∧ a.stopK = b.stopK ∧ a.initialType = b.initialType) (h10 : a.profiles = b.profiles) :
    a = b := by
  cases a
  cases b
  simp_all

theorem clampTo_of_within {lo hi v : Nat} (h : within lo hi v) : clampTo lo hi v = v := by
  obtain ⟨h1, h2⟩ := h
  unfold clampTo
  omega

section
variable {c : ImageConfig}

theorem settingNumbers_at (c : ImageConfig) : NumbersAt (buildImage c) 0 (settingNumbers c) :=
  (buildImage_parts c).1.append.1

/-- The line bytes and what stands behind them. -/
theorem lineNumbers_at (c : ImageConfig) :
    NumbersAt (buildImage c) 57 (c.lines.toList.map fun l => (1, (pressLineByte l).toNat))
      ∧ NumbersAt (buildImage c) 62 [(1, (tachoLineByte c).toNat), (1, c.program.length)]
      ∧ NumbersAt (buildImage c) 64 ((List.range 12).map fun i => (4, (savedStepWord c i).toNat))
      ∧ NumbersAt (buildImage c) 112 ((List.range 16).map fun i => (1, (factorByte c.enables c.levels i).toNat))
      ∧ NumbersAt (buildImage c) 128 (lastNumbers c) := by
  have h0 := (buildImage_parts c).1.append.2
  have e0 : 0 + numbersLength (settingNumbers c) = 57 := by simp [settingNumbers, numbersLength]
  rw [e0] at h0
  obtain ⟨h1, h1'⟩ := h0.append
  have e1 : 57 + numbersLength (c.lines.toList.map fun l => (1, (pressLineByte l).toNat)) = 62 := by
    simp [numbersLength, Function.comp_def]
  rw [e1] at h1'
  obtain ⟨h2, h2'⟩ := h1'.append
  obtain ⟨h3, h3'⟩ := h2'.append
  obtain ⟨h4, h5⟩ := h3'.append
  have e3 : 64 + numbersLength ((List.range 12).map fun i => (4, (savedStepWord c i).toNat)) = 112 := by
    simp [numbersLength, Function.comp_def]
  have e4 : 112 + numbersLength ((List.range 16).map fun i => (1, (factorByte c.enables c.levels i).toNat)) = 128 := by
    simp [numbersLength, Function.comp_def]
  have e2 : 62 + numbersLength [(1, (tachoLineByte c).toNat), (1, c.program.length)] = 64 := rfl
  rw [e2] at h3 h3' h4 h5
  rw [e3] at h4 h5
  rw [e4] at h5
  exact ⟨h1, h2, h3, h4, h5⟩

theorem windowsOk_lt {t : WindowTable} (h : windowsOk t = true) : t.bs < 2 ^ 24 ∧ t.be < 2 ^ 24 ∧ t.bc < 2 ^ 24
    ∧ t.bt < 2 ^ 24 ∧ t.br < 2 ^ 24 ∧ t.r ≤ 512 := by
  obtain ⟨⟨hr1, hr2⟩, -, hsize, -⟩ := windowsOk_iff.mp h
  simp [windowExtents] at hsize
  omega

theorem windows_bytes (h : windowsOk c.windows = true) :
    imageWord24 (buildImage c) 2 = c.windows.bs ∧ imageWord24 (buildImage c) 5 = c.windows.be
      ∧ imageWord24 (buildImage c) 8 = c.windows.bc ∧ imageWord24 (buildImage c) 11 = c.windows.bt
      ∧ imageWord24 (buildImage c) 14 = c.windows.br ∧ imageWord16 (buildImage c) 17 = c.windows.r := by
  have hs := settingNumbers_at c
  have hlt := windowsOk_lt h
  simp [settingNumbers, NumbersAt, imageNumber] at hs
  obtain ⟨-, -, h2, h5, h8, h11, h14, h17, -⟩ := hs
  omega

theorem detector_bytes (h : c.det.InRange) :
    imageByte (buildImage c) 19 = c.det.kEnv ∧ imageByte (buildImage c) 20 = c.det.kUp
      ∧ imageByte (buildImage c) 21 = c.det.f ∧ imageByte (buildImage c) 22 = c.det.code
      ∧ imageWord16 (buildImage c) 23 = c.det.hdt ∧ imageWord16 (buildImage c) 25 = c.det.lockout
      ∧ imageWord16 (buildImage c) 27 = c.det.dMax := by
  have hs := settingNumbers_at c
  simp [settingNumbers, NumbersAt, imageNumber] at hs
  obtain ⟨-, -, -, -, -, -, -, -, h19, h20, h21, h22, h23, h25, h27, -⟩ := hs
  unfold DetSettings.InRange within at h
  omega

theorem event_bytes (h : c.event.InRange) :
    imageWord16 (buildImage c) 29 = c.event.w ∧ imageByte (buildImage c) 31 = c.event.wCap
      ∧ imageByte (buildImage c) 32 = flag c.event.suspect ∧ imageByte (buildImage c) 33 = c.event.pre
      ∧ imageByte (buildImage c) 34 = c.event.post ∧ imageByte (buildImage c) 35 = c.event.gA
      ∧ imageByte (buildImage c) 36 = c.event.gB ∧ imageByte (buildImage c) 37 = c.event.gC
      ∧ imageByte (buildImage c) 38 = c.event.slope ∧ imageByte (buildImage c) 39 = c.event.octFloor := by
  have hs := settingNumbers_at c
  have hf := flag_lt c.event.suspect
  simp [settingNumbers, NumbersAt, imageNumber] at hs
  obtain ⟨-, -, -, -, -, -, -, -, -, -, -, -, -, -, -, h29, h31, h32, h33, h34, h35, h36, h37, h38, h39, -⟩ := hs
  unfold EventSettings.InRange within at h
  omega

theorem policy_bytes (h : c.policy.InRange) :
    imageWord16 (buildImage c) 40 = c.policy.tWatch ∧ imageWord16 (buildImage c) 42 = c.policy.tSuspect
      ∧ imageWord16 (buildImage c) 44 = c.policy.tCrack ∧ imageWord16 (buildImage c) 46 = c.policy.h
      ∧ imageByte (buildImage c) 48 = c.policy.n ∧ imageByte (buildImage c) 49 = c.policy.d
      ∧ imageByte (buildImage c) 50 = c.policy.b ∧ imageByte (buildImage c) 51 = c.policy.blindLimit
      ∧ imageByte (buildImage c) 52 = flag c.policy.offBlind := by
  have hs := settingNumbers_at c
  have hf := flag_lt c.policy.offBlind
  simp [settingNumbers, NumbersAt, imageNumber] at hs
  obtain ⟨-, -, -, -, -, -, -, -, -, -, -, -, -, -, -, -, -, -, -, -, -, -, -, -, -, h40, h42, h44, h46, h48, h49, h50, h51,
    h52, -⟩ := hs
  unfold Policy.InRange within at h
  omega

theorem band_bytes (h : bandInRange c.pmin c.pmax) :
    imageWord16 (buildImage c) 53 = c.pmin ∧ imageWord16 (buildImage c) 55 = c.pmax := by
  have hs := settingNumbers_at c
  simp [settingNumbers, NumbersAt, imageNumber] at hs
  obtain ⟨-, -, -, -, -, -, -, -, -, -, -, -, -, -, -, -, -, -, -, -, -, -, -, -, -, -, -, -, -, -, -, -, -, -, h53, h55⟩ := hs
  unfold bandInRange at h
  omega

theorem last_bytes (h1 : within 1 255 c.batchEvent) (h2 : within 1 255 c.batchCycle) (h3 : c.stopK ≤ 15)
    (h4 : c.initialType ≤ 255) :
    imageByte (buildImage c) 128 = c.batchEvent ∧ imageByte (buildImage c) 129 = c.batchCycle
      ∧ imageByte (buildImage c) 130 = clearModeCode c.clearMode ∧ imageWord16 (buildImage c) 131 = c.sources.toNat
      ∧ imageByte (buildImage c) 133 = stopModeCode c.stopMode ∧ imageByte (buildImage c) 134 = c.stopK
      ∧ imageByte (buildImage c) 135 = c.initialType := by
  obtain ⟨-, -, -, -, hl⟩ := lineNumbers_at c
  simp [lastNumbers, NumbersAt, imageNumber] at hl
  obtain ⟨h128, h129, h130, h131, h133, h134, h135⟩ := hl
  have hclear : clearModeCode c.clearMode < 2 := by cases c.clearMode <;> decide
  have hstop : stopModeCode c.stopMode < 2 := by cases c.stopMode <;> decide
  have hsrc := c.sources.isLt
  unfold within at h1 h2
  omega

/-! ## Lines, factors and steps -/

theorem imageByte_line (c : ImageConfig) (i : Fin 5) :
    imageByte (buildImage c) (57 + i) = (pressLineByte c.lines[i]).toNat := by
  have h := (lineNumbers_at c).1.map i (by simp)
  have hb := (pressLineByte c.lines[i.val]).isLt
  simpa [imageNumber, Nat.mod_eq_of_lt hb] using h

theorem imageByte_tacho (c : ImageConfig) : imageByte (buildImage c) 62 = (tachoLineByte c).toNat := by
  have h := (lineNumbers_at c).2.1.1
  have hb := (tachoLineByte c).isLt
  simpa [imageNumber, Nat.mod_eq_of_lt hb] using h

theorem imageByte_count (h : programInRange c.program) : imageByte (buildImage c) 63 = c.program.length := by
  have hn := (lineNumbers_at c).2.1.2.1
  have : imageByte (buildImage c) 63 = c.program.length % 256 ^ 1 := hn
  rw [this, Nat.mod_eq_of_lt]
  exact Nat.lt_of_le_of_lt h.1.2 (by decide)

theorem imageByte_factor (c : ImageConfig) (i : Fin 16) :
    imageByte (buildImage c) (112 + i) = (factorByte c.enables c.levels i).toNat := by
  have h := (lineNumbers_at c).2.2.2.1.map i (by simp)
  have hb := (factorByte c.enables c.levels i).isLt
  simpa [imageNumber, Nat.mod_eq_of_lt hb] using h

theorem imageWord32_step (c : ImageConfig) (i : Nat) (hi : i < 12) :
    imageWord32 (buildImage c) (64 + 4 * i) = savedStepWord c i := by
  have h := (lineNumbers_at c).2.2.1.map i (by simpa using hi)
  have hw := (savedStepWord c i).isLt
  rw [List.getElem_range, Nat.mod_eq_of_lt (by exact hw)] at h
  unfold imageWord32
  rw [show imageWord16 (buildImage c) (64 + 4 * i) * 65536 + imageWord16 (buildImage c) (64 + 4 * i + 2)
    = (savedStepWord c i).toNat from h, BitVec.ofNat_toNat, BitVec.setWidth_eq]

theorem lineByte_toNat {f : Nat} (hf : within 1 8 f) (p : Polarity) {m : Nat} (hm : m ≤ 2) :
    (lineByte f p m).toNat = f + 16 * polarityCode p + 32 * m := by
  have hp : polarityCode p ≤ 1 := by cases p <;> decide
  obtain ⟨-, hf⟩ := hf
  unfold lineByte
  rw [BitVec.toNat_ofNat, Nat.mod_eq_of_lt (by omega)]

theorem lineBytePolarity_eq {f : Nat} (hf : within 1 8 f) (p : Polarity) (m : Nat) :
    lineBytePolarity (f + 16 * polarityCode p + 32 * m) = p := by
  obtain ⟨hlo, hf⟩ := hf
  unfold lineBytePolarity
  rw [Nat.testBit_eq_decide_div_mod_eq]
  cases p
  · have : (f + 16 * polarityCode .normal + 32 * m) / 2 ^ 4 % 2 = 0 := by
      show (f + 16 * 0 + 32 * m) / 2 ^ 4 % 2 = 0
      omega
    rw [this]; rfl
  · have : (f + 16 * polarityCode .inverted + 32 * m) / 2 ^ 4 % 2 = 1 := by
      show (f + 16 * 1 + 32 * m) / 2 ^ 4 % 2 = 1
      omega
    rw [this]; rfl

theorem lineByteMode_eq {f : Nat} (hf : within 1 8 f) (p : Polarity) {m : Nat} (hm : m ≤ 2) :
    lineByteMode (f + 16 * polarityCode p + 32 * m) = edgeModeOf m ∧ (f + 16 * polarityCode p + 32 * m) % 16 = f := by
  have hp : polarityCode p ≤ 1 := by cases p <;> decide
  obtain ⟨-, hf⟩ := hf
  unfold lineByteMode
  rw [show (f + 16 * polarityCode p + 32 * m) / 32 % 4 = m by omega]
  exact ⟨rfl, by omega⟩

theorem edgeModeOf_code (m : EdgeMode) : edgeModeOf (edgeModeCode m) = some m := by cases m <;> rfl

theorem measuring_code (m : MeasEdge) : (edgeModeOf (measEdgeCode m)).bind EdgeMode.measuring? = some m := by cases m <;> rfl

/-- A line byte gives its settings back. -/
theorem pressLineByte_reads {l : LineSettings} (h : within 1 8 l.filter) :
    lineOfByte (pressLineByte l).toNat = l ∧ (pressLineByte l).toNat % 16 = l.filter
      ∧ (lineByteMode (pressLineByte l).toNat).isNone = false := by
  have hm : edgeModeCode l.mode ≤ 2 := by cases l.mode <;> decide
  have hn : (pressLineByte l).toNat = _ := lineByte_toNat h l.polarity hm
  obtain ⟨hmode, hfilter⟩ := lineByteMode_eq h l.polarity hm
  unfold lineOfByte
  rw [hn, lineBytePolarity_eq h, hmode, hfilter, edgeModeOf_code, clampTo_of_within h]
  exact ⟨rfl, rfl, rfl⟩

theorem tachoLineByte_reads (h : within 1 8 c.tacho.filter) :
    tachoOfByte (tachoLineByte c).toNat = c.tacho ∧ (tachoLineByte c).toNat % 16 = c.tacho.filter
      ∧ ((lineByteMode (tachoLineByte c).toNat).bind EdgeMode.measuring?).isNone = false := by
  have hm : measEdgeCode c.tacho.edge ≤ 2 := by cases c.tacho.edge <;> decide
  have hn : (tachoLineByte c).toNat = _ := lineByte_toNat h c.tacho.polarity hm
  obtain ⟨hmode, hfilter⟩ := lineByteMode_eq h c.tacho.polarity hm
  unfold tachoOfByte
  rw [hn, lineBytePolarity_eq h, hmode, hfilter, measuring_code, clampTo_of_within h]
  exact ⟨rfl, rfl, rfl⟩

theorem factorByte_toNat {enables : Half} {levels : Vector Nat 16} (h : ∀ v ∈ levels.toList, v ≤ 7) (i : Fin 16) :
    (factorByte enables levels i).toNat = 128 * flag (enables.getLsbD i) + levels[i] := by
  have hl : levels[i] ≤ 7 := h _ (by simp)
  have hf := flag_lt (enables.getLsbD i)
  have hv : vget levels i 0 = levels[i] := by simp [vget]
  unfold factorByte
  rw [BitVec.toNat_ofNat, hv, Nat.mod_eq_of_lt (by omega)]

theorem factors_build (h : ∀ v ∈ c.levels.toList, v ≤ 7) :
    imageEnables (buildImage c) = c.enables ∧ ∀ i : Fin 16, imageByte (buildImage c) (112 + i) % 8 = c.levels[i] := by
  have hb (i : Fin 16) : imageByte (buildImage c) (112 + i) = 128 * flag (c.enables.getLsbD i) + c.levels[i] := by
    rw [imageByte_factor, factorByte_toNat h]
  have hl (i : Fin 16) : c.levels[i] ≤ 7 := h _ (by simp)
  refine ⟨BitVec.eq_of_getLsbD_eq fun i hi => ?_, fun i => ?_⟩
  · have he := imageEnables_getLsbD (buildImage c) ⟨i, hi⟩
    have hbi := hb ⟨i, hi⟩
    have hli := hl ⟨i, hi⟩
    rw [hbi, Nat.testBit_eq_decide_div_mod_eq] at he
    have hdiv : (128 * flag (c.enables.getLsbD i) + c.levels[(⟨i, hi⟩ : Fin 16)]) / 2 ^ 7 % 2 = flag (c.enables.getLsbD i) := by
      have hf := flag_lt (c.enables.getLsbD i)
      omega
    refine he.trans ?_
    dsimp only at hdiv ⊢
    rw [hdiv]
    cases c.enables.getLsbD i <;> rfl
  · have := hb i
    have := hl i
    omega

theorem stepsOfWords_map {gs : List GateStep} (h : ∀ g ∈ gs, g.InRange) : stepsOfWords (gs.map wordOfStep) = some gs := by
  induction gs with
  | nil => rfl
  | cons g gs ih =>
    rw [List.map_cons]
    unfold stepsOfWords
    rw [stepOfWord_wordOfStep (h g List.mem_cons_self), ih fun x hx => h x (List.mem_cons_of_mem _ hx)]

/-- The step words give the program back (R43, R156). -/
theorem program_build (h : programInRange c.program) : stepsOfWords (imageStepWords (buildImage c)) = some c.program := by
  have hw : imageStepWords (buildImage c) = c.program.map wordOfStep := by
    unfold imageStepWords
    rw [imageByte_count h]
    refine List.ext_getElem (by simp) fun i h1 h2 => ?_
    have hi : i < c.program.length := by simpa using h1
    have h12 := h.1.2
    rw [List.getElem_map, List.getElem_range, List.getElem_map, imageWord32_step c i (by omega), savedStepWord,
      List.getElem?_eq_getElem hi]
    rfl
  rw [hw]
  exact stepsOfWords_map h.2

/-! ## Profiles -/

theorem numbersLength_map {α : Type} (n : Nat) (g : α → Nat) (l : List α) :
    numbersLength (l.map fun x => (n, g x)) = l.length * n := by
  simp [numbersLength, Function.comp_def]

/-- The bytes of a stored profile (section 11.6). -/
theorem profile_bytes {p : Nat} {x : Profile} (hp : p < 4) (hx : c.profiles[p]? = some x) (h : x.InRange) :
    imageByte (buildImage c) (profileBase p) = x.type ∧ imageByte (buildImage c) (profileBase p + 1) = x.zoneCount
      ∧ imageByte (buildImage c) (profileBase p + 2) = x.q
      ∧ (∀ i : Fin 196, imageByte (buildImage c) (profileBase p + 3 + i) = (x.table[i]).toNat)
      ∧ imageWord24 (buildImage c) (profileBase p + 199) = x.mask.toNat := by
  obtain ⟨rest, hd⟩ := buildImage_slot c p hp
  rw [savedSlotBytes, hx, Option.map_some, Option.getD_some, profileBytes_eq] at hd
  have hn := (NumbersAt.of_drop (by
    simp only [List.forall_mem_append, List.forall_mem_map]
    exact ⟨by simp [within], fun _ _ => ⟨by decide, by decide⟩, by simp [within]⟩) hd).1
  obtain ⟨h1, h2⟩ := hn.append
  obtain ⟨htab, hmask⟩ := h2.append
  have e1 : 136 + 202 * p + numbersLength [(1, x.type), (1, x.zoneCount), (1, x.q)] = profileBase p + 3 := rfl
  have e2 : numbersLength (x.table.toList.map fun b => (1, b.toNat)) = 196 := by
    rw [numbersLength_map, Vector.length_toList]
  rw [e1] at htab hmask
  rw [e2] at hmask
  obtain ⟨hb0, hb1, hb2, -⟩ := h1
  obtain ⟨ht, hz, hq, -, hm⟩ := h
  have hb0' : imageByte (buildImage c) (profileBase p) = x.type % 256 := hb0
  have hb1' : imageByte (buildImage c) (profileBase p + 1) = x.zoneCount % 256 := hb1
  have hb2' : imageByte (buildImage c) (profileBase p + 2) = x.q % 256 := hb2
  unfold within at ht hz
  refine ⟨by omega, by omega, by omega, fun i => ?_, ?_⟩
  · have := htab.map i (by simp)
    have hlt := (x.table[i.val]).isLt
    simpa [imageNumber, Nat.mod_eq_of_lt hlt] using this
  · have hm' : imageWord24 (buildImage c) (profileBase p + 3 + 196) = x.mask.toNat % 256 ^ 3 := hmask.1
    rw [show profileBase p + 199 = profileBase p + 3 + 196 by omega, hm', Nat.mod_eq_of_lt]
    exact x.mask.isLt

/-- Every byte of a slot with no stored profile is 0. -/
theorem emptySlot_bytes {p k : Nat} (hp : p < 4) (hx : c.profiles.length ≤ p) (hk : k < 202) :
    (buildImage c)[136 + 202 * p + k]? = some 0 := by
  obtain ⟨rest, hd⟩ := buildImage_slot c p hp
  rw [savedSlotBytes, List.getElem?_eq_none hx, Option.map_none, Option.getD_none] at hd
  rw [← List.getElem?_drop, hd, List.getElem?_append_left (by unfold emptySlotBytes; rw [List.length_replicate]; exact hk)]
  exact List.getElem?_replicate_of_lt hk

theorem emptySlot_type {p : Nat} (hp : p < 4) (hx : c.profiles.length ≤ p) :
    imageByte (buildImage c) (profileBase p) = 0 ∧ imageByte (buildImage c) (profileBase p + 2) = 0 := by
  have h0 := emptySlot_bytes hp hx (k := 0) (by decide)
  have h2 := emptySlot_bytes hp hx (k := 2) (by decide)
  unfold imageByte profileBase
  rw [Nat.add_zero] at h0
  rw [h0, h2]
  exact ⟨rfl, rfl⟩

theorem trimMask_of_lt {m : BitVec 24} {n : Nat} (h : m.toNat < 2 ^ n) : trimMask m.toNat n = m := by
  unfold trimMask
  rw [Nat.mod_eq_of_lt h, BitVec.ofNat_toNat, BitVec.setWidth_eq]

theorem tableOf_of_bytes {v : Vector Byte 196} {f : Nat → Nat} (h : ∀ i : Fin 196, f i = (v[i]).toNat) :
    (tableOf fun i => BitVec.ofNat 8 (f i)) = v := by
  refine Vector.ext fun i hi => ?_
  have := h ⟨i, hi⟩
  simp only [Fin.getElem_fin] at this
  simp [tableOf, this]

theorem profileOf_build {p : Nat} {x : Profile} (hp : p < 4) (hx : c.profiles[p]? = some x) (h : x.InRange) :
    profileOf (buildImage c) p = x := by
  obtain ⟨h0, h1, h2, ht, hm⟩ := profile_bytes hp hx h
  unfold profileOf
  dsimp only
  rw [h0, h1, h2, hm, trimMask_of_lt h.2.2.2.2, tableOf_of_bytes ht, clampTo_of_within ⟨Nat.zero_le _, h.2.2.1⟩]

theorem profileStored_build (h : profilesInRange c.profiles) {p : Nat} (hp : p < 4) :
    profileStored (buildImage c) p = decide (p < c.profiles.length) := by
  obtain ⟨-, hin, hnodup⟩ := h
  rw [Bool.eq_iff_iff, profileStored_iff, decide_eq_true_iff]
  by_cases hlt : p < c.profiles.length
  · refine iff_of_true ⟨?_, fun j hj => ?_⟩ hlt
    · obtain ⟨h0, h1, -, ht, -⟩ := profile_bytes hp (List.getElem?_eq_getElem hlt) (hin _ (List.getElem_mem hlt))
      obtain ⟨htype, hzones, -, htable, -⟩ := hin _ (List.getElem_mem hlt)
      unfold profileValuesOk
      simp only [h0, h1, Bool.and_eq_true, bne_iff_ne, Bool.not_eq_true', outside_eq_false, List.all_eq_true, List.mem_range]
      refine ⟨⟨Nat.one_le_iff_ne_zero.mp htype.1, hzones⟩, fun i hi => ?_⟩
      have := ht ⟨i, hi⟩
      dsimp only at this
      rw [this]
      exact htable _ (by simp)
    · have hj' : j < c.profiles.length := hj.trans hlt
      have h1 := (profile_bytes hp (List.getElem?_eq_getElem hlt) (hin _ (List.getElem_mem hlt))).1
      have h2 := (profile_bytes (hj.trans hp) (List.getElem?_eq_getElem hj') (hin _ (List.getElem_mem hj'))).1
      rw [h1, h2]
      intro he
      have := hnodup.getElem_inj_iff (hi := by simpa using hj') (hj := by simpa using hlt) |>.mp (by simpa using he)
      omega
  · refine iff_of_false (fun hst => ?_) hlt
    have h0 := (emptySlot_type hp (Nat.le_of_not_lt hlt)).1
    have hv := hst.1
    unfold profileValuesOk at hv
    simp [h0] at hv

theorem filter_range_lt {n : Nat} (h : n ≤ 4) : (List.range 4).filter (fun p => decide (p < n)) = List.range n := by
  have : n < 5 := Nat.lt_succ_of_le h
  revert n
  decide

theorem storedSlots_build (h : profilesInRange c.profiles) : storedSlots (buildImage c) = List.range c.profiles.length := by
  rw [← filter_range_lt h.1.2]
  exact List.filter_congr fun p hp => profileStored_build h (List.mem_range.mp hp)

theorem profiles_build (h : profilesInRange c.profiles) : imageProfiles (buildImage c) = c.profiles := by
  have hs := storedSlots_build h
  obtain ⟨⟨hpos, h4⟩, hin, -⟩ := h
  unfold imageProfiles
  split
  · next he =>
    rw [hs] at he
    have := congrArg List.length he
    rw [List.length_range, List.length_nil] at this
    omega
  · rw [hs]
    refine List.ext_getElem (by simp) fun i h1 h2 => ?_
    rw [List.getElem_map, List.getElem_range]
    exact profileOf_build (by omega) (List.getElem?_eq_getElem h2) (hin _ (List.getElem_mem h2))

/-! ## The whole image -/

theorem switchOf_flag (b : Bool) : switchOf (flag b) = some b := by cases b <;> rfl

theorem clearModeOf_code (m : ClearMode) : clearModeOf (clearModeCode m) = some m := by cases m <;> rfl

theorem stopModeOf_code (m : StopMode) : stopModeOf (stopModeCode m) = some m := by cases m <;> rfl

theorem detector_build (h : c.det.InRange) : (imageConfig (buildImage c)).det = c.det := by
  obtain ⟨d1, d2, d3, d4, d5, d6, d7⟩ := detector_bytes h
  obtain ⟨h1, h2, h3, h4, h5, h6, h7⟩ := h
  unfold imageConfig
  dsimp only
  rw [d1, d2, d3, d4, d5, d6, d7, clampTo_of_within h1, clampTo_of_within h2, clampTo_of_within h3,
    clampTo_of_within ⟨Nat.zero_le _, h4⟩, clampTo_of_within h5, clampTo_of_within ⟨Nat.zero_le _, h6⟩, clampTo_of_within h7]

theorem event_build (h : c.event.InRange) : (imageConfig (buildImage c)).event = c.event := by
  obtain ⟨e1, e2, e3, e4, e5, e6, e7, e8, e9, e10⟩ := event_bytes h
  obtain ⟨h1, h2, h3, h4, h5, h6, h7, h8, h9⟩ := h
  have hz {hi v : Nat} (hv : v ≤ hi) : clampTo 0 hi v = v := clampTo_of_within ⟨Nat.zero_le _, hv⟩
  unfold imageConfig
  dsimp only
  rw [e1, e2, e3, e4, e5, e6, e7, e8, e9, e10, clampTo_of_within h1, switchOf_flag, hz h2, hz h3, hz h4, hz h5, hz h6, hz h7,
    hz h8, hz h9]
  rfl

theorem policy_build (h : c.policy.InRange) : (imageConfig (buildImage c)).policy = c.policy := by
  obtain ⟨z1, z2, z3, z4, z5, z6, z7, z8, z9⟩ := policy_bytes h
  obtain ⟨h1, h2, h3, h4, h5, h6, h7, h8, h9⟩ := h
  have hz {hi v : Nat} (hv : v ≤ hi) : clampTo 0 hi v = v := clampTo_of_within ⟨Nat.zero_le _, hv⟩
  unfold imageConfig
  dsimp only
  rw [z1, z2, z3, z4, z5, z6, z7, z8, z9, clampTo_of_within (v := c.policy.tWatch) ⟨h1, by omega⟩,
    clampTo_of_within (v := c.policy.tSuspect) ⟨by omega, by omega⟩,
    clampTo_of_within (v := c.policy.tCrack) ⟨by omega, h4⟩, hz (v := c.policy.h) (by omega), clampTo_of_within h6, hz h7, hz h8,
    hz h9, switchOf_flag]
  rfl

theorem lines_build (h : ∀ l ∈ c.lines.toList, within 1 8 l.filter) : (imageConfig (buildImage c)).lines = c.lines := by
  refine Vector.ext fun i hi => ?_
  have hb := imageByte_line c ⟨i, hi⟩
  have hl := (pressLineByte_reads (h c.lines[i] (by simp))).1
  simp only [Fin.getElem_fin] at hb
  simp [imageConfig, hb, hl]

theorem levels_build (h : ∀ v ∈ c.levels.toList, v ≤ 7) : (imageConfig (buildImage c)).levels = c.levels := by
  refine Vector.ext fun i hi => ?_
  have := (factors_build h).2 ⟨i, hi⟩
  simpa [imageConfig] using this

theorem windows_build (h : windowsOk c.windows = true) : imageWindows (buildImage c) = c.windows := by
  obtain ⟨w1, w2, w3, w4, w5, w6⟩ := windows_bytes h
  unfold imageWindows
  rw [w1, w2, w3, w4, w5, w6]

theorem band_build (h : bandInRange c.pmin c.pmax) :
    (imageConfig (buildImage c)).pmin = c.pmin ∧ (imageConfig (buildImage c)).pmax = c.pmax := by
  obtain ⟨b1, b2⟩ := band_bytes h
  obtain ⟨hb1, hb2, hb3⟩ := h
  unfold imageConfig
  dsimp only
  rw [b1, b2]
  exact ⟨clampTo_of_within ⟨hb1, hb2.trans hb3⟩, clampTo_of_within ⟨hb1.trans hb2, hb3⟩⟩

theorem tacho_build (h : within 1 8 c.tacho.filter) : (imageConfig (buildImage c)).tacho = c.tacho := by
  have hb := imageByte_tacho c
  unfold imageConfig
  dsimp only
  rw [hb]
  exact (tachoLineByte_reads h).1

theorem last_build (hbe : within 1 255 c.batchEvent) (hbc : within 1 255 c.batchCycle) (hk : c.stopK ≤ 15)
    (hi : c.initialType ≤ 255) :
    (imageConfig (buildImage c)).batchEvent = c.batchEvent ∧ (imageConfig (buildImage c)).batchCycle = c.batchCycle
      ∧ (imageConfig (buildImage c)).clearMode = c.clearMode ∧ (imageConfig (buildImage c)).sources = c.sources
      ∧ (imageConfig (buildImage c)).stopMode = c.stopMode ∧ (imageConfig (buildImage c)).stopK = c.stopK
      ∧ (imageConfig (buildImage c)).initialType = c.initialType := by
  obtain ⟨l1, l2, l3, l4, l5, l6, l7⟩ := last_bytes hbe hbc hk hi
  generalize buildImage c = bs at l1 l2 l3 l4 l5 l6 l7 ⊢
  unfold imageConfig
  dsimp only
  rw [l1, l2, l3, l4, l5, l6, l7, clampTo_of_within hbe, clampTo_of_within hbc, clampTo_of_within ⟨Nat.zero_le _, hk⟩,
    clearModeOf_code, stopModeOf_code, BitVec.ofNat_toNat, BitVec.setWidth_eq]
  exact ⟨rfl, rfl, rfl, rfl, rfl, rfl, rfl⟩

theorem imageProgram_build (h : programInRange c.program) : (imageConfig (buildImage c)).program = c.program := by
  have hp := program_build h
  unfold imageConfig
  dsimp only
  rw [hp]
  rfl

/-- The values read are those saved. -/
theorem imageConfig_build (h : c.InRange) : imageConfig (buildImage c) = c := by
  obtain ⟨hw, hd, he, hz, hb, hl, ht, hp, hv, hbe, hbc, hk, hi, hprof⟩ := h
  have h1 := windows_build hw
  have h2 := detector_build hd
  have h3 := event_build he
  have h4 := policy_build hz
  have h5 := band_build hb
  have h6 := And.intro (lines_build hl) (tacho_build ht)
  have h7 := imageProgram_build hp
  have h8 := And.intro (factors_build hv).1 (levels_build hv)
  have h9 := last_build hbe hbc hk hi
  have h10 := profiles_build hprof
  generalize buildImage c = bs at h1 h2 h3 h4 h5 h6 h7 h8 h9 h10 ⊢
  exact ImageConfig.eq_of_fields h1 h2 h3 h4 h5 h6 h7 h8 h9 h10

theorem markersOk_build (c : ImageConfig) : markersOk (buildImage c) = true := by
  have hs := settingNumbers_at c
  obtain ⟨-, h1022, h1023, -⟩ := endNumbers_at c
  simp [settingNumbers, NumbersAt, imageNumber] at hs
  obtain ⟨h0, h1, -⟩ := hs
  simp [imageNumber] at h1022 h1023
  rw [markersOk_iff]
  exact ⟨h0, h1, h1022, h1023⟩

theorem crcOk_build (c : ImageConfig) : crcOk (buildImage c) = true := by
  have hcrc := (endNumbers_at c).1
  simp only [imageNumber] at hcrc
  rw [crcOk_iff, buildImage_body, imagePair_eq, hcrc, Nat.mod_eq_of_lt]
  exact (crc16 (imageBody c)).isLt

theorem imageOk_build (h : c.InRange) : imageOk (buildImage c) = true := by
  obtain ⟨hw, -, -, hz, hb, -, -, hp, -⟩ := h
  obtain ⟨z1, z2, z3, -⟩ := policy_bytes hz
  obtain ⟨b1, b2⟩ := band_bytes hb
  obtain ⟨p1, p2, p3, p4, -⟩ := hz
  obtain ⟨hb1, hb2, hb3⟩ := hb
  refine (imageOk_iff _).mpr ⟨markersOk_build c, crcOk_build c, ?_, ?_, ?_⟩
  · rw [windows_build hw]
    exact hw
  · rw [orderOk_iff, z1, z2, z3, b1, b2, clampTo_of_within (v := c.policy.tWatch) ⟨p1, by omega⟩,
      clampTo_of_within (v := c.policy.tSuspect) ⟨by omega, by omega⟩,
      clampTo_of_within (v := c.policy.tCrack) ⟨by omega, p4⟩,
      clampTo_of_within (v := c.pmin) ⟨hb1, hb2.trans hb3⟩, clampTo_of_within (v := c.pmax) ⟨hb1.trans hb2, hb3⟩]
    exact ⟨p2, p3, hb2⟩
  · have hprog := program_build hp
    have hcount := imageByte_count hp
    unfold programOk
    rw [hprog, hcount, Bool.and_eq_true, stepCountOk_iff]
    exact ⟨hp.1, rfl⟩

theorem unknownCodes_build (h : c.InRange) : unknownCodes (buildImage c) = false := by
  obtain ⟨-, -, he, hz, -, hl, ht, -, -, hbe, hbc, hk, hi, -⟩ := h
  obtain ⟨-, -, e3, -⟩ := event_bytes he
  obtain ⟨-, -, -, -, -, -, -, -, z9⟩ := policy_bytes hz
  obtain ⟨-, -, l3, -, l5, -⟩ := last_bytes hbe hbc hk hi
  have hline (i : Nat) (hi : i < 5) : (lineByteMode (imageByte (buildImage c) (57 + i))).isNone = false := by
    have hb := imageByte_line c ⟨i, hi⟩
    dsimp only at hb
    rw [hb]
    exact (pressLineByte_reads (hl _ (by simp))).2.2
  have hany : (List.range 5).any (fun i => (lineByteMode (imageByte (buildImage c) (57 + i))).isNone) = false := by
    rw [List.any_eq_false]
    intro i hi
    rw [hline i (List.mem_range.mp hi)]
    decide
  unfold unknownCodes
  dsimp only
  rw [e3, z9, l3, l5, hany, imageByte_tacho, (tachoLineByte_reads ht).2.2, switchOf_flag, switchOf_flag, clearModeOf_code,
    stopModeOf_code]
  rfl

theorem q_build (h : profilesInRange c.profiles) (p : Nat) (hp : p < 4) :
    outside 0 7 (imageByte (buildImage c) (profileBase p + 2)) = false := by
  rw [outside_eq_false]
  by_cases hlt : p < c.profiles.length
  · have hx := h.2.1 _ (List.getElem_mem hlt)
    rw [(profile_bytes hp (List.getElem?_eq_getElem hlt) hx).2.2.1]
    exact ⟨Nat.zero_le _, hx.2.2.1⟩
  · rw [(emptySlot_type hp (Nat.le_of_not_lt hlt)).2]
    exact ⟨Nat.zero_le _, Nat.zero_le _⟩

theorem numericFields_build (h : c.InRange) :
    ∀ f ∈ numericFields (buildImage c), within f.1 f.2.1 f.2.2 := by
  obtain ⟨-, hd, he, hz, hb, hl, ht, -, -, hbe, hbc, hk, hi, -⟩ := h
  obtain ⟨d1, d2, d3, d4, d5, d6, d7⟩ := detector_bytes hd
  obtain ⟨e1, e2, -, e4, e5, e6, e7, e8, e9, e10⟩ := event_bytes he
  obtain ⟨z1, z2, z3, z4, z5, z6, z7, z8, -⟩ := policy_bytes hz
  obtain ⟨b1, b2⟩ := band_bytes hb
  obtain ⟨l1, l2, -, -, -, l6, -⟩ := last_bytes hbe hbc hk hi
  have hfilter (i : Nat) (hi : i < 6) : within 1 8 (imageByte (buildImage c) (57 + i) % 16) := by
    by_cases h5 : i < 5
    · have hb := imageByte_line c ⟨i, h5⟩
      have hr := hl c.lines[i] (by simp)
      dsimp only at hb
      rw [hb]
      have := (pressLineByte_reads hr).2.1
      dsimp only [Fin.getElem_fin]
      rw [this]
      exact hr
    · obtain rfl : i = 5 := by omega
      rw [imageByte_tacho, (tachoLineByte_reads ht).2.1]
      exact ht
  unfold DetSettings.InRange within at hd
  unfold EventSettings.InRange within at he
  unfold Policy.InRange within at hz
  unfold bandInRange at hb
  unfold within at hbe hbc
  have hh : clampTo 1 1023 c.policy.tWatch = c.policy.tWatch := clampTo_of_within ⟨hz.1, by omega⟩
  generalize buildImage c = bs at *
  unfold numericFields
  dsimp only
  rw [List.forall_mem_append]
  refine ⟨?_, fun f hf => ?_⟩
  · simp only [List.forall_mem_cons, d1, d2, d3, d4, d5, d6, d7, e1, e2, e4, e5, e6, e7, e8, e9, e10, z1, z2, z3, z4, z5, z6,
      z7, z8, b1, b2, l1, l2, l6, hh, within]
    refine ⟨?_, ?_, ?_, ?_, ?_, ?_, ?_, ?_, ?_, ?_, ?_, ?_, ?_, ?_, ?_, ?_, ?_, ?_, ?_, ?_, ?_, ?_, ?_, ?_, ?_, ?_, ?_, ?_, ?_,
      fun _ hx => nomatch hx⟩ <;> omega
  · obtain ⟨i, hi, rfl⟩ := List.mem_map.mp hf
    exact hfilter i (List.mem_range.mp hi)

theorem imageClamped_build (h : c.InRange) : imageClamped (buildImage c) = false := by
  unfold imageClamped
  rw [unknownCodes_build h, Bool.or_false, Bool.or_eq_false_iff, List.any_eq_false, List.any_eq_false]
  refine ⟨fun f hf => ?_, fun p hp => ?_⟩
  · rw [outside_eq_false.mpr (numericFields_build h f hf)]; decide
  · rw [q_build h.2.2.2.2.2.2.2.2.2.2.2.2.2 p (List.mem_range.mp hp)]; decide

/-- A number of 0 on four bytes has four bytes of 0. -/
theorem imageByte_zero_of_word32 {bs : List Byte} {i : Nat} (h : imageWord32 bs i = 0) {k : Nat} (hk : k < 4) :
    imageByte bs (i + k) = 0 := by
  have h0 := imageByte_lt bs i
  have h1 := imageByte_lt bs (i + 1)
  have h2 := imageByte_lt bs (i + 2)
  have h3 := imageByte_lt bs (i + 3)
  have hn := congrArg BitVec.toNat h
  unfold imageWord32 imageWord16 at hn
  rw [BitVec.toNat_ofNat, Nat.mod_eq_of_lt (by rw [show i + 2 + 1 = i + 3 from rfl]; omega)] at hn
  rw [show i + 2 + 1 = i + 3 from rfl] at hn
  have hn' : (imageByte bs i * 256 + imageByte bs (i + 1)) * 65536 + (imageByte bs (i + 2) * 256 + imageByte bs (i + 3)) = 0 := hn
  have hcases : k = 0 ∨ k = 1 ∨ k = 2 ∨ k = 3 := by omega
  obtain rfl | rfl | rfl | rfl := hcases
  · rw [Nat.add_zero]; omega
  · omega
  · omega
  · omega

theorem getElem?_of_imageByte_zero {bs : List Byte} {i : Nat} (h : imageByte bs i = 0) : bs[i]? = some 0 := by
  unfold imageByte at h
  cases hb : bs[i]? with
  | none => rw [hb] at h; simp at h
  | some b => rw [hb] at h; exact congrArg some (BitVec.eq_of_toNat_eq h)

/-- The step words beyond the step count are 0 (R156). -/
theorem unusedStep_bytes {n k : Nat} (hn : c.program.length ≤ n) (h12 : n < 12) (hk : k < 4) :
    (buildImage c)[64 + 4 * n + k]? = some 0 := by
  have hw := imageWord32_step c n h12
  rw [savedStepWord, List.getElem?_eq_none hn] at hw
  exact getElem?_of_imageByte_zero (imageByte_zero_of_word32 hw hk)

/-- Bytes 944 to 1019 belong to no field (R164). -/
theorem unusedBytes {i : Nat} (h1 : 944 ≤ i) (h2 : i ≤ 1019) : (buildImage c)[i]? = some 0 := by
  have hlen : i - 944 < (List.replicate 76 (0 : Byte)).length := by rw [List.length_replicate]; omega
  rw [show i = 944 + (i - 944) by omega, ← List.getElem?_drop, buildImage_end, List.getElem?_append_left hlen]
  exact List.getElem?_replicate_of_lt (by omega)

end

/-- Settles O13. -/
theorem savedImageReadsBack : Obligations.SavedImageReadsBack := by
  refine ⟨fun c status h hs => ?_, fun c _ => ⟨buildImage_length c, fun i => unusedBytes, fun n k => unusedStep_bytes,
    fun p k hp hlt hk => emptySlot_bytes hlt hp hk⟩⟩
  have hs' : (status == 0xFF) = false := by simpa using hs
  unfold judgeRead
  rw [hs', imageOk_build h, imageConfig_build h, imageClamped_build h]
  rfl

end Sys2Proof.Machine
end

section
/-! PROOFS. The treatment of a bus-side access by the window it falls in (R4 to R7, R11). -/

namespace Sys2Proof.Machine

theorem inExtent_iff {a base size : Nat} : inExtent a base size = true ↔ base ≤ a ∧ a < base + size := by
  simp [inExtent]

theorem inExtent_eq_false {a base size : Nat} (h : a < base ∨ base + size ≤ a) : inExtent a base size = false := by
  rw [Bool.eq_false_iff, Ne, inExtent_iff]
  omega

theorem vget_fin {α : Type} {n : Nat} (v : Vector α n) (i : Fin n) (d : α) : vget v i d = v[i] := by simp [vget]

/-- The windows of a table that is in order share no address. -/
structure WindowTable.Apart (t : WindowTable) : Prop where
  sampleEvidence : t.bs + 24576 ≤ t.be ∨ t.be + 24576 ≤ t.bs
  sampleCommand : t.bs + 24576 ≤ t.bc ∨ t.bc + 512 ≤ t.bs
  sampleStatus : t.bs + 24576 ≤ t.bt ∨ t.bt + 256 ≤ t.bs
  sampleRing : t.bs + 24576 ≤ t.br ∨ t.br + t.r * 128 ≤ t.bs
  evidenceCommand : t.be + 24576 ≤ t.bc ∨ t.bc + 512 ≤ t.be
  evidenceStatus : t.be + 24576 ≤ t.bt ∨ t.bt + 256 ≤ t.be
  evidenceRing : t.be + 24576 ≤ t.br ∨ t.br + t.r * 128 ≤ t.be
  commandStatus : t.bc + 512 ≤ t.bt ∨ t.bt + 256 ≤ t.bc
  commandRing : t.bc + 512 ≤ t.br ∨ t.br + t.r * 128 ≤ t.bc
  statusRing : t.bt + 256 ≤ t.br ∨ t.br + t.r * 128 ≤ t.bt

theorem apart_of_windowsOk {t : WindowTable} (h : windowsOk t = true) : t.Apart := by
  obtain ⟨-, -, -, hpair⟩ := windowsOk_iff.1 h
  simp only [windowExtents, List.pairwise_cons, List.mem_cons, List.not_mem_nil, or_false, forall_eq_or_imp, forall_eq] at hpair
  obtain ⟨⟨h1, h2, h3, h4⟩, ⟨h5, h6, h7⟩, ⟨h8, h9⟩, h10, -⟩ := hpair
  exact ⟨h1, h2, h3, h4, h5, h6, h7, h8, h9, h10⟩

section
variable {t : WindowTable} {u : CaptureUnit} {a : Nat} {write : Bool}

theorem treatment_of_sample (h : t.bs ≤ a) (h' : a < t.bs + 16384) :
    treatment t u a write = sampleAccess t u (a - t.bs) := by
  rw [treatment, if_pos (inExtent_iff.2 ⟨h, h'⟩)]

theorem treatment_of_spare (h : t.bs + 16384 ≤ a) (h' : a < t.bs + 24576) :
    treatment t u a write = if write then .swallowed else .answered := by
  rw [treatment, if_neg (by simp [inExtent_eq_false (.inr h)]), if_pos (inExtent_iff.2 (by omega))]

theorem treatment_outside_sample (h : a < t.bs ∨ t.bs + 24576 ≤ a) :
    treatment t u a write =
      if inExtent a t.be 24576 then (if write then .swallowed else evidenceRead t u (a - t.be))
      else if inExtent a t.bc 512 then .toMemory a (commandPlace (a - t.bc)) true
      else if inExtent a t.bt 248 then (if write then .swallowed else .toMemory a .other false)
      else if inExtent a (t.bt + 248) 4 then .toMemory a .noticeWord true
      else if inExtent a (t.bt + 252) 4 then .toMemory a .consumerWord true
      else if inExtent a t.br (t.r * 128) then (if write then .swallowed else .toMemory a .other false)
      else .toMemory a .other false := by
  rw [treatment, if_neg (by simp [inExtent_eq_false (a := a) (base := t.bs) (size := 16384) (by omega)]),
    if_neg (by simp [inExtent_eq_false (a := a) (base := t.bs + 16384) (size := 8192) (by omega)])]

theorem treatment_outside_command (hs : a < t.bs ∨ t.bs + 24576 ≤ a) (he : a < t.be ∨ t.be + 24576 ≤ a)
    (hc : a < t.bc ∨ t.bc + 512 ≤ a) :
    treatment t u a write =
      if inExtent a t.bt 248 then (if write then .swallowed else .toMemory a .other false)
      else if inExtent a (t.bt + 248) 4 then .toMemory a .noticeWord true
      else if inExtent a (t.bt + 252) 4 then .toMemory a .consumerWord true
      else if inExtent a t.br (t.r * 128) then (if write then .swallowed else .toMemory a .other false)
      else .toMemory a .other false := by
  rw [treatment_outside_sample hs, inExtent_eq_false he, inExtent_eq_false hc]
  simp

theorem treatment_outside_status (hs : a < t.bs ∨ t.bs + 24576 ≤ a) (he : a < t.be ∨ t.be + 24576 ≤ a)
    (hc : a < t.bc ∨ t.bc + 512 ≤ a) (ht : a < t.bt ∨ t.bt + 256 ≤ a) :
    treatment t u a write =
      if inExtent a t.br (t.r * 128) then (if write then .swallowed else .toMemory a .other false)
      else .toMemory a .other false := by
  rw [treatment_outside_command hs he hc, inExtent_eq_false (base := t.bt) (size := 248) (by omega),
    inExtent_eq_false (base := t.bt + 248) (size := 4) (by omega),
    inExtent_eq_false (base := t.bt + 252) (size := 4) (by omega)]
  simp

variable (hap : t.Apart)
include hap

theorem treatment_of_evidence (h : t.be ≤ a) (h' : a < t.be + 24576) :
    treatment t u a write = if write then .swallowed else evidenceRead t u (a - t.be) := by
  rw [treatment_outside_sample (by have := hap.sampleEvidence; omega), if_pos (inExtent_iff.2 ⟨h, h'⟩)]

theorem treatment_of_command (h : t.bc ≤ a) (h' : a < t.bc + 512) :
    treatment t u a write = .toMemory a (commandPlace (a - t.bc)) true := by
  rw [treatment_outside_sample (by have := hap.sampleCommand; omega),
    inExtent_eq_false (base := t.be) (by have := hap.evidenceCommand; omega), inExtent_iff.2 ⟨h, h'⟩]
  simp

theorem treatment_of_status (h : t.bt ≤ a) (h' : a < t.bt + 256) :
    treatment t u a write =
      if a < t.bt + 248 then (if write then .swallowed else .toMemory a .other false)
      else if a < t.bt + 252 then .toMemory a .noticeWord true
      else .toMemory a .consumerWord true := by
  rw [treatment_outside_command (by have := hap.sampleStatus; omega) (by have := hap.evidenceStatus; omega)
    (by have := hap.commandStatus; omega)]
  by_cases h1 : a < t.bt + 248
  · rw [if_pos (inExtent_iff.2 ⟨h, h1⟩), if_pos h1]
  · rw [inExtent_eq_false (.inr (Nat.le_of_not_lt h1)), if_neg (by decide), if_neg h1]
    by_cases h2 : a < t.bt + 252
    · rw [if_pos (inExtent_iff.2 (by omega)), if_pos h2]
    · rw [if_neg (by simp [inExtent_iff]; omega), if_pos (inExtent_iff.2 (by omega)), if_neg h2]

theorem treatment_of_ring (h : t.br ≤ a) (h' : a < t.br + 128 * t.r) :
    treatment t u a write = if write then .swallowed else .toMemory a .other false := by
  rw [treatment_outside_status (by have := hap.sampleRing; omega) (by have := hap.evidenceRing; omega)
    (by have := hap.commandRing; omega) (by have := hap.statusRing; omega), if_pos (inExtent_iff.2 (by omega))]

end

variable {s : State} {a : Addr} {op : BusOp}

theorem State.receive_of_answered (h : s.sort a.toNat op = .answered) : s.receive a op = s.replied (.data 0xFFFFFFFF) := by
  unfold State.receive
  rw [h]
  rfl

theorem State.receive_of_swallowed (h : s.sort a.toNat op = .swallowed) : s.receive a op = s.replied .ack := by
  unfold State.receive
  rw [h]
  rfl

theorem State.receive_of_toMemory {m : Nat} {place : Place} {sn : Bool} (h : s.sort a.toNat op = .toMemory m place sn) :
    s.receive a op = s.inProgress op m place (sn && isWrite op && s.path.state == .running) := by
  unfold State.receive
  rw [h]
  rfl

theorem State.receive_of_swallowedOr {m : Nat} (h : s.sort a.toNat op = if isWrite op then .swallowed else .toMemory m .other false) :
    s.receive a op = if isWrite op then s.replied .ack else s.inProgress op m .other false := by
  cases hw : isWrite op
  · rw [hw] at h
    simpa using State.receive_of_toMemory h
  · rw [hw] at h
    simpa using State.receive_of_swallowed h

theorem State.sort_starting (h : s.path.state = .starting) (n : Nat) : s.sort n op = .toMemory n .other false := by
  simp [State.sort, h]

theorem State.sort_of_not_starting (h : s.path.state ≠ .starting) (n : Nat) :
    s.sort n op = treatment s.windows s.cap n (isWrite op) := by
  unfold State.sort
  split
  · next hs => exact absurd hs h
  · rfl

theorem exec_busAccess (h : s.path.bus = none) : exec (.busAccess a op) s = .next (s.settle (s.receive a op)) := by
  simp [exec, execBusAccess, State.settled, h]

theorem exec_busAccess_held (h : s.path.bus ≠ none) : exec (.busAccess a op) s = .next (s.settle s) := by
  obtain ⟨b, hb⟩ := Option.ne_none_iff_exists'.1 h
  simp [exec, execBusAccess, State.settled, hb]

theorem sampleAccess_eq {t : WindowTable} {u : CaptureUnit} {d : Nat} {l : Fin 32} {i : Fin 128} (hl : l.val = d / 512)
    (hi : i.val = d % 512 / 4) :
    sampleAccess t u d = .toMemory (t.bs + 512 * u.map[l].val + d % 512) (.sample l u.map[l] i) true := by
  have hl' : l = Fin.ofNat 32 (d / 512) := by rw [← hl, Fin.ofNat_eq_cast, Fin.cast_val_eq_self]
  have hi' : i = Fin.ofNat 128 (d % 512 / 4) := by rw [← hi, Fin.ofNat_eq_cast, Fin.cast_val_eq_self]
  subst hl' hi'
  rfl

theorem evidenceRead_answered {t : WindowTable} {u : CaptureUnit} {d : Nat} {c : Fin 4} (hc : c.val = d / 6144)
    (h : u.table[c].state = .free ∨ u.table[c].frames.length ≤ d % 6144 / 512) : evidenceRead t u d = .answered := by
  simp only [evidenceRead]
  rw [← hc, vget_fin]
  generalize u.table[c] = e at h ⊢
  rcases h with h | h
  · rw [h]
  · rw [List.getElem?_eq_none h]
    cases e.state <;> rfl

theorem evidenceRead_translated {t : WindowTable} {u : CaptureUnit} {d : Nat} {c : Fin 4} {q : Half} {p : Fin 48}
    (hc : c.val = d / 6144) (hs : u.table[c].state ≠ .free) (h : u.table[c].frames[d % 6144 / 512]? = some (q, p)) :
    evidenceRead t u d = .toMemory (t.bs + 512 * p.val + d % 512) .other false := by
  simp only [evidenceRead]
  rw [← hc, vget_fin]
  generalize u.table[c] = e at hs h ⊢
  cases hst : e.state
  case free => exact absurd hst hs
  all_goals simp [h, slotAddr]

theorem commandPlace_eq {d : Nat} {i : Fin 8} {k : Fin 16} (hi : i.val = d / 64) (hk : k.val = d % 64 / 4) :
    commandPlace d = .command i k := by
  have hi' : Fin.ofNat 8 (d / 64) = i := by rw [← hi, Fin.ofNat_eq_cast, Fin.cast_val_eq_self]
  have hk' : Fin.ofNat 16 (d % 64 / 4) = k := by rw [← hk, Fin.ofNat_eq_cast, Fin.cast_val_eq_self]
  rw [commandPlace, hi', hk']

/-- Settles O17: the windows of a table in order are apart, so each address is treated by the one branch of the table. -/
theorem busAccessIsTreatedByWindow : Obligations.BusAccessIsTreatedByWindow := by
  refine ⟨fun s a op h => exec_busAccess_held h, fun s a op hb hst => ?_, fun s t a op hb hst hw hok => ?_⟩
  · rw [exec_busAccess hb, State.receive_of_toMemory (State.sort_starting hst _)]
    simp
  have hap := apart_of_windowsOk hok
  have hwin : s.windows = t := by simp [State.windows, hw]
  have hsort : s.sort a.toNat op = treatment t s.cap a.toNat (isWrite op) := by
    rw [State.sort_of_not_starting hst, hwin]
  have hlive : (true && isWrite op && s.path.state == .running) = (isWrite op && s.path.state == .running) := by simp
  simp only [exec_busAccess hb]
  refine ⟨fun l i h1 h2 hl hi => ?_, fun h1 h2 => ?_, fun h1 h2 hop => ?_, fun c h1 h2 hop hc => ⟨fun h => ?_, fun q p hfree h => ?_⟩,
    fun i k h1 h2 hi hk => ?_, fun h1 h2 => ?_, fun h1 h2 => ?_, fun h1 h2 => ?_, fun h1 h2 => ?_, fun h1 h2 h3 h4 h5 => ?_⟩
  · rw [treatment_of_sample h1 h2, sampleAccess_eq hl hi] at hsort
    rw [State.receive_of_toMemory hsort, hlive]
  · rw [treatment_of_spare h1 h2] at hsort
    cases hop : isWrite op
    · rw [hop] at hsort
      rw [State.receive_of_answered hsort]
      rfl
    · rw [hop] at hsort
      rw [State.receive_of_swallowed hsort]
      rfl
  · rw [treatment_of_evidence hap h1 h2, hop] at hsort
    rw [State.receive_of_swallowed hsort]
  · rw [treatment_of_evidence hap h1 h2, hop, if_neg Bool.false_ne_true, evidenceRead_answered hc h] at hsort
    rw [State.receive_of_answered hsort]
  · rw [treatment_of_evidence hap h1 h2, hop, if_neg Bool.false_ne_true, evidenceRead_translated hc hfree h] at hsort
    have hmod : (a.toNat - t.be) % 6144 % 512 = (a.toNat - t.be) % 512 := Nat.mod_mod_of_dvd _ (by decide)
    rw [State.receive_of_toMemory hsort]
    simp
  · rw [treatment_of_command hap h1 h2, commandPlace_eq hi hk] at hsort
    rw [State.receive_of_toMemory hsort, hlive]
  · rw [treatment_of_status hap h1 (by omega), if_pos h2] at hsort
    rw [State.receive_of_swallowedOr hsort]
  · rw [treatment_of_status hap (by omega) (by omega), if_neg (by omega), if_pos h2] at hsort
    rw [State.receive_of_toMemory hsort, hlive]
  · rw [treatment_of_status hap (by omega) h2, if_neg (by omega), if_neg (by omega)] at hsort
    rw [State.receive_of_toMemory hsort, hlive]
  · rw [treatment_of_ring hap h1 h2] at hsort
    rw [State.receive_of_swallowedOr hsort]
  · rw [treatment_outside_status h1 h2 h3 h4, inExtent_eq_false (base := t.br) (by omega), if_neg Bool.false_ne_true] at hsort
    rw [State.receive_of_toMemory hsort]
    simp

end Sys2Proof.Machine
end

section
/-! PROOFS. What is placed and what goes on waiting, for each source of internal requests (R15, R138, R139, R142, R152). -/

namespace Sys2Proof.Machine

/-- The requests for which the internal queue has room. -/
def State.room (s : State) : Nat := queueCapacity - s.iq.length

theorem State.room_place (s : State) (r : Request) : (s.place r).room = s.room - 1 := by
  simp only [State.room, State.place, List.length_append, List.length_cons, List.length_nil]
  omega

theorem State.room_of_hasRoom {s : State} (h : s.hasRoom = true) : s.room = s.room - 1 + 1 := by
  rw [State.hasRoom_iff] at h
  unfold State.room
  omega

theorem State.room_of_not_hasRoom {s : State} (h : ¬ s.hasRoom = true) : s.room = 0 := by
  rw [State.hasRoom_iff] at h
  unfold State.room
  omega

/-- The request of a completion word that is no word of a RELOAD. -/
def State.completionRequest (s : State) (x : Fin 8 × Code) : Request :=
  ⟨s.slotAddress x.1, .completion x.1 (s.slotWordOf x.1 x.2)⟩

theorem State.placeCompletion_of_ordinary (s : State) (i : Fin 8) {code : Code} (h : code ≠ .accepted ∧ code ≠ .discarded) :
    s.placeCompletion i code = s.place (s.completionRequest (i, code)) := by
  have hcode : code.atPlacing = false := by
    obtain ⟨h1, h2⟩ := h
    cases code <;> simp_all [Code.atPlacing]
  simp [State.placeCompletion, hcode, State.completionRequest]

/-- Completion words apart from those of a RELOAD: as many as have room are placed, and the others wait. -/
theorem State.placeCompletions_eq (l : List (Fin 8 × Code)) (s : State)
    (hl : ∀ x ∈ l, x.2 ≠ .accepted ∧ x.2 ≠ .discarded) :
    State.placeCompletions l s = { s with
      iq := s.iq ++ (l.take s.room).map s.completionRequest
      cmd := { s.cmd with waits := l.drop s.room } } := by
  induction l generalizing s with
  | nil => simp [State.placeCompletions]
  | cons x rest ih =>
    obtain ⟨i, code⟩ := x
    unfold State.placeCompletions
    split
    · next hr =>
      rw [State.placeCompletion_of_ordinary s i (hl _ (List.mem_cons_self ..)),
        ih _ fun y hy => hl y (List.mem_cons_of_mem _ hy), State.room_place, State.room_of_hasRoom hr]
      simp [State.place]
      rfl
    · next hr => simp [State.room_of_not_hasRoom hr]

/-- Table reads: as many as have room are placed, and the others wait. -/
theorem State.placeLoads_eq (l : List Nat) (s : State) :
    State.placeLoads l s = { s with
      iq := s.iq ++ (l.take s.room).map fun a => ⟨a, .tableRead⟩
      cmd := { s.cmd with loadWaits := l.drop s.room } } := by
  induction l generalizing s with
  | nil => simp [State.placeLoads]
  | cons a rest ih =>
    unfold State.placeLoads
    split
    · next hr =>
      rw [ih, State.room_place, State.room_of_hasRoom hr]
      simp [State.place]
    · next hr => simp [State.room_of_not_hasRoom hr]

/-- The words of a record: as many as have room are placed at consecutive addresses, and the others are left over. -/
theorem State.placeWords_eq (ws : List Word) (a : Nat) (s : State) :
    State.placeWords ws a s =
      ({ s with iq := s.iq ++ (ws.take s.room).zipIdx.map fun x => ⟨a + 4 * x.2, .write x.1⟩ },
        ws.drop s.room, a + 4 * min s.room ws.length) := by
  induction ws generalizing s a with
  | nil => simp [State.placeWords]
  | cons w rest ih =>
    unfold State.placeWords
    split
    · next hr =>
      rw [ih, State.room_place, State.room_of_hasRoom hr]
      have haddr : a + 4 + 4 * min (s.room - 1) rest.length = a + 4 * min (s.room - 1 + 1) (w :: rest).length := by
        rw [List.length_cons, Nat.add_min_add_right]
        omega
      have hzip (l : List Word) : (l.zipIdx (0 + 1)).map (fun x => (⟨a + 4 * x.2, .write x.1⟩ : Request))
          = l.zipIdx.map fun x => ⟨a + 4 + 4 * x.2, .write x.1⟩ := by
        simp [List.zipIdx_succ, Function.comp_def, Nat.mul_add, Nat.add_assoc, Nat.add_comm 4]
      rw [Nat.add_sub_cancel, haddr, List.take_succ_cons, List.drop_succ_cons, List.zipIdx_cons, List.map_cons, hzip]
      simp [State.place]
    · next hr => simp [State.room_of_not_hasRoom hr]

/-- The write of status word `w` as it stands. -/
def State.statusRequest (s : State) (w : Nat) : Request := ⟨s.windows.bt + 4 * w, .write (s.statusWord w)⟩

@[simp] theorem State.statusRequest_place (s : State) (r : Request) : (s.place r).statusRequest = s.statusRequest := rfl

@[simp] theorem State.windows_place (s : State) (r : Request) : (s.place r).windows = s.windows := rfl

theorem State.placeStatus_cons_of_room {s : State} (hr : s.hasRoom = true) {w : Nat} (hw : w ≠ 0) (ws : List Nat) :
    State.placeStatus (w :: ws) s = State.placeStatus ws (s.place (s.statusRequest w)) := by
  simp [State.placeStatus, hr, hw, State.statusRequest]

/-- A status block update with room for all its words: word 0 goes last, with the next mirror sequence. -/
theorem State.placeStatus_of_room (ws : List Nat) (s : State) (h0 : 0 ∉ ws) (hr : ws.length < s.room) :
    State.placeStatus (ws ++ [0]) s = { s with
      iq := s.iq ++ ws.map s.statusRequest ++ [⟨s.windows.bt, .write (s.status.mirror + 1)⟩]
      status := { s.status with mirror := s.status.mirror + 1, update := none } } := by
  have hroom : s.hasRoom = true := by
    rw [State.hasRoom_iff]
    unfold State.room at hr
    omega
  induction ws generalizing s with
  | nil =>
    simp [State.placeStatus, hroom]
    rfl
  | cons w ws ih =>
    obtain ⟨hw, hws⟩ := not_or.1 (List.mem_cons.not.1 h0)
    rw [List.length_cons] at hr
    have hr' : ws.length < (s.place (s.statusRequest w)).room := by
      rw [State.room_place]
      omega
    rw [List.cons_append, State.placeStatus_cons_of_room hroom (Ne.symm hw), ih _ hws hr', State.statusRequest_place, State.windows_place]
    · simp [State.place]
    · rw [State.hasRoom_iff]
      unfold State.room at hr'
      omega

/-- A status block update without room for word 0: the words that find no room wait. -/
theorem State.placeStatus_of_no_room (ws : List Nat) (s : State) (h0 : 0 ∉ ws) (hr : s.room ≤ ws.length) :
    State.placeStatus (ws ++ [0]) s = { s with
      iq := s.iq ++ (ws.take s.room).map s.statusRequest
      status := { s.status with update := some (ws.drop s.room ++ [0]) } } := by
  induction ws generalizing s with
  | nil =>
    have hroom : ¬ s.hasRoom = true := by
      rw [State.hasRoom_iff]
      simp [State.room] at hr
      omega
    simp [State.placeStatus, hroom]
  | cons w ws ih =>
    obtain ⟨hw, hws⟩ := not_or.1 (List.mem_cons.not.1 h0)
    by_cases hroom : s.hasRoom = true
    · have hr' : (s.place (s.statusRequest w)).room ≤ ws.length := by
        rw [State.room_place]
        rw [List.length_cons] at hr
        omega
      rw [List.cons_append, State.placeStatus_cons_of_room hroom (Ne.symm hw), ih _ hws hr', State.room_place,
        State.statusRequest_place, State.room_of_hasRoom hroom]
      simp [State.place]
    · simp [State.placeStatus, hroom, State.room_of_not_hasRoom hroom]

theorem State.reloadOn_of_not_reloading {s : State} (h : ∀ i, s.cmd.exec ≠ some ⟨i, .reloading⟩) : s.reloadOn = s := by
  unfold State.reloadOn
  split
  · next i hi => exact absurd hi (h i)
  · rfl

/-- The record being placed with room for the rest of its words: it ends, and the work that waited with it is answered. -/
theorem State.pumpRecord_of_room {s : State} {pl : Placing} (h : s.report.placing = some pl) (hr : pl.words.length ≤ s.room) :
    s.pumpRecord = (({ s with iq := s.iq ++ (pl.words.take s.room).zipIdx.map fun x => ⟨pl.addr + 4 * x.2, .write x.1⟩ } :
      State).endRecord, some pl.cont) := by
  simp [State.pumpRecord, h, State.placeWords_eq, List.drop_eq_nil_of_le hr]

/-- The record being placed without room for the rest of its words: the rest waits. -/
theorem State.pumpRecord_of_no_room {s : State} {pl : Placing} (h : s.report.placing = some pl)
    (hr : s.room < pl.words.length) :
    s.pumpRecord = ({ s with
      iq := s.iq ++ (pl.words.take s.room).zipIdx.map fun x => ⟨pl.addr + 4 * x.2, .write x.1⟩
      report := { s.report with
        placing := some ⟨pl.kind, pl.addr + 4 * s.room, pl.words.drop s.room, pl.cont⟩ } }, none) := by
  have hmin : min s.room pl.words.length = s.room := min_eq_left hr.le
  have hdrop : pl.words.drop s.room ≠ [] := by
    rw [Ne, List.drop_eq_nil_iff]
    omega
  unfold State.pumpRecord
  rw [h]
  simp only [State.placeWords_eq, hmin]
  cases hd : pl.words.drop s.room with
  | nil => exact absurd hd hdrop
  | cons w ws => rfl

/-- Settles O20: for each source, what fits is placed at the tail in order and the rest waits. -/
theorem waitingRequestsArePlacedInOrder : Obligations.WaitingRequestsArePlacedInOrder := by
  intro s
  refine ⟨fun hord => ?_, ?_, fun pl hpl => ⟨fun hr => ?_, fun hr => ?_⟩, fun ws hu h0 => ⟨fun hr => ?_, fun hr => ?_⟩⟩
  · have hpump : s.pump .commandUnit = State.reloadOn { s with
        iq := s.iq ++ (s.cmd.waits.take s.room).map s.completionRequest
        cmd := { s.cmd with waits := s.cmd.waits.drop s.room } } := by
      rw [← State.placeCompletions_eq _ s hord]
      rfl
    refine ⟨fun hex => ?_, fun hex => ?_⟩
    · have hstay := State.reloadOn_of_not_reloading (s := { s with
          iq := s.iq ++ (s.cmd.waits.take s.room).map s.completionRequest
          cmd := { s.cmd with waits := s.cmd.waits.drop s.room } }) hex
      exact congrArg (fun u => Host.Outcome.next (s.settle u)) (hpump.trans hstay)
    · exact congrArg (fun u => Host.Outcome.next (s.settle u)) hpump
  · exact congrArg (fun u => Host.Outcome.next (s.settle u)) (State.placeLoads_eq s.cmd.loadWaits s)
  · have hpump : s.pump .reportWriter = _ := congrArg State.resume (State.pumpRecord_of_no_room hpl hr)
    exact congrArg (fun u => Host.Outcome.next (s.settle u)) hpump
  · have hpump : s.pump .reportWriter = _ := congrArg State.resume (State.pumpRecord_of_room hpl hr)
    exact congrArg (fun u => Host.Outcome.next (s.settle u)) hpump
  · have hpump : s.pump .statusUpdate = State.placeStatus (ws ++ [0]) s := by simp [State.pump, State.pumpStatus, hu]
    exact congrArg (fun u => Host.Outcome.next (s.settle u)) (hpump.trans (State.placeStatus_of_room ws s h0 hr))
  · have hpump : s.pump .statusUpdate = State.placeStatus (ws ++ [0]) s := by simp [State.pump, State.pumpStatus, hu]
    exact congrArg (fun u => Host.Outcome.next (s.settle u)) (hpump.trans (State.placeStatus_of_no_room ws s h0 hr))

end Sys2Proof.Machine
end

section
/-! PROOFS. The status block update (R141, R142) and the contents of the status words (section 11.4). -/

namespace Sys2Proof.Machine

theorem markWhere_counterWords (s : State) : (s.markWhere fun w => counterWords.contains w).status.marks
    = ((List.range 62).drop 1).filter fun w => s.status.marks.contains w || w == 17 || w == 18 || w == 19 := by
  refine List.filter_congr fun w _ => ?_
  simp [counterWords, Bool.or_assoc, Bool.beq_eq_decide_eq]

theorem State.updateDue_iff {s : State} :
    s.updateDue = true ↔ s.status.marks ≠ [] ∧ s.status.update = none ∧ s.path.state ≠ .starting := by
  simp [State.updateDue, and_assoc]

/-- Settles O47: an update begun places the words that have room, and word 0 with the next mirror sequence if all have. -/
theorem statusBlockUpdatePlacesMarkedWords : Obligations.StatusBlockUpdatePlacesMarkedWords := by
  intro s hm hu hst
  have hexec : exec .statusBlockUpdate s = .next (s.settle s.beginUpdate) := by
    simp [exec, execStatusBlockUpdate, State.settled, State.updateDue_iff.2 ⟨hm, hu, hst⟩]
  have h0 : 0 ∉ ((List.range 62).drop 1).filter
      fun w => s.status.marks.contains w || w == 17 || w == 18 || w == 19 := fun h => absurd (List.mem_of_mem_filter h) (by decide)
  have hreq : State.statusRequest { s with status := { s.status with marks := [] } } = fun w => s.statusRequest w := rfl
  rw [hexec, State.beginUpdate, markWhere_counterWords]
  refine ⟨fun hr => ?_, fun hr => ?_⟩
  · exact congrArg (fun u => Host.Outcome.next (s.settle u)) (State.placeStatus_of_room _ _ h0 hr)
  · exact congrArg (fun u => Host.Outcome.next (s.settle u)) (State.placeStatus_of_no_room _ _ h0 hr)

/-! ## The contents of the words -/

theorem packWord_eq_ofNat {fs : List (Nat × Nat × Nat)} {n : Nat} (h : Ascending 0 fs) (hn : fieldSum fs = n) :
    packWord fs = BitVec.ofNat 32 n := by rw [packWord_eq_fieldSum h, hn]

@[simp] theorem flag_true : flag true = 1 := rfl

@[simp] theorem flag_false : flag false = 0 := rfl

@[simp] theorem flag_mod_two (b : Bool) : flag b % 2 = flag b := Nat.mod_eq_of_lt (flag_lt b)

@[simp] theorem PathState.code_mod (x : PathState) : x.code % 4 = x.code := by cases x <;> rfl

@[simp] theorem SeqState.code_mod (x : SeqState) : x.code % 4 = x.code := by cases x <;> rfl

@[simp] theorem CapState.code_mod (x : CapState) : x.code % 4 = x.code := by cases x <;> rfl

@[simp] theorem SlotState.code_mod (x : SlotState) : x.code % 4 = x.code := by cases x <;> rfl

theorem ZoneTable.code_lt (t : ZoneTable) (z : Nat) : t.code z < 16 := by
  unfold ZoneTable.code
  split
  · decide
  · next r _ => cases r.state <;> decide

theorem State.zoneWord_eq (s : State) (i : Nat) :
    s.zoneWord i = BitVec.ofNat 32 (((List.range 8).map fun j => s.zone.code (8 * i + j) * 16 ^ j).sum) := by
  refine packWord_eq_ofNat (by simp [List.range_succ, Ascending]) ?_
  unfold fieldSum
  rw [List.map_map]
  refine congrArg List.sum (List.map_congr_left fun j _ => ?_)
  show s.zone.code (8 * i + j) % 16 * 2 ^ (4 * j) = _
  rw [Nat.mod_eq_of_lt (s.zone.code_lt _), Nat.pow_mul]

theorem fieldSum_pairs (l : List Nat) (f g : Nat → Nat × Nat × Nat) :
    fieldSum (l.flatMap fun c => [f c, g c]) = (l.map fun c => fieldSum [f c, g c]).sum := by
  induction l with
  | nil => rfl
  | cons c l ih => simp [List.flatMap_cons, ih, Nat.add_assoc]

theorem State.captureWord_eq (s : State) : s.captureWord = BitVec.ofNat 32
    (((List.finRange 4).map fun c =>
      ((s.cap.table[c]).state.code + 16 * ((s.cap.table[c]).frames.length % 16)) * 256 ^ c.val).sum) := by
  have hpow (c x y : Nat) : x * 2 ^ (8 * c) + y * 2 ^ (8 * c + 4) = (x + 16 * y) * 256 ^ c := by
    rw [Nat.pow_add, Nat.pow_mul]
    ring
  have hsum (c : Nat) (e : Capture) : fieldSum [(e.state.code, 8 * c, 2), (e.frames.length, 8 * c + 4, 4)]
      = (e.state.code + 16 * (e.frames.length % 16)) * 256 ^ c := by
    rw [← hpow, fieldSum_cons, fieldSum_cons, fieldSum_nil, Nat.add_zero]
    exact congrArg (· * 2 ^ (8 * c) + _) e.state.code_mod
  unfold State.captureWord
  rw [packWord_eq_fieldSum (lo := 0) (by simp [List.range_succ, Ascending]), fieldSum_pairs,
    ← List.map_coe_finRange_eq_range, List.map_map]
  refine congrArg (fun l => BitVec.ofNat 32 (List.sum l)) (List.map_congr_left fun c _ => ?_)
  rw [Function.comp_apply, hsum, vget_fin]

theorem State.slotWord_eq (s : State) : s.slotWord = BitVec.ofNat 32
    (((List.finRange 8).map fun i => (s.cmd.slots[i]).state.code * 16 ^ i.val).sum) := by
  unfold State.slotWord
  rw [packWord_eq_fieldSum (lo := 0) (by simp [List.range_succ, Ascending]), fieldSum, ← List.map_coe_finRange_eq_range,
    List.map_map, List.map_map]
  refine congrArg (fun l => BitVec.ofNat 32 (List.sum l)) (List.map_congr_left fun i _ => ?_)
  simp [vget, Nat.pow_mul]

theorem State.statusWord_notices (s : State) : s.statusWord 3 = BitVec.ofNat 32 (s.notice.pending.toNat
    + 65536 * (s.notice.cause.getD 0 % 16) + 1048576 * flag s.notice.cause.isNone + 16777216 * (s.notice.mask % 8)
    + 268435456 * flag (decide (s.notice.clearMode = .replace))) := by
  unfold State.statusWord
  refine packWord_eq_ofNat (by simp [Ascending]) ?_
  have hp : s.notice.pending.toNat % 65536 = s.notice.pending.toNat := Nat.mod_eq_of_lt s.notice.pending.isLt
  have hc := flag_lt s.notice.cause.isNone
  cases s.notice.clearMode <;> simp [-Option.isNone_iff_eq_none] <;> omega

theorem State.statusWord_stop (s : State) : s.statusWord 4 = BitVec.ofNat 32 (flag s.notice.latch
    + 2 * flag (decide (s.notice.mode = .pulse)) + 16 * (s.notice.k % 16) + 65536 * s.notice.sources.toNat) := by
  unfold State.statusWord
  refine packWord_eq_ofNat (by simp [Ascending]) ?_
  have hs : s.notice.sources.toNat % 65536 = s.notice.sources.toNat := Nat.mod_eq_of_lt s.notice.sources.isLt
  cases s.notice.mode <;> simp <;> omega

/-- Settles O46: every word is its fields at their places. -/
theorem statusWordLayout : Obligations.StatusWordLayout := by
  intro s w n d e z on path cycle zone cap slot count replaces pulses
  have hon (b : Bool) : on b = flag b := rfl
  have hpath : path = s.path.state.code := by simp only [path]; cases s.path.state <;> rfl
  have hcycle : cycle = (s.gate.state.code, s.gate.state.step) := by simp only [cycle]; cases s.gate.state <;> rfl
  have hzone (i : Nat) : zone i = s.zone.code i := by
    simp only [zone, ZoneTable.code, ZoneTable.record?]
    cases vget s.zone.records i none with
    | none => rfl
    | some r => cases r.state <;> rfl
  have hcap (c : Fin 4) : cap c = s.cap.table[c].state.code + 16 * (s.cap.table[c].frames.length % 16) := by
    simp only [cap]; cases s.cap.table[c].state <;> rfl
  have hslot (i : Fin 8) : slot i = s.cmd.slots[i].state.code := by simp only [slot]; cases s.cmd.slots[i].state <;> rfl
  have hcount : count = s.zoneCount := by simp only [count, State.zoneCount]; cases s.ev.profile <;> rfl
  have hreplaces : replaces = flag (decide (s.notice.clearMode = .replace)) := by
    simp only [replaces, n]; cases s.notice.clearMode <;> rfl
  have hpulses : pulses = flag (decide (s.notice.mode = .pulse)) := by simp only [pulses, n]; cases s.notice.mode <;> rfl
  have hgates : s.gate.gates.toNat % 16 = s.gate.gates.toNat := Nat.mod_eq_of_lt s.gate.gates.toNat_lt
  unfold Gates.toNat at hgates
  clear_value on path cycle zone cap slot count replaces pulses
  obtain rfl : on = flag := funext hon
  subst hpath hcycle hcount hreplaces hpulses
  refine ⟨?_, ?_, fun f hf => ?_, fun hf => ?_, s.statusWord_stop, rfl, ?_, ?_, rfl, ?_, ?_, ?_, fun i => ?_, ?_, ?_, rfl, rfl, rfl,
    ?_, ?_, ?_, ?_, ?_, ?_, ?_, ?_, ?_, ?_, fun i hi => ?_⟩
  · unfold w State.statusWord
    exact packWord_eq_ofNat (by simp [Ascending]) (by simp; omega)
  · unfold w State.statusWord
    exact packWord_eq_ofNat (by simp [Ascending]) (by simpa using Nat.mod_eq_of_lt Config.version.isLt)
  · exact s.statusWord_notices.trans (by rw [hf]; rfl)
  · exact s.statusWord_notices.trans (by rw [hf]; rfl)
  · unfold w State.statusWord Gates.toNat
    exact packWord_eq_ofNat (by simp [Ascending]) (by simp [hgates]; omega)
  · unfold w State.statusWord
    exact packWord_eq_ofNat (by simp [Ascending]) (by simp; omega)
  · unfold w State.statusWord
    exact packWord_eq_ofNat (by simp [Ascending]) (by simp; omega)
  · unfold w State.statusWord
    exact packWord_eq_ofNat (by simp [Ascending]) (by simp)
  · unfold w State.statusWord
    exact packWord_eq_ofNat (by simp [Ascending]) (by simp; omega)
  · obtain rfl : zone = s.zone.code := funext hzone
    fin_cases i <;> exact s.zoneWord_eq _
  · simp only [hcap]
    exact s.captureWord_eq
  · simp only [hslot]
    exact s.slotWord_eq
  · unfold w State.statusWord
    exact packWord_eq_ofNat (by simp [Ascending]) (by simp [d]; omega)
  · unfold w State.statusWord
    exact packWord_eq_ofNat (by simp [Ascending]) (by simp [d]; omega)
  · unfold w State.statusWord
    exact packWord_eq_ofNat (by simp [Ascending]) (by simp [d])
  · unfold w State.statusWord
    exact packWord_eq_ofNat (by simp [Ascending]) (by simp [e]; omega)
  · unfold w State.statusWord
    exact packWord_eq_ofNat (by simp [Ascending]) (by simp [e, z]; omega)
  · unfold w State.statusWord
    exact packWord_eq_ofNat (by simp [Ascending]) (by simp [e]; omega)
  · unfold w State.statusWord
    exact packWord_eq_ofNat (by simp [Ascending]) (by simp [z]; omega)
  · unfold w State.statusWord
    exact packWord_eq_ofNat (by simp [Ascending]) (by simp [z]; omega)
  · unfold w State.statusWord
    exact packWord_eq_ofNat (by simp [Ascending]) (by simp [z]; omega)
  · unfold w State.statusWord
    exact packWord_eq_ofNat (by simp [Ascending]) (by simp; omega)
  · obtain ⟨k, rfl⟩ := Nat.exists_eq_add_of_le' hi
    rfl

end Sys2Proof.Machine
end

section
/-! PROOFS. The words and flags of the six record kinds (section 11.5). -/

namespace Sys2Proof.Machine

/-! ## Reading a word made of fields -/

theorem Ascending.le_of_mem {lo v p width : Nat} {fs : List (Nat × Nat × Nat)} (h : Ascending lo fs) (hm : (v, p, width) ∈ fs) :
    lo ≤ p := by
  induction fs generalizing lo with
  | nil => exact absurd hm List.not_mem_nil
  | cons f fs ih =>
    obtain ⟨hlo, hrest⟩ := h
    rcases List.mem_cons.1 hm with rfl | hm
    · exact hlo
    · exact hlo.trans ((Nat.le_add_right _ _).trans (ih hrest hm))

/-- What stands below bit `q` does not reach the bits from `p` on. -/
theorem add_div_two_pow {x m p q : Nat} (hx : x < 2 ^ q) (hq : q ≤ p) : (x + 2 ^ q * m) / 2 ^ p = 2 ^ q * m / 2 ^ p := by
  have hp : 2 ^ p = 2 ^ q * 2 ^ (p - q) := by rw [← Nat.pow_add, Nat.add_sub_cancel' hq]
  rw [hp, ← Nat.div_div_eq_div_mul, ← Nat.div_div_eq_div_mul, Nat.add_mul_div_left _ _ (Nat.two_pow_pos q),
    Nat.div_eq_of_lt hx, Nat.zero_add, Nat.mul_div_cancel_left _ (Nat.two_pow_pos q)]

theorem fieldSum_field {lo v p width : Nat} {fs : List (Nat × Nat × Nat)} (h : Ascending lo fs) (hm : (v, p, width) ∈ fs) :
    fieldSum fs / 2 ^ p % 2 ^ width = v % 2 ^ width := by
  induction fs generalizing lo with
  | nil => exact absurd hm List.not_mem_nil
  | cons f fs ih =>
    obtain ⟨hlo, hrest⟩ := h
    obtain ⟨m, hdvd⟩ := fieldSum_dvd hrest
    rw [fieldSum_cons]
    rcases List.mem_cons.1 hm with rfl | hm
    · rw [hdvd, Nat.pow_add, Nat.mul_assoc, Nat.mul_comm (v % _), ← Nat.mul_add, Nat.mul_div_cancel_left _ (Nat.two_pow_pos _),
        Nat.add_mul_mod_self_left, Nat.mod_mod]
    · rw [hdvd, add_div_two_pow (field_lt _ _ _) (hrest.le_of_mem hm), ← hdvd, ih hrest hm]

/-- A word made of fields gives each of its fields back. -/
theorem fieldOf_packWord {v p width : Nat} {fs : List (Nat × Nat × Nat)} (h : Ascending 0 fs) (hm : (v, p, width) ∈ fs) :
    fieldOf (packWord fs) p width = v % 2 ^ width := by
  rw [fieldOf, packWord_toNat h, fieldSum_field h hm]

theorem fieldOf_packWord_of_lt {v p width : Nat} {fs : List (Nat × Nat × Nat)} (h : Ascending 0 fs) (hm : (v, p, width) ∈ fs)
    (hv : v < 2 ^ width) : fieldOf (packWord fs) p width = v := by
  rw [fieldOf_packWord h hm, Nat.mod_eq_of_lt hv]

theorem testBit_of_div {n k : Nat} {b : Bool} (h : n / 2 ^ k % 2 = flag b) : n.testBit k = b := by
  rw [Nat.testBit_eq_decide_div_mod_eq, h]
  cases b <;> rfl

/-- A one-bit field of a word made of fields. -/
theorem getLsbD_packWord {p : Nat} {b : Bool} {fs : List (Nat × Nat × Nat)} (h : Ascending 0 fs) (hm : (flag b, p, 1) ∈ fs) :
    (packWord fs).getLsbD p = b := by
  have hf := fieldOf_packWord h hm
  rw [fieldOf, Nat.pow_one, flag_mod_two] at hf
  exact testBit_of_div hf

/-! ## The EVENT record (R97) -/

theorem octave_lt {peak : Nat} (h0 : 0 < peak) (h : peak ≤ 32767) : octave peak < 16 :=
  (Nat.log2_lt h0.ne').2 (by omega)

theorem getElem?_flatMap_triple {α β : Type} (f g h : α → β) (l : List α) (i : Nat) :
    (l.flatMap fun x => [f x, g x, h x])[3 * i]? = l[i]?.map f
      ∧ (l.flatMap fun x => [f x, g x, h x])[3 * i + 1]? = l[i]?.map g
      ∧ (l.flatMap fun x => [f x, g x, h x])[3 * i + 2]? = l[i]?.map h := by
  induction l generalizing i with
  | nil => simp
  | cons x l ih =>
    cases i with
    | zero => simp
    | succ i =>
      simpa [Nat.mul_add, Nat.add_right_comm _ 3] using ih i

/-- The words of listed member `i` of an EVENT record. -/
theorem eventRecord_member (c : Completion) {i : Nat} {m : Member} {f : Features} (h : (listed c.event.members)[i]? = some (m, f)) :
    (eventRecord c).body[3 + 3 * i]? = some (packWord [(m.ch.val, 0, 2), (flag f.long, 2, 1), (flag f.clipped, 3, 1),
        (flag f.gap, 4, 1), (octave f.peak, 8, 4), (m.arrival - c.event.t1, 12, 12), (f.counts, 24, 8)])
      ∧ (eventRecord c).body[4 + 3 * i]? = some (packWord [(f.peak, 0, 16), (f.dur, 16, 12)])
      ∧ (eventRecord c).body[5 + 3 * i]? = some (BitVec.ofNat 32 f.energy) := by
  obtain ⟨h1, h2, h3⟩ := getElem?_flatMap_triple (fun x : Member × Features => packWord [(x.1.ch.val, 0, 2), (flag x.2.long, 2, 1),
    (flag x.2.clipped, 3, 1), (flag x.2.gap, 4, 1), (octave x.2.peak, 8, 4), (x.1.arrival - c.event.t1, 12, 12), (x.2.counts, 24, 8)])
    (fun x => packWord [(x.2.peak, 0, 16), (x.2.dur, 16, 12)]) (fun x => BitVec.ofNat 32 x.2.energy) (listed c.event.members) i
  rw [h] at h1 h2 h3
  refine ⟨?_, ?_, ?_⟩
  · rw [Nat.add_comm]
    exact h1
  · rw [Nat.add_comm]
    exact h2
  · rw [Nat.add_comm]
    exact h3

theorem eventRecord_length (c : Completion) : (eventRecord c).body.length = 3 + 3 * (listed c.event.members).length := by
  simp [eventRecord, memberWords, List.length_flatMap]
  omega

/-- The eight flags of an EVENT record. -/
theorem eventRecord_flags (c : Completion) :
    let r := eventRecord c
    let ms := listed c.event.members
    r.flags < 256 ∧ r.flags.testBit 0 = c.late ∧ r.flags.testBit 1 = ms.any (·.2.gap) ∧ r.flags.testBit 2 = ms.any (·.2.long)
      ∧ r.flags.testBit 3 = ms.any (·.2.clipped) ∧ r.flags.testBit 4 = c.capture.isSome ∧ r.flags.testBit 5 = !c.located
      ∧ r.flags.testBit 6 = c.masked ∧ r.flags.testBit 7 = c.abandoned := by
  intro r ms
  have h0 := flag_lt c.late
  have h1 := flag_lt (ms.any (·.2.gap))
  have h2 := flag_lt (ms.any (·.2.long))
  have h3 := flag_lt (ms.any (·.2.clipped))
  have h4 := flag_lt c.capture.isSome
  have h5 := flag_lt (!c.located)
  have h6 := flag_lt c.masked
  have h7 := flag_lt c.abandoned
  have hr : r.flags = flag c.late + 2 * flag (ms.any (·.2.gap)) + 4 * flag (ms.any (·.2.long))
      + 8 * flag (ms.any (·.2.clipped)) + 16 * flag c.capture.isSome + 32 * flag (!c.located) + 64 * flag c.masked
      + 128 * flag c.abandoned := rfl
  rw [hr]
  refine ⟨by omega, testBit_of_div ?_, testBit_of_div ?_, testBit_of_div ?_, testBit_of_div ?_, testBit_of_div ?_,
    testBit_of_div ?_, testBit_of_div ?_, testBit_of_div ?_⟩
  all_goals omega

/-- The first two words of an EVENT record. -/
theorem eventRecord_head (c : Completion) (n : Nat) (hn : (listed c.event.members).length = n) :
    let w (i : Nat) : Word := ((eventRecord c).body[i]?).getD 0
    (c.weight ≤ 63 → c.zone ≤ 31 →
        fieldOf (w 0) 0 16 = c.event.id.toNat ∧ fieldOf (w 0) 16 6 = c.weight ∧ fieldOf (w 0) 22 2 = c.event.cls.code
        ∧ fieldOf (w 0) 24 5 = c.zone)
      ∧ (n ≤ 4 → c.event.secondary ≤ 15 → fieldOf (w 1) 0 3 = n ∧ fieldOf (w 1) 4 4 = c.event.secondary
        ∧ fieldOf (w 1) 8 2 = (c.capture.map (·.val)).getD 0 ∧ fieldOf (w 1) 16 16 = fieldOf c.event.cycle 0 16)
      ∧ fieldOf (w 0) 29 3 = 0 ∧ fieldOf (w 1) 3 1 = 0 ∧ fieldOf (w 1) 10 6 = 0 := by
  intro w
  have h0 : w 0 = packWord [(c.event.id.toNat, 0, 16), (c.weight, 16, 6), (c.event.cls.code, 22, 2), (c.zone, 24, 5)] := rfl
  have h1 : w 1 = packWord [(n, 0, 3), (c.event.secondary, 4, 4), ((c.capture.map (·.val)).getD 0, 8, 2),
      (c.event.cycle.toNat, 16, 16)] := by rw [← hn]; rfl
  have a0 : Ascending 0 [(c.event.id.toNat, 0, 16), (c.weight, 16, 6), (c.event.cls.code, 22, 2), (c.zone, 24, 5)] := by
    simp [Ascending]
  have a1 : Ascending 0 [(n, 0, 3), (c.event.secondary, 4, 4), ((c.capture.map (·.val)).getD 0, 8, 2),
      (c.event.cycle.toNat, 16, 16)] := by simp [Ascending]
  have hcls : c.event.cls.code < 4 := by cases c.event.cls <;> decide
  have hid := c.event.id.isLt
  have hcap : (c.capture.map (·.val)).getD 0 < 4 := by
    cases c.capture with
    | none => decide
    | some k => exact k.isLt
  rw [h0, h1]
  refine ⟨fun hw hz => ⟨?_, ?_, ?_, ?_⟩, fun hm hs => ⟨?_, ?_, ?_, ?_⟩, ?_, ?_, ?_⟩
  · exact fieldOf_packWord_of_lt a0 (v := c.event.id.toNat) (by simp) hid
  · exact fieldOf_packWord_of_lt a0 (v := c.weight) (by simp) (by omega)
  · exact fieldOf_packWord_of_lt a0 (v := c.event.cls.code) (by simp) (by omega)
  · exact fieldOf_packWord_of_lt a0 (v := c.zone) (by simp) (by omega)
  · exact fieldOf_packWord_of_lt a1 (v := n) (by simp) (by omega)
  · exact fieldOf_packWord_of_lt a1 (v := c.event.secondary) (by simp) (by omega)
  · exact fieldOf_packWord_of_lt a1 (v := (c.capture.map (·.val)).getD 0) (.tail _ (.tail _ (.head _))) hcap
  · rw [fieldOf_packWord a1 (v := c.event.cycle.toNat) (by simp), fieldOf, Nat.pow_zero, Nat.div_one]
  · rw [fieldOf, packWord_toNat a0]
    simp
    omega
  · rw [fieldOf, packWord_toNat a1]
    simp
    omega
  · rw [fieldOf, packWord_toNat a1]
    simp
    omega

/-- The fields of the first two words of a listed member. -/
theorem memberWords_fields (m : Member) (f : Features) (d : Nat) :
    let w := packWord [(m.ch.val, 0, 2), (flag f.long, 2, 1), (flag f.clipped, 3, 1), (flag f.gap, 4, 1), (octave f.peak, 8, 4),
      (d, 12, 12), (f.counts, 24, 8)]
    let v := packWord [(f.peak, 0, 16), (f.dur, 16, 12)]
    fieldOf w 5 3 = 0 ∧ fieldOf v 28 4 = 0
      ∧ (f.peak ≤ 32767 → f.dur ≤ 4095 → f.counts ≤ 255 → d ≤ 4095 → 0 < f.peak →
        fieldOf w 0 2 = m.ch.val ∧ w.getLsbD 2 = f.long ∧ w.getLsbD 3 = f.clipped ∧ w.getLsbD 4 = f.gap
        ∧ fieldOf w 8 4 = octave f.peak ∧ fieldOf w 12 12 = d ∧ fieldOf w 24 8 = f.counts ∧ fieldOf v 0 16 = f.peak
        ∧ fieldOf v 16 12 = f.dur) := by
  intro w v
  have aw : Ascending 0 [(m.ch.val, 0, 2), (flag f.long, 2, 1), (flag f.clipped, 3, 1), (flag f.gap, 4, 1), (octave f.peak, 8, 4),
      (d, 12, 12), (f.counts, 24, 8)] := by simp [Ascending]
  have av : Ascending 0 [(f.peak, 0, 16), (f.dur, 16, 12)] := by simp [Ascending]
  refine ⟨?_, ?_, fun hp hdur hc hd h0 => ⟨?_, getLsbD_packWord aw (by simp), getLsbD_packWord aw (by simp),
    getLsbD_packWord aw (by simp), ?_, ?_, ?_, ?_, ?_⟩⟩
  · rw [fieldOf, packWord_toNat aw]
    have hl := flag_lt f.long
    have hc := flag_lt f.clipped
    have hg := flag_lt f.gap
    simp
    omega
  · rw [fieldOf, packWord_toNat av]
    simp
    omega
  · exact fieldOf_packWord_of_lt aw (v := m.ch.val) (by simp) m.ch.isLt
  · exact fieldOf_packWord_of_lt aw (v := octave f.peak) (by simp) (octave_lt h0 hp)
  · exact fieldOf_packWord_of_lt aw (v := d) (by simp) (by omega)
  · exact fieldOf_packWord_of_lt aw (v := f.counts) (by simp) (by omega)
  · exact fieldOf_packWord_of_lt av (v := f.peak) (by simp) (by omega)
  · exact fieldOf_packWord_of_lt av (v := f.dur) (by simp) (by omega)

/-! ## The other records -/

theorem packWord_halves (x y : Nat) :
    packWord [(x, 0, 16), (y, 16, 16)] = BitVec.ofNat 32 (x % 65536 + 65536 * (y % 65536)) :=
  packWord_eq_ofNat (by simp [Ascending]) (by simp; omega)

@[simp] theorem ZoneState.code_mod (x : ZoneState) : x.code % 8 = x.code := by cases x <;> rfl

@[simp] theorem Cause.code_mod (x : Cause) : x.code % 8 = x.code := by cases x <;> rfl

theorem captureRecord_ends (c : Fin 4) (e : Capture) :
    (e.frames = [] → (captureRecord c e).body[1]? = some 0)
      ∧ ∀ f mid l, (e.frames = f :: (mid ++ [l]) ∨ (e.frames = [f] ∧ mid = [] ∧ l = f)) →
        (captureRecord c e).body[1]? = some (BitVec.ofNat 32 (f.1.toNat + 65536 * l.1.toNat)) := by
  have hbody : (captureRecord c e).body[1]? = some (packWord [((frameEnds e.frames).1, 0, 16), ((frameEnds e.frames).2, 16, 16)]) := rfl
  rw [hbody]
  refine ⟨fun h => by rw [h]; rfl, fun f mid l h => ?_⟩
  have hends : frameEnds e.frames = (f.1.toNat, l.1.toNat) := by
    rcases h with h | ⟨h, -, rfl⟩
    · simp [frameEnds, h, List.getLast?_cons]
    · simp [frameEnds, h]
  rw [hends, packWord_halves, Nat.mod_eq_of_lt f.1.isLt, Nat.mod_eq_of_lt l.1.isLt]

theorem mouldRecord_high (s : State) (j : Fin 4) : (s.mouldRecord.body[2 + j.val]?).getD 0 = mouldHighWord s.zone j := by
  fin_cases j <;> rfl

theorem mouldRecord_zone (s : State) (z : Fin 24) : (s.mouldRecord.body[6 + z.val]?).getD 0 = mouldZoneWord (s.zone.record? z) := by
  have hz : ((List.range 24).map fun z => mouldZoneWord (s.zone.record? z))[z.val]? = some (mouldZoneWord (s.zone.record? z)) := by
    simp
  unfold State.mouldRecord
  rw [List.getElem?_append_right (by simp), ← Option.getD_some (a := mouldZoneWord _) (b := 0), ← hz]
  simp

theorem ascending_mouldHighWord (t : ZoneTable) (j : Nat) :
    Ascending 0 ((List.range 6).map (fun k => (((t.record? (6 * j + k)).map (·.totalHits)).getD 0 / 2048, 5 * k, 5))
      ++ [(t.mouldType / 2 ^ (6 - 2 * j), 30, 2)]) := by simp [List.range_succ, Ascending]

theorem mouldHighWord_type (t : ZoneTable) (j : Fin 4) :
    fieldOf (mouldHighWord t j) 30 2 = t.mouldType / 4 ^ (3 - j.val) % 4 := by
  have hpow : 2 ^ (6 - 2 * j.val) = 4 ^ (3 - j.val) := by
    rw [show 6 - 2 * j.val = 2 * (3 - j.val) by omega, Nat.pow_mul]
  rw [mouldHighWord, fieldOf_packWord (ascending_mouldHighWord t j) (v := t.mouldType / 2 ^ (6 - 2 * j.val)) (by simp), hpow]
  rfl

theorem mouldHighWord_zone (t : ZoneTable) (z : Nat) :
    fieldOf (mouldHighWord t (z / 6)) (5 * (z % 6)) 5 = ((t.record? z).map (·.totalHits)).getD 0 / 2048 % 32 := by
  have hz : 6 * (z / 6) + z % 6 = z := Nat.div_add_mod z 6
  have hk : z % 6 < 6 := Nat.mod_lt _ (by decide)
  have hm := fieldOf_packWord (ascending_mouldHighWord t (z / 6))
    (List.mem_append_left _ (List.mem_map.2 ⟨z % 6, List.mem_range.2 hk, rfl⟩))
  rwa [hz] at hm

theorem mouldZoneWord_some (r : ZoneRecord) : mouldZoneWord (some r) = BitVec.ofNat 32 (r.state.code + 8 * (r.score % 1024)
    + 8192 * (r.streak % 256) + 2097152 * (r.totalHits % 2048)) :=
  packWord_eq_ofNat (by simp [Ascending]) (by simp; omega)

/-- Settles O38: each record's words are its fields at their places. -/
theorem recordLayouts : Obligations.RecordLayouts := by
  refine ⟨?_, fun e => ⟨rfl, rfl, ?_, ?_⟩, ?_,
    fun z old new score streak n k => ⟨rfl, rfl, rfl, ?_⟩, fun z x k => ⟨rfl, rfl, rfl, ?_⟩, fun s => ⟨rfl, rfl, rfl, rfl, rfl, rfl,
      fun j => ?_, fun z => ⟨fun hz => ?_, fun x hx => ?_⟩⟩⟩
  · intro c ms r w
    have hms : ms = listed c.event.members := by
      refine List.filterMap_congr fun m _ => ?_
      unfold Member.features?
      cases m.state <;> rfl
    have hw : w = fun i => ((eventRecord c).body[i]?).getD 0 := rfl
    have hr : r = eventRecord c := rfl
    clear_value w r ms
    subst hms hw hr
    obtain ⟨hf, hfs⟩ := eventRecord_flags c
    obtain ⟨h0, h1, h2, h3, h4⟩ := eventRecord_head c _ rfl
    have hmember {i : Nat} {m : Member} {f : Features} (h : (listed c.event.members)[i]? = some (m, f)) := eventRecord_member c h
    refine ⟨rfl, rfl, eventRecord_length c, rfl, h0, h1, rfl, h2, h3, h4, hf, fun i hi => ?_, ?_⟩
    · obtain ⟨⟨m, f⟩, hi⟩ : ∃ x, (listed c.event.members)[i]? = some x := ⟨_, List.getElem?_eq_getElem hi⟩
      obtain ⟨ha, hb, -⟩ := hmember hi
      obtain ⟨h5, h28, -⟩ := memberWords_fields m f (m.arrival - c.event.t1)
      simp only [ha, hb, Option.getD_some]
      exact ⟨h5, h28⟩
    · obtain ⟨f0, f1, f2, f3, f4, f5, f6, f7⟩ := hfs
      refine ⟨f0, f1, f2, f3, f4, f5, f6, f7, fun i m f hi hp hd hc ha h0 => ?_⟩
      obtain ⟨w3, w4, w5⟩ := hmember hi
      obtain ⟨-, -, hfields⟩ := memberWords_fields m f (m.arrival - c.event.t1)
      obtain ⟨g1, g2, g3, g4, g5, g6, g7, g8, g9⟩ := hfields hp hd hc ha h0
      simp only [w3, w4, w5, Option.getD_some]
      exact ⟨g1, g2, g3, g4, g5, g6, g7, g8, g9, trivial⟩
  · show flag e.blind + 2 * flag e.summary.run.vibOff = _
    cases e.blind <;> cases e.summary.run.vibOff <;> rfl
  · have hcause : packWord [(e.summary.cause.code, 0, 3), (e.changed, 8, 5)]
        = BitVec.ofNat 32 (e.summary.cause.code + 256 * (e.changed % 32)) :=
      packWord_eq_ofNat (by simp [Ascending]) (by simp; omega)
    have hbody : (cycleRecord e).body = [e.summary.run.cycle, packWord [(e.summary.cause.code, 0, 3), (e.changed, 8, 5)],
        BitVec.ofNat 32 e.summary.duration] ++ classWords e.account.analysed
        ++ [packWord [(e.account.lostListen, 0, 16), (e.account.strays, 16, 16)]] ++ classWords e.account.events
        ++ [packWord [(e.account.late, 0, 16), (e.account.orphans, 16, 16)],
          packWord [(periodField e.summary.run.minPeriod, 0, 16), (periodField e.summary.run.maxPeriod, 16, 16)]] := rfl
    rw [hbody, hcause]
    simp only [classWords, packWord_halves]
    cases e.summary.cause <;> cases e.summary.run.minPeriod <;> cases e.summary.run.maxPeriod <;> rfl
  · intro c e r id
    have hid (i : Nat) : ((e.triggers[i]?).map (·.toNat)).getD 0 % 65536 = id i := by
      simp only [id]
      cases e.triggers[i]? with
      | none => rfl
      | some x => exact Nat.mod_eq_of_lt x.isLt
    have hpair (i j : Nat) : packWord [(((e.triggers[i]?).map (·.toNat)).getD 0, 0, 16), (((e.triggers[j]?).map (·.toNat)).getD 0, 16, 16)]
        = BitVec.ofNat 32 (id i + 65536 * id j) := by rw [packWord_halves, hid, hid]
    exact ⟨rfl, rfl, rfl, rfl, congrArg some (packWord_eq_ofNat (by simp [Ascending]) (by simp; omega)),
      (captureRecord_ends c e).1, (captureRecord_ends c e).2, rfl, congrArg some (hpair 0 1), congrArg some (hpair 2 3)⟩
  · refine congrArg₂ (fun x y => [x, y, n]) ?_ (packWord_eq_ofNat (by simp [Ascending]) (by simp))
    refine packWord_eq_ofNat (by simp [Ascending]) ?_
    cases old <;> cases new <;> simp [ZoneState.code] <;> omega
  · have h0 : packWord [(z, 0, 5), (x.state.code, 8, 3), (x.streak, 16, 8)]
        = BitVec.ofNat 32 (z % 32 + 256 * x.state.code + 65536 * (x.streak % 256)) :=
      packWord_eq_ofNat (by simp [Ascending]) (by simp; omega)
    have h1 : packWord [(x.score, 0, 10), (x.hitsCycle, 16, 8)]
        = BitVec.ofNat 32 (x.score % 1024 + 65536 * (x.hitsCycle % 256)) :=
      packWord_eq_ofNat (by simp [Ascending]) (by simp; omega)
    have h4 : packWord [(x.peakOctave.getD 0, 0, 4)] = BitVec.ofNat 32 (x.peakOctave.getD 0 % 16) :=
      packWord_eq_ofNat (by simp [Ascending]) (by simp)
    have hbody : (zoneDetailRecord z x k).body = [packWord [(z, 0, 5), (x.state.code, 8, 3), (x.streak, 16, 8)],
        packWord [(x.score, 0, 10), (x.hitsCycle, 16, 8)], packWord [(x.totalHits, 0, 16), (x.maskedHits, 16, 16)],
        x.lastHit.getD 0, packWord [(x.peakOctave.getD 0, 0, 4)]] := rfl
    rw [hbody, h0, h1, packWord_halves, h4]
    cases x.state <;> cases x.lastHit <;> cases x.peakOctave <;> rfl
  · show fieldOf ((s.mouldRecord.body[2 + j.val]?).getD 0) 30 2 = _
    rw [mouldRecord_high, mouldHighWord_type]
  · have hj : z.val / 6 < 4 := by omega
    have hhigh := mouldRecord_high s ⟨z.val / 6, hj⟩
    refine ⟨?_, ?_⟩
    · show fieldOf ((s.mouldRecord.body[2 + z.val / 6]?).getD 0) _ 5 = 0
      rw [hhigh, mouldHighWord_zone, hz]
      rfl
    · show (s.mouldRecord.body[6 + z.val]?).getD 0 = 7
      rw [mouldRecord_zone, hz]
      rfl
  · have hj : z.val / 6 < 4 := by omega
    have hhigh := mouldRecord_high s ⟨z.val / 6, hj⟩
    refine ⟨?_, ?_⟩
    · show fieldOf ((s.mouldRecord.body[2 + z.val / 6]?).getD 0) _ 5 = _
      rw [hhigh, mouldHighWord_zone, hx]
      rfl
    · show (s.mouldRecord.body[6 + z.val]?).getD 0 = _
      rw [mouldRecord_zone, hx, mouldZoneWord_some]
      cases x.state <;> rfl

end Sys2Proof.Machine
end

section
/-! PROOFS. Location and weight of an event (R90 to R94, R69), and its evidence in the Zone Table (R101, R102). -/

namespace Sys2Proof.Machine

/-! ## Location order (R90) -/

/-- Location order: by arrival, ties by channel. -/
def Member.Le (m n : Member) : Prop := m.arrival < n.arrival ∨ (m.arrival = n.arrival ∧ m.ch ≤ n.ch)

theorem Member.before_iff {m n : Member} : m.before n = true ↔ m.Le n := by simp [Member.before, Member.Le]

theorem Member.Le.trans {m n o : Member} (h : m.Le n) (h' : n.Le o) : m.Le o := by
  unfold Member.Le at *
  omega

theorem Member.le_of_not_le {m n : Member} (h : ¬ m.Le n) : n.Le m := by
  unfold Member.Le at *
  omega

theorem insertMember_perm (m : Member) (l : List Member) : (insertMember m l).Perm (m :: l) := by
  induction l with
  | nil => exact .refl _
  | cons n l ih =>
    unfold insertMember
    split
    · exact .refl _
    · exact (ih.cons n).trans (.swap m n l)

theorem insertMember_pairwise {m : Member} {l : List Member} (h : l.Pairwise Member.Le) : (insertMember m l).Pairwise Member.Le := by
  induction l with
  | nil => exact List.pairwise_singleton _ _
  | cons n l ih =>
    obtain ⟨hn, hl⟩ := List.pairwise_cons.1 h
    unfold insertMember
    split
    · next hb =>
      have hmn := Member.before_iff.1 hb
      refine List.pairwise_cons.2 ⟨fun x hx => ?_, h⟩
      rcases List.mem_cons.1 hx with rfl | hx
      · exact hmn
      · exact hmn.trans (hn x hx)
    · next hb =>
      have hnm : n.Le m := Member.le_of_not_le fun hle => hb (Member.before_iff.2 hle)
      refine List.pairwise_cons.2 ⟨fun x hx => ?_, ih hl⟩
      rcases List.mem_cons.1 ((insertMember_perm m l).mem_iff.1 hx) with rfl | hx
      · exact hnm
      · exact hn x hx

theorem locationOrder_perm (ms : List Member) : (locationOrder ms).Perm ms := by
  induction ms with
  | nil => exact .refl _
  | cons m ms ih => exact (insertMember_perm m _).trans (ih.cons m)

theorem locationOrder_pairwise (ms : List Member) : (locationOrder ms).Pairwise Member.Le := by
  induction ms with
  | nil => exact .nil
  | cons m ms ih => exact insertMember_pairwise ih

/-! ## The rows of the location table (R90 to R92) -/

/-- The zone that entry `i` of a profile's location table gives. -/
def Profile.entryZone (p : Profile) (i : Nat) : Option Nat :=
  if ((p.table.toList[i]?).getD 0).toNat < p.zoneCount then some ((p.table.toList[i]?).getD 0).toNat else none

theorem locate_of_lookup {p : Profile} {ms : List Member} {i : Nat} (h : lookup p ms = some (vget p.table i 0).toNat) :
    locate p ms = p.entryZone i := by
  have hv : vget p.table i 0 = (p.table.toList[i]?).getD 0 := by rw [Vector.getElem?_toList, vget]
  rw [locate, h, hv]
  rfl

theorem entryIndex_single (c : Nat) : entryIndex (12 + c) 0 = 192 + c := by simp [entryIndex]

theorem entryIndex_pair {row bucket : Nat} (h : row < 12) : entryIndex row bucket = 16 * row + bucket := by simp [entryIndex, h]

theorem pairRow_lt (c d : Fin 4) : pairRow c.val d.val < 12 := by
  unfold pairRow
  split <;> omega

/-! ## Octave and weight (R69, R94) -/

theorem weightOf_zero {e : EventSettings} {k : Cls} {oct : Nat} {zero : Bool} (h : k = .u ∨ zero = true) :
    weightOf e k oct zero = 0 := by
  rcases h with rfl | rfl <;> simp [weightOf]

theorem weightOf_of_class {e : EventSettings} {k : Cls} {oct : Nat} {zero : Bool} (hk : k ≠ .u) (hz : zero = false) :
    weightOf e k oct zero = min 63 (e.gain k + e.slope * (oct - e.octFloor)) := by simp [weightOf, hk, hz]

theorem weightOf_le (e : EventSettings) (k : Cls) (oct : Nat) (zero : Bool) : weightOf e k oct zero ≤ 63 := by
  unfold weightOf
  split
  · exact Nat.zero_le _
  · exact Nat.min_le_left _ _

/-- The largest peak is that of one of the CLOSED members. -/
theorem largestPeak_attained (f : Features) (fs : List Features) :
    ∃ g ∈ f :: fs, largestPeak (f :: fs) = g.peak ∧ ∀ h ∈ f :: fs, h.peak ≤ g.peak := by
  induction fs generalizing f with
  | nil => exact ⟨f, List.mem_cons_self .., by simp [largestPeak], by simp⟩
  | cons f' fs ih =>
    obtain ⟨g, hg, hpeak, hmax⟩ := ih f'
    have hstep : largestPeak (f :: f' :: fs) = max f.peak (largestPeak (f' :: fs)) := rfl
    rcases Nat.le_total f.peak g.peak with hle | hle
    · refine ⟨g, List.mem_cons_of_mem _ hg, by rw [hstep, hpeak, max_eq_right hle], fun h hh => ?_⟩
      rcases List.mem_cons.1 hh with rfl | hh
      · exact hle
      · exact hmax h hh
    · refine ⟨f, List.mem_cons_self .., by rw [hstep, hpeak, max_eq_left hle], fun h hh => ?_⟩
      rcases List.mem_cons.1 hh with rfl | hh
      · exact Nat.le_refl _
      · exact (hmax h hh).trans hle

/-- Settles O35: location order is a sorted permutation, and location and weight follow the rows and the largest peak. -/
theorem eventsAreLocatedAndWeighed : Obligations.EventsAreLocatedAndWeighed := by
  refine ⟨⟨fun ms => ⟨locationOrder_perm ms, locationOrder_pairwise ms⟩, fun p => ⟨rfl, fun m => ?_, ?_⟩⟩,
    fun e k oct zero => ⟨weightOf_zero, fun hk hz => ?_, weightOf_le e k oct zero⟩, fun peak hp => ⟨?_, ?_⟩, fun f fs free => ?_⟩
  · exact locate_of_lookup (congrArg (fun i => some (vget p.table i 0).toNat) (entryIndex_single m.ch.val))
  · intro m n rest row _
    have hrow : pairRow m.ch.val n.ch.val = row := rfl
    exact locate_of_lookup (congrArg (fun i => some (vget p.table i 0).toNat) (hrow ▸ entryIndex_pair (pairRow_lt _ _)))
  · have hoct : (if e.octFloor ≤ oct then oct - e.octFloor else 0) = oct - e.octFloor := by
      split
      · rfl
      · omega
    rw [hoct, weightOf_of_class hk hz]
    cases k <;> rfl
  · exact Nat.log2_self_le hp.ne'
  · exact Nat.lt_log2_self
  · obtain ⟨g, hg, hpeak, hmax⟩ := largestPeak_attained f fs
    exact ⟨g, hg, congrArg octave hpeak, hmax⟩

/-! ## Outgoing cycles (R101) -/

/-- The number of cycle numbers: 0 is not one of them. -/
def cycleCount : Nat := 2 ^ 32 - 1

/-- Cycle number `i` counted forward from `f`. -/
def countFrom (f : Word) (i : Nat) : Word := (List.range i).foldl (fun x _ => if x = 0xFFFFFFFF then 1 else x + 1) f

theorem countFrom_succ (f : Word) (i : Nat) : countFrom f (i + 1) = nextCycle (countFrom f i) := by
  simp [countFrom, List.range_succ, nextCycle]

theorem nextCycle_toNat {x : Word} : (nextCycle x).toNat = if x.toNat = 2 ^ 32 - 1 then 1 else x.toNat + 1 := by
  unfold nextCycle
  split
  · next h => subst h; rfl
  · next h =>
    have hx : x.toNat ≠ 2 ^ 32 - 1 := fun he => h (BitVec.eq_of_toNat_eq he)
    rw [if_neg hx, BitVec.toNat_add]
    have := x.isLt
    exact Nat.mod_eq_of_lt (show x.toNat + 1 < 2 ^ 32 by omega)

theorem countFrom_toNat {f : Word} (hf : f ≠ 0) (i : Nat) : (countFrom f i).toNat = (f.toNat - 1 + i) % cycleCount + 1 := by
  have hpos : f.toNat ≠ 0 := fun h => hf (BitVec.eq_of_toNat_eq h)
  have hlt := f.isLt
  unfold cycleCount
  induction i with
  | zero =>
    show f.toNat = _
    omega
  | succ i ih =>
    rw [countFrom_succ, nextCycle_toNat, ih]
    split <;> omega

/-- Counting forward from `f` reaches `n` after its distance, and every full round later. -/
theorem countFrom_eq_iff {f n : Word} (hf : f ≠ 0) (hn : n ≠ 0) (i : Nat) :
    countFrom f i = n ↔ i % cycleCount = cycleDistance f n := by
  have hf0 : f.toNat ≠ 0 := fun h => hf (BitVec.eq_of_toNat_eq h)
  have hn0 : n.toNat ≠ 0 := fun h => hn (BitVec.eq_of_toNat_eq h)
  have hflt := f.isLt
  have hnlt := n.isLt
  rw [← BitVec.toNat_inj, countFrom_toNat hf]
  unfold cycleDistance cycleCount
  omega

theorem cycleDistance_lt (f n : Word) : cycleDistance f n < cycleCount := Nat.mod_lt _ (by decide)

theorem cycleDistance_lt_iff {f g n : Word} (hf : f ≠ 0) (hg : g ≠ 0) (hn : n ≠ 0) :
    cycleDistance f g < cycleDistance f n ↔ ∃ j, countFrom f j = g ∧ ∀ i ≤ j, countFrom f i ≠ n := by
  have hglt := cycleDistance_lt f g
  have hnlt := cycleDistance_lt f n
  constructor
  · intro h
    refine ⟨cycleDistance f g, (countFrom_eq_iff hf hg _).2 (Nat.mod_eq_of_lt hglt), fun i hi he => ?_⟩
    rw [countFrom_eq_iff hf hn, Nat.mod_eq_of_lt (by omega)] at he
    omega
  · rintro ⟨j, hj, hno⟩
    rw [countFrom_eq_iff hf hg] at hj
    by_contra hle
    have hdj : cycleDistance f n ≤ j := by
      have := Nat.mod_le j cycleCount
      omega
    exact hno _ hdj ((countFrom_eq_iff hf hn _).2 (Nat.mod_eq_of_lt hnlt))

theorem State.outgoing_iff {s : State} {n : Word} :
    s.outgoing n = true ↔ n = 0 ∨ s.zone.started = false
      ∨ cycleDistance s.zone.firstCycle s.gate.cycle < cycleDistance s.zone.firstCycle n := by
  simp [State.outgoing, or_assoc]

/-! ## Evidence (R101, R102) -/

theorem State.receiveEvent_unchanged {s : State} {zone : Option Nat} {w : Nat} {n : Word} {oct : Nat} {abandoned : Bool}
    (h : s.outgoing n = true ∨ abandoned = true ∨ w = 0 ∨ zone.bind s.zone.record? = none) :
    s.receiveEvent zone w n oct abandoned = s := by
  unfold State.receiveEvent
  split
  · rfl
  · next hno =>
    simp only [Bool.or_eq_true, beq_iff_eq, not_or] at hno
    have hnone : zone.bind s.zone.record? = none := by
      rcases h with h | h | h | h
      · exact absurd h hno.1.1
      · exact absurd h hno.1.2
      · exact absurd h hno.2
      · exact h
    cases zone with
    | none => rfl
    | some z => simp [show s.zone.record? z = none from hnone]

theorem State.receiveEvent_some {s : State} {z : Nat} {r : ZoneRecord} {w : Nat} {n : Word} {oct : Nat} {abandoned : Bool}
    (hr : s.zone.record? z = some r) (hout : s.outgoing n = false) (ha : abandoned = false) (hw : 0 < w) :
    s.receiveEvent (some z) w n oct abandoned
      = s.putZone z (if r.state = .masked then r.creditMasked else r.credit w n oct) := by
  have hw' : (w == 0) = false := by simpa using hw.ne'
  simp [State.receiveEvent, hout, ha, hw', hr]

theorem State.answersMasked_iff {s : State} {zone : Option Nat} {n : Word} : s.answersMasked zone n = true ↔
    s.outgoing n = false ∧ ∃ z r, zone = some z ∧ s.zone.record? z = some r ∧ r.state = .masked := by
  unfold State.answersMasked
  cases zone with
  | none => simp
  | some z => cases hr : s.zone.record? z <;> simp [hr]

/-- Settles O39: the distance test of the model is the counting of R101, and evidence is one record put back. -/
theorem evidenceReachesTheZone : Obligations.EvidenceReachesTheZone := by
  refine ⟨?_, fun s => State.outgoing_iff.2 (.inl rfl), fun s zone w n oct abandoned => ⟨State.answersMasked_iff,
    State.receiveEvent_unchanged, ?_⟩⟩
  · intro s n hf hg hn count
    have hcount : count = countFrom s.zone.firstCycle := rfl
    clear_value count
    subst hcount
    rw [State.outgoing_iff, cycleDistance_lt_iff hf hg hn, or_iff_right hn]
  · rintro z r rfl hr hout ha hw
    rw [State.receiveEvent_some hr hout ha hw]
    have hz := ZoneTable.lt_of_record? hr
    refine ⟨rfl, fun y hy => ?_, fun hm => ?_, fun hm => ?_⟩
    · exact (ZoneTable.record?_put _ _ _ _).trans (if_neg fun h => hy h.2)
    · rw [if_pos hm]
      exact (ZoneTable.record?_put _ _ _ _).trans (if_pos ⟨hz, rfl⟩)
    · rw [if_neg hm]
      refine ((ZoneTable.record?_put _ _ _ _).trans (if_pos ⟨hz, rfl⟩)).trans ?_
      cases ho : r.peakOctave <;> simp [ZoneRecord.credit, ho, satInc, scoreTop, max_comm]

end Sys2Proof.Machine
end

section
/-! PROOFS. One channel's work at a sample set, frame thresholds and floors in integers (R60 to R68, R75, R76). -/

namespace Sys2Proof.Machine

/-! ## The rectified value and the envelope (R60, R61) -/

theorem rectify_eq (x : BitVec 16) : rectify x = if x.toInt = -32768 then 32767 else x.toInt.natAbs := by
  have hlo := BitVec.le_toInt x
  have hhi := BitVec.toInt_lt (x := x)
  unfold rectify
  split <;> omega

theorem clippedSample_eq (x : BitVec 16) : clippedSample x = (x.toInt = 32767 || x.toInt = -32768 : Bool) := by
  have hmax : x.toInt = 32767 ↔ x = 0x7FFF#16 := ⟨fun h => BitVec.eq_of_toInt_eq h, fun h => h ▸ rfl⟩
  have hmin : x.toInt = -32768 ↔ x = 0x8000#16 := ⟨fun h => BitVec.eq_of_toInt_eq h, fun h => h ▸ rfl⟩
  simp only [clippedSample, beq_eq_decide, hmax, hmin]

theorem envelopeStep_eq (e a k : Nat) : envelopeStep e a k = ((e : Int) + Int.fdiv ((a : Int) - e) (2 ^ k)).toNat := by
  rw [envelopeStep, Int.fdiv_eq_ediv_of_nonneg _ (by positivity)]

theorem energyTerm_eq (a : Nat) : energyTerm a = a / 64 * (a / 64) := Nat.pow_two _

/-! ## The steps of the state machine (R63 to R68) -/

theorem ChanState.step_idle_starts {d : DetSettings} {th p a e prev : Nat} {clip : Bool} {seq : Half} {k : Cls} {n : Word}
    (h : th ≤ e) (h' : e ≤ a) : ChanState.step d .idle th p a e prev clip seq k n
      = (.active th ⟨p, seq, k, n, a, 1, a / 64 * (a / 64), p, a / 64 * (a / 64), 0, clip⟩, .started) := by
  simp [ChanState.step, h, h', HitRecord.start, energyTerm_eq]

theorem ChanState.step_idle_quiet {d : DetSettings} {th p a e prev : Nat} {clip : Bool} {seq : Half} {k : Cls} {n : Word}
    (h : e < th ∨ a < e) : ChanState.step d .idle th p a e prev clip seq k n = (.idle, .quiet) := by
  have hno : ¬ (th ≤ e ∧ e ≤ a) := by omega
  simp [ChanState.step, hno]

/-- The hit record after a sample set (R64). -/
theorem HitRecord.update_eq (h : HitRecord) (t p a e prev : Nat) (clip : Bool) : h.update t p a e prev clip = { h with
    peak := max h.peak a
    counts := if t ≤ a ∧ prev < t then min 255 (h.counts + 1) else h.counts
    energy := min 0xFFFFFFFF (h.energy + a / 64 * (a / 64))
    lastAbove := if t ≤ e then p else h.lastAbove
    energyAtLast := if t ≤ e then min 0xFFFFFFFF (h.energy + a / 64 * (a / 64)) else h.energyAtLast
    belowRun := if t ≤ e then 0 else h.belowRun + 1
    clipped := h.clipped || clip } := by
  unfold HitRecord.update
  by_cases he : t ≤ e <;> simp [he, energyTerm_eq, energyTop, satInc]

theorem ChanState.step_active {d : DetSettings} {t : Nat} {h g : HitRecord} {th p a e prev : Nat} {clip : Bool} {seq : Half}
    {k : Cls} {n : Word} (hg : h.update t p a e prev clip = g) (harr : g.arrival = h.arrival) :
    ChanState.step d (.active t h) th p a e prev clip seq k n = (.active t g,
      if d.hdt ≤ g.belowRun then .due .hitEnd else if h.arrival + d.dMax - 1 ≤ p then .due .longHit else .quiet) := by
  simp [ChanState.step, hg, harr]

theorem Channel.step_eq {d : DetSettings} {ch : Channel} {p : Nat} {x : BitVec 16} {seq : Half} {k : Cls} {n : Word} {a e : Nat}
    {clip : Bool} (ha : rectify x = a) (he : envelopeStep ch.env a d.kEnv = e) (hc : clippedSample x = clip) :
    ch.step d p x seq k n =
      ({ ch with
          state := (ch.state.step d ch.frameTh p a e ch.prev clip seq k n).1
          env := e
          prev := a
          quiet := ch.quiet && (ch.state.step d ch.frameTh p a e ch.prev clip seq k n).2 != .started
          minEnv := min ch.minEnv e }, (ch.state.step d ch.frameTh p a e ch.prev clip seq k n).2) := by
  subst ha he hc
  rfl

/-! ## Floors (R62, R75, R76) -/

theorem PerClass.get_mod_same {α : Type} (p : PerClass α) (k : Cls) (f : α → α) : (p.mod k f).get k = f (p.get k) := by
  cases k <;> rfl

theorem PerClass.get_mod_other {α : Type} (p : PerClass α) {j k : Cls} (f : α → α) (h : j ≠ k) :
    (p.mod k f).get j = p.get j := by
  cases j <;> cases k <;> simp_all [PerClass.get, PerClass.mod]

theorem Channel.endFrame_quiet {ch : Channel} (h : ch.quiet = true) (d : DetSettings) (k : Cls) :
    ch.endFrame d k = { ch with floors := ch.floors.mod k fun n => floorStep d.kUp n ch.minEnv } := by
  simp [Channel.endFrame, h]

theorem Channel.endFrame_busy {ch : Channel} (h : ch.quiet = false) (d : DetSettings) (k : Cls) : ch.endFrame d k = ch := by
  simp [Channel.endFrame, h]

/-- Settles O30: one channel's step by its state, and its threshold and floor by the integer rules. -/
theorem channelStepAndFloorArithmetic : Obligations.ChannelStepAndFloorArithmetic := by
  refine ⟨fun d ch p x seq k n => ?_, fun d k ch => ?_⟩
  · intro a clip e r q
    have ha : rectify x = a := rectify_eq x
    have hclip : clippedSample x = clip := clippedSample_eq x
    have he : envelopeStep ch.env a d.kEnv = e := envelopeStep_eq _ _ _
    have hr : r = _ := Channel.step_eq ha he hclip
    have hq : q = a / 64 * (a / 64) := rfl
    clear_value a clip e q r
    subst hr hq
    refine ⟨⟨rfl, rfl, rfl, rfl, rfl⟩, fun hst => ⟨fun h1 h2 => ?_, fun h => ?_⟩, fun t h hst => ?_, fun t run hst => ?_,
      fun c hst => ?_⟩
    · rw [hst, ChanState.step_idle_starts h1 h2]
      simp
    · rw [hst, ChanState.step_idle_quiet h]
      simp
    · intro energy g
      have hg : h.update t p a e ch.prev clip = g := HitRecord.update_eq _ _ _ _ _ _ _
      rw [hst, ChanState.step_active hg rfl]
      refine ⟨rfl, fun h1 => if_pos h1, fun h1 h2 => ?_, fun h1 h2 => ?_⟩
      · exact (if_neg (Nat.not_le_of_lt h1)).trans (if_pos h2)
      · exact (if_neg (Nat.not_le_of_lt h1)).trans (if_neg (Nat.not_le_of_lt h2))
    · intro run1
      rw [hst]
      exact ⟨rfl, fun h1 => if_pos h1, fun h1 => if_neg (Nat.not_le_of_lt h1)⟩
    · rw [hst]
      exact ⟨rfl, fun h1 => if_pos (by omega), fun h1 => if_neg (by omega)⟩
  · intro n th fallen risen
    refine ⟨?_, fun h => Channel.endFrame_busy h d k, fun h => ⟨_, Channel.endFrame_quiet h d k,
      fun j hj => PerClass.get_mod_other _ _ hj, fun hlt => ?_, fun hle => ?_⟩⟩
    · have hth : frameThreshold d n = if 32767 < th then 32767 else th := by
        unfold frameThreshold ladder
        split <;> omega
      have hquiet : (ch.state == .idle) = decide (ch.state = .idle) := beq_eq_decide _ _
      rw [← hth, ← hquiet]
      rfl
    · have hdiv : (ch.minEnv - n) / 2 ^ d.kUp ≤ ch.minEnv - n := Nat.div_le_self _ _
      exact ⟨(PerClass.get_mod_same _ _ _).trans (if_pos hlt), Nat.le_add_right _ _, by omega⟩
    · exact ⟨(PerClass.get_mod_same _ _ _).trans (if_neg (Nat.not_lt_of_le hle)), by omega, Nat.sub_le _ _⟩

end Sys2Proof.Machine
end

section
/-! PROOFS. The three places at which a cycle end is handed over (R31, R49, R53). -/

namespace Sys2Proof.Machine

theorem AQEntry.carries_iff {n : Word} {e : AQEntry} : e.carries n = true ↔ ∃ f, e = .frame f ∧ f.tag.cycle = n := by
  cases e with
  | frame f => simp [AQEntry.carries]
  | marker m => simp [AQEntry.carries]

theorem any_carries_eq_false {n : Word} {l : List AQEntry} (h : ∀ e ∈ l, ¬ ∃ f, e = .frame f ∧ f.tag.cycle = n) :
    l.any (·.carries n) = false := by
  rw [List.any_eq_false]
  exact fun e he hc => h e he (AQEntry.carries_iff.1 hc)

/-- The marker goes directly behind the last entry that carries the cycle. -/
theorem insertMarker_append {n : Word} {e m : AQEntry} {pre post : List AQEntry} (he : e.carries n = true)
    (hpost : post.any (·.carries n) = false) : insertMarker n m (pre ++ e :: post) = pre ++ e :: m :: post := by
  induction pre with
  | nil => simp [insertMarker, he, hpost]
  | cons x pre ih =>
    have hany : (pre ++ e :: post).any (·.carries n) = true := by simp [he]
    rw [List.cons_append, insertMarker, if_pos hany, ih, List.cons_append]

theorem AnalysisQueue.workCarries_iff {q : AnalysisQueue} {n : Word} :
    q.workCarries n = true ↔ ∃ w, q.work = some w ∧ w.frame.tag.cycle = n := by
  unfold AnalysisQueue.workCarries
  cases q.work <;> simp

/-- Settles O28: the queue, then the frame under analysis, then the evaluation due at once. -/
theorem cycleEndIsHandedOver : Obligations.CycleEndIsHandedOver := by
  intro s r cause t hst n m u carries
  have hend : s.endCycle cause t = u.handCycleEnd m := by
    unfold State.endCycle
    rw [hst]
    rfl
  have hn : m.run.cycle = n := rfl
  rw [hend, State.handCycleEnd]
  refine ⟨fun pre f post hq hf hpost => ?_, fun w hno hw hwn => ?_, fun hno hwno => ?_⟩
  · have hcar : (AQEntry.frame f).carries n = true := AQEntry.carries_iff.2 ⟨f, rfl, hf⟩
    have hany : u.aq.entries.any (·.carries n) = true := by
      rw [show u.aq.entries = _ from hq]
      simp [hcar]
    rw [hn, if_pos hany, show u.aq.entries = _ from hq, insertMarker_append hcar (any_carries_eq_false hpost)]
  · have hwork : u.aq.workCarries n = true := AnalysisQueue.workCarries_iff.2 ⟨w, hw, hwn⟩
    rw [hn, if_neg (by rw [any_carries_eq_false hno]; decide), if_pos hwork]
  · have hwork : u.aq.workCarries n = false := by
      rw [Bool.eq_false_iff, Ne, AnalysisQueue.workCarries_iff]
      rintro ⟨w, hw, hwn⟩
      exact hwno w hw hwn
    rw [hn, if_neg (by rw [any_carries_eq_false hno]; decide), if_neg (by rw [hwork]; decide)]

end Sys2Proof.Machine
end

section
/-! PROOFS. What a completion check picks, the end of a frame, and how a frame goes on (R30, R70, R71, R86 to R88). -/

namespace Sys2Proof.Machine

/-! ## The events picked -/

theorem Member.ended_eq (m : Member) : m.ended = (m.state != .running) := by
  unfold Member.ended
  cases m.state <;> rfl

theorem OpenEvent.ready_eq (e : OpenEvent) : e.ready = (!e.collecting && e.members.all fun m => m.state != .running) := by
  have hended : Member.ended = fun m => m.state != .running := funext Member.ended_eq
  rw [OpenEvent.ready, hended]

theorem State.checkBusy_iff {s : State} :
    s.checkBusy = true ↔ s.ev.completion ≠ none ∨ ∃ e ∈ s.ev.openEvents, e.fate ≠ .stays := by
  simp [State.checkBusy, Option.isSome_iff_ne_none]

theorem State.checkBusy_eq_false {s : State} :
    s.checkBusy = false ↔ s.ev.completion = none ∧ ∀ e ∈ s.ev.openEvents, e.fate = .stays := by
  rw [Bool.eq_false_iff, Ne, State.checkBusy_iff]
  simp

theorem EventBuilder.gapPosition_passed {b : EventBuilder} {q : Nat} (h : ∃ e, b.collecting? = some e ∧ e.windowEnd < q) :
    b.gapPosition q = b.stopCollecting := by
  obtain ⟨e, he, hq⟩ := h
  simp [EventBuilder.gapPosition, he, hq]

theorem EventBuilder.gapPosition_open {b : EventBuilder} {q : Nat} (h : ∀ e, b.collecting? = some e → q ≤ e.windowEnd) :
    b.gapPosition q = b := by
  unfold EventBuilder.gapPosition
  cases he : b.collecting? with
  | none => simp
  | some e => simp [h e he]

theorem find?_fate {pre post : List OpenEvent} {e : OpenEvent} {f : Fate} (hpre : ∀ x ∈ pre, x.fate ≠ f) (he : e.fate = f) :
    (pre ++ e :: post).find? (fun x => x.fate == f) = some e := by
  rw [List.find?_eq_some_iff_append]
  exact ⟨by simp [he], pre, post, rfl, fun x hx => by simpa using hpre x hx⟩

theorem find?_fate_none {l : List OpenEvent} {f : Fate} (h : ∀ x ∈ l, x.fate ≠ f) : l.find? (fun x => x.fate == f) = none := by
  rw [List.find?_eq_none]
  exact fun x hx => by simpa using h x hx

theorem EventBuilder.nextDue_completes {b : EventBuilder} {pre post : List OpenEvent} {e : OpenEvent}
    (hb : b.openEvents = pre ++ e :: post) (hpre : ∀ x ∈ pre, x.fate ≠ .completes) (he : e.fate = .completes) :
    b.nextDue = some e := by
  unfold EventBuilder.nextDue
  rw [hb, find?_fate hpre he]

theorem EventBuilder.nextDue_of_no_completes {b : EventBuilder} (h : ∀ x ∈ b.openEvents, x.fate ≠ .completes) :
    b.nextDue = b.openEvents.find? fun e => e.fate == .abandons := by
  unfold EventBuilder.nextDue
  rw [find?_fate_none h]

/-! ## Channels that go to IDLE -/

/-- The completion in progress, the number of open events and the Analysis Queue are kept. -/
structure KeepsEvents (s t : State) : Prop where
  completion : t.ev.completion = s.ev.completion
  events : t.ev.openEvents.length = s.ev.openEvents.length
  queue : t.aq = s.aq

section
variable {s t u : State}

theorem KeepsEvents.trans (h : KeepsEvents s t) (k : KeepsEvents t u) : KeepsEvents s u :=
  ⟨k.completion.trans h.completion, k.events.trans h.events, k.queue.trans h.queue⟩

theorem KeepsEvents.fold {g : State → Fin 4 → State} (h : ∀ s c, KeepsEvents s (g s c)) (l : List (Fin 4)) (s : State) :
    KeepsEvents s (l.foldl g s) := by
  induction l generalizing s with
  | nil => exact ⟨rfl, rfl, rfl⟩
  | cons c l ih => exact (h s c).trans (ih _)

theorem State.setChanState_keepsEvents (s : State) (c : Fin 4) (st : ChanState) : KeepsEvents s (s.setChanState c st) :=
  ⟨rfl, rfl, rfl⟩

theorem State.endMember_keepsEvents (s : State) (c : Fin 4) (st : MemberState) : KeepsEvents s (s.endMember c st) := by
  unfold State.endMember
  split
  · exact ⟨rfl, by simp [EventBuilder.modEvent, EventBuilder.setAssign], rfl⟩
  · exact ⟨rfl, rfl, rfl⟩

theorem State.gapChannel_keepsEvents (s : State) (c : Fin 4) : KeepsEvents s (s.gapChannel c) := by
  unfold State.gapChannel
  split
  · exact (s.setChanState_keepsEvents c _).trans (State.endMember_keepsEvents _ _ _)
  · exact s.setChanState_keepsEvents c _

theorem State.abandonChannel_keepsEvents (s : State) (c : Fin 4) : KeepsEvents s (s.abandonChannel c) := by
  unfold State.abandonChannel
  split
  · exact (s.setChanState_keepsEvents c _).trans (State.endMember_keepsEvents _ _ _)
  · exact s.setChanState_keepsEvents c _

theorem State.abandonAll_keepsEvents (s : State) : KeepsEvents s s.abandonAll := by
  refine (KeepsEvents.fold State.abandonChannel_keepsEvents (List.finRange 4) s).trans ⟨rfl, ?_, rfl⟩
  exact List.length_map _

end

/-! ## The work of a frame -/

section
variable {s : State} {f : QFrame} {ph : Phase}

theorem State.setPhase_eq (h : s.aq.work = some ⟨f, ph⟩) (p : Phase) :
    s.setPhase p = { s with aq := { s.aq with work := some ⟨f, p⟩ } } := by
  simp [State.setPhase, h]

theorem QFrame.skipped_iff {f : QFrame} : f.skipped = true ↔ f.overload = true ∨ f.tag.gates.blank = true := by
  have hcls : f.tag.gates.cls?.isNone = f.tag.gates.blank := by
    unfold Gates.cls?
    split
    · next h => rw [h]; rfl
    · next h => split_ifs <;> simp [h]
  rw [QFrame.skipped, hcls, Bool.or_eq_true]

/-- An abandoned analysis has a completion check in hand exactly when events are open. -/
theorem State.abandonAll_checkBusy (h : s.ev.completion = none) : s.abandonAll.checkBusy = true ↔ s.ev.openEvents ≠ [] := by
  have hk := s.abandonAll_keepsEvents
  have hpicked : ∀ e ∈ s.abandonAll.ev.openEvents, e.fate ≠ .stays := by
    intro e he
    obtain ⟨x, -, rfl⟩ := List.mem_map.1 he
    cases x.ready <;> simp
  rw [State.checkBusy_iff, hk.completion, h, ← List.length_pos_iff, ← hk.events, List.length_pos_iff_exists_mem]
  simp only [ne_eq, not_true_eq_false, false_or]
  exact ⟨fun ⟨e, he, _⟩ => ⟨e, he⟩, fun ⟨e, he⟩ => ⟨e, he, hpicked e he⟩⟩

theorem State.skipOrAnalyse_skips_busy (hw : s.aq.work = some ⟨f, ph⟩) (hc : s.ev.completion = none) (hs : f.skipped = true)
    (ho : s.ev.openEvents ≠ []) :
    s.skipOrAnalyse f = { s.abandonAll with aq := { s.abandonAll.aq with work := some ⟨f, .skip⟩ } } := by
  rw [State.skipOrAnalyse, if_pos hs]
  exact (if_pos ((State.abandonAll_checkBusy hc).2 ho)).trans
    (State.setPhase_eq (by rw [s.abandonAll_keepsEvents.queue]; exact hw) _)

theorem State.skipOrAnalyse_skips (hc : s.ev.completion = none) (hs : f.skipped = true) (ho : s.ev.openEvents = []) :
    s.skipOrAnalyse f = s.abandonAll.endWork := by
  rw [State.skipOrAnalyse, if_pos hs]
  exact if_neg fun h => (State.abandonAll_checkBusy hc).1 h ho

theorem State.resumeFrame_gap (hw : s.aq.work = some ⟨f, .gap⟩) : s.resumeFrame = s.skipOrAnalyse f := by
  unfold State.resumeFrame
  rw [hw]

theorem State.resumeFrame_ends (hw : s.aq.work = some ⟨f, ph⟩) (h : ph = .skip ∨ ph = .check) : s.resumeFrame = s.endWork := by
  unfold State.resumeFrame
  rcases h with rfl | rfl <;> rw [hw]

theorem State.resumeFrame_sets (hw : s.aq.work = some ⟨f, ph⟩) (h : ph.inSets = true) : s.resumeFrame = s := by
  unfold State.resumeFrame
  rw [hw]
  cases ph <;> simp_all [Phase.inSets]

theorem State.afterCompletion_busy (h : s.checkBusy = true) : s.afterCompletion = s := if_pos h

theorem State.afterCompletion_mould {i : Fin 8} {p : Profile} {n : Word} (h : s.checkBusy = false)
    (he : s.cmd.exec = some ⟨i, .mould p n .events⟩) : s.afterCompletion = s.mouldHandRecord p n := by
  simp [State.afterCompletion, h, he]

theorem State.afterCompletion_frame (h : s.checkBusy = false) (he : ∀ i p n, s.cmd.exec ≠ some ⟨i, .mould p n .events⟩) :
    s.afterCompletion = s.resumeFrame := by
  unfold State.afterCompletion
  rw [if_neg (by simp [h])]
  split
  · next i p n hex => exact absurd hex (he i p n)
  · rfl

end

/-! ## The gap step -/

/-- The gap step leaves a check in hand exactly when it picks an event. -/
theorem State.gapStep_checkBusy {s : State} (h : s.ev.completion = none) (m : Nat) :
    (s.gapStep m).checkBusy = true ↔ ∃ e ∈ (s.gapStep m).ev.openEvents, e.fate ≠ .stays := by
  have hk := KeepsEvents.fold State.gapChannel_keepsEvents (List.finRange 4) (s.advance (gapSpan m))
  have hpos (b : EventBuilder) (q : Nat) : (b.gapPosition q).completion = b.completion := by
    unfold EventBuilder.gapPosition
    split <;> rfl
  have hc : (s.gapStep m).ev.completion = none := (hpos _ _).trans (hk.completion.trans h)
  rw [State.checkBusy_iff, hc]
  simp

theorem State.headFrame_eq {s : State} {f : QFrame} {rest : List AQEntry} (hw : s.aq.work = none)
    (hq : s.aq.entries = .frame f :: rest) (ho : s.evalOwed = false) (hb : s.checkBusy = false) (hh : s.analysisHeld = false) :
    s.headFrame = some (f, rest) := by
  simp [State.headFrame, hw, hq, ho, hb, hh]

/-- Settles O37: picks by fate, and the next phase by whether anything was picked. -/
theorem completionChecksPickEvents : Obligations.CompletionChecksPickEvents := by
  refine ⟨fun b => ⟨?_, ?_, fun q h => EventBuilder.gapPosition_passed h, fun q h => EventBuilder.gapPosition_open h,
    fun pre e post hb => ⟨EventBuilder.nextDue_completes hb, fun h hpre he => ?_⟩, fun h => ?_⟩, fun s f ph hw hc => ?_,
    fun s => ⟨fun h => ?_, fun h hc i p n he => ?_⟩, fun s f rest hw hq ho hb hh hm => ?_⟩
  · simp only [EventBuilder.check, OpenEvent.ready_eq]
  · simp only [EventBuilder.settleAll, OpenEvent.ready_eq]
  · rw [EventBuilder.nextDue_of_no_completes h, hb, find?_fate hpre he]
  · have hno (x) (hx : x ∈ b.openEvents) : x.fate ≠ .completes ∧ x.fate ≠ .abandons := by simp [h x hx]
    rw [EventBuilder.nextDue_of_no_completes fun x hx => (hno x hx).1, find?_fate_none fun x hx => (hno x hx).2]
  · intro picked at' k ended skipped
    have hended : s.endFrame f = if ended.checkBusy then ended.setPhase .check else ended.endWork := rfl
    have hbusy : ended.checkBusy = true ↔ picked s.ev.check := by
      rw [State.checkBusy_iff, show ended.ev.completion = none from hc]
      simp [picked, ended]
    refine ⟨fun h => ?_, fun h => ?_, fun h => ⟨fun hne => ?_, fun he => ?_⟩, fun hst hx => ?_⟩
    · rw [hended, if_pos (hbusy.2 h)]
      exact State.setPhase_eq (s := ended) hw _
    · rw [hended, if_neg fun hb => h (hbusy.1 hb)]
      rfl
    · exact State.skipOrAnalyse_skips_busy hw hc (QFrame.skipped_iff.2 h) hne
    · exact State.skipOrAnalyse_skips hc (QFrame.skipped_iff.2 h) he
    · have hafter := State.afterCompletion_frame (State.checkBusy_eq_false.2 ⟨hc, hst⟩) hx
      rw [hafter]
      exact ⟨fun h => State.resumeFrame_gap (h ▸ hw), fun h => State.resumeFrame_ends hw h, fun h => State.resumeFrame_sets hw h⟩
  · exact State.afterCompletion_busy (State.checkBusy_iff.2 (h.symm.imp_right id))
  · exact State.afterCompletion_mould (State.checkBusy_eq_false.2 ⟨hc, h⟩) he
  · intro taken moved closed gap
    have hexec : exec .frameTaken s = .next (s.settle (s.takeFrame f rest)) := by
      simp [exec, execFrameTaken, State.settled, State.headFrame_eq hw hq ho hb hh]
    have hgap : taken.gapStep f.missing = gap := rfl
    have htake : s.takeFrame f rest = if gap.checkBusy then gap else gap.skipOrAnalyse f := by
      rw [State.takeFrame, if_neg hm.ne', ← hgap]
    have hcomp : taken.ev.completion = none := by
      have hs : s.ev.completion = none := (State.checkBusy_eq_false.1 hb).1
      simp only [taken, State.applyPending]
      split <;> exact hs
    have hbusy := State.gapStep_checkBusy hcomp f.missing
    rw [hgap] at hbusy
    refine ⟨fun h => ?_, fun h => ?_⟩
    · rw [hexec, htake, if_pos (hbusy.2 h)]
    · rw [hexec, htake, if_neg fun hb => ?_]
      obtain ⟨e, he, hf⟩ := hbusy.1 hb
      exact hf (h e he)

end Sys2Proof.Machine
end

section
/-! PROOFS. The cycle-end evaluation: its begin, the zones in order, and what goes on after each record (R104 to R111). -/

namespace Sys2Proof.Machine

/-! ## The zones of an evaluation in order -/

/-- The record of a zone that an evaluation has taken and left in its state. -/
def ZoneRecord.evaluated (r : ZoneRecord) (p : Policy) (blind : Bool) : ZoneRecord :=
  if r.state = .masked then r else { r.updated p blind with hitsCycle := 0 }

/-- An evaluation leaves the state of the zones of a list. -/
def State.SteadyOn (s : State) (p : Policy) (blind : Bool) (zs : List Nat) : Prop :=
  ∀ z ∈ zs, ∀ r, s.zone.record? z = some r → r.state ≠ .masked → (r.updated p blind).judged p = r.state

section
variable {s : State} {p : Policy} {blind : Bool} {n : Word} {z : Nat} {r : ZoneRecord}

theorem State.evalZones_cons_absent (h : s.zone.record? z = none) (zs : List Nat) :
    State.evalZones p blind n (z :: zs) s = State.evalZones p blind n zs s := by
  simp [State.evalZones, h]

theorem State.evalZones_cons_masked (h : s.zone.record? z = some r) (hm : r.state = .masked) (zs : List Nat) :
    State.evalZones p blind n (z :: zs) s = State.evalZones p blind n zs s := by
  simp [State.evalZones, h, hm]

theorem State.evalZones_cons_steady (h : s.zone.record? z = some r) (hm : r.state ≠ .masked)
    (hj : (r.updated p blind).judged p = r.state) (zs : List Nat) : State.evalZones p blind n (z :: zs) s
      = State.evalZones p blind n zs (s.putZone z { r.updated p blind with hitsCycle := 0 }) := by
  simp [State.evalZones, h, hm, hj]

theorem State.evalZones_cons_changes (h : s.zone.record? z = some r) (hm : r.state ≠ .masked)
    (hj : (r.updated p blind).judged p ≠ r.state) (zs : List Nat) : State.evalZones p blind n (z :: zs) s
      = (s.putZone z { r.updated p blind with state := (r.updated p blind).judged p }).handOver
          (zoneChangeRecord z r.state ((r.updated p blind).judged p) (r.updated p blind).score (r.updated p blind).streak n
            (.evalZone z (r.state.rank < ((r.updated p blind).judged p).rank))) := by
  simp [State.evalZones, h, hm, hj]

/-- The state with the zone records replaced. -/
def State.withRecords (s : State) (x : Vector (Option ZoneRecord) 24) : State := { s with zone := { s.zone with records := x } }

/-- Zones that stay in their state are brought up to date one by one. -/
theorem State.evalZones_steady (zs rest : List Nat) (hnd : zs.Nodup) (hs : s.SteadyOn p blind zs) :
    ∃ x, State.evalZones p blind n (zs ++ rest) s = State.evalZones p blind n rest (s.withRecords x)
      ∧ ∀ z, (s.withRecords x).zone.record? z
        = if z ∈ zs then (s.zone.record? z).map fun r => r.evaluated p blind else s.zone.record? z := by
  induction zs generalizing s with
  | nil => exact ⟨s.zone.records, rfl, fun z => rfl⟩
  | cons z zs ih =>
    obtain ⟨hz, hnd⟩ := List.nodup_cons.1 hnd
    have hrest : s.SteadyOn p blind zs := fun y hy => hs y (List.mem_cons_of_mem _ hy)
    have hsame (e : s.zone.record? z = (s.zone.record? z).map fun r => r.evaluated p blind) :
        ∃ x, State.evalZones p blind n (zs ++ rest) s = State.evalZones p blind n rest (s.withRecords x)
          ∧ ∀ y, (s.withRecords x).zone.record? y
            = if y ∈ z :: zs then (s.zone.record? y).map fun r => r.evaluated p blind else s.zone.record? y := by
      obtain ⟨x, hx, hrec⟩ := ih hnd hrest
      refine ⟨x, hx, fun y => (hrec y).trans ?_⟩
      by_cases hy : y = z
      · subst hy
        simp [hz, ← e]
      · simp [hy]
    rw [List.cons_append]
    cases hr : s.zone.record? z with
    | none =>
      rw [State.evalZones_cons_absent hr]
      exact hsame (by rw [hr]; rfl)
    | some r =>
      by_cases hm : r.state = .masked
      · rw [State.evalZones_cons_masked hr hm]
        exact hsame (by rw [hr]; simp [ZoneRecord.evaluated, hm])
      · rw [State.evalZones_cons_steady hr hm (hs z (List.mem_cons_self ..) r hr hm)]
        have hput (y : Nat) : (s.putZone z { r.updated p blind with hitsCycle := 0 }).zone.record? y
            = if y = z then some (r.evaluated p blind) else s.zone.record? y := by
          rw [ZoneRecord.evaluated, if_neg hm]
          refine (ZoneTable.record?_put _ _ _ _).trans ?_
          simp [ZoneTable.lt_of_record? hr]
        have hsteady : (s.putZone z { r.updated p blind with hitsCycle := 0 }).SteadyOn p blind zs := by
          intro y hy q hq
          rw [hput, if_neg fun (e : y = z) => hz (e ▸ hy)] at hq
          exact hrest y hy q hq
        obtain ⟨x, hx, hrec⟩ := ih hnd hsteady
        refine ⟨x, hx, fun y => (hrec y).trans ?_⟩
        rw [hput]
        by_cases hy : y = z
        · subst hy
          simp [hz, hr]
        · simp [hy]

/-- An evaluation changes the Zone Table and hands over a record, and nothing else. -/
theorem State.evalZones_form (p : Policy) (blind : Bool) (n : Word) (zs : List Nat) (s : State) :
    ∃ x y, State.evalZones p blind n zs s = { s with zone := x, report := y } := by
  induction zs generalizing s with
  | nil =>
    show ∃ x y, s.endZones = _
    unfold State.endZones
    split
    · exact ⟨s.zone, s.report, rfl⟩
    · exact ⟨_, _, rfl⟩
  | cons z zs ih =>
    cases hr : s.zone.record? z with
    | none =>
      rw [State.evalZones_cons_absent hr]
      exact ih s
    | some r =>
      by_cases hm : r.state = .masked
      · rw [State.evalZones_cons_masked hr hm]
        exact ih s
      · by_cases hj : (r.updated p blind).judged p = r.state
        · rw [State.evalZones_cons_steady hr hm hj]
          exact ih (s.putZone z { r.updated p blind with hitsCycle := 0 })
        · rw [State.evalZones_cons_changes hr hm hj]
          exact ⟨_, _, rfl⟩

end

/-! ## The begin of an evaluation -/

/-- The evaluation of the cycle that `m` sums up, as it begins (R104). -/
def State.evalWorkFor (s : State) (m : CycleSummary) (stale : Bool) : EvalWork :=
  ⟨s.asm.account m.run.cycle, m, s.zone.policy, blindCycle s.zone.policy (s.asm.account m.run.cycle) m.run, stale, 0⟩

/-- An evaluation in progress that has taken no zone yet; the counter words are marked (R141). -/
def State.evalStarted (s : State) (m : CycleSummary) (stale : Bool) : State :=
  ({ s with zone := { s.zone with eval := some (s.evalWorkFor m stale) } }).markWhere fun w => counterWords.contains w

section
variable {s : State} {m : CycleSummary}

theorem State.beginEval_stale (h : s.outgoing m.run.cycle = true) :
    s.beginEval m = (s.evalStarted m true).handOver (cycleRecord (s.evalWorkFor m true)) := by
  unfold State.beginEval
  dsimp only
  rw [h]
  rfl

theorem State.beginEval_current (h : s.outgoing m.run.cycle = false) :
    s.beginEval m = State.evalZones s.zone.policy (s.evalWorkFor m false).blind m.run.cycle (List.range 24) (s.evalStarted m false) := by
  unfold State.beginEval
  dsimp only
  rw [h]
  rfl

theorem State.evalStarted_mem_marks (stale : Bool) (w : Nat) : w ∈ (s.evalStarted m stale).status.marks
    ↔ (1 ≤ w ∧ w ≤ 61) ∧ (w ∈ s.status.marks ∨ w = 17 ∨ w = 18 ∨ w = 19) := by
  have hrange : w ∈ markable ↔ 1 ≤ w ∧ w ≤ 61 := by
    rw [markable, List.range_eq_range', List.drop_range', List.mem_range'_1]
    omega
  have hmem : w ∈ (s.evalStarted m stale).status.marks ↔ w ∈ markable.filter fun w => s.status.marks.contains w || counterWords.contains w :=
    Iff.rfl
  rw [hmem, List.mem_filter, hrange]
  simp [counterWords]

/-- A begun evaluation has changed the Zone Table, the marks and the records handed over, and nothing else. -/
theorem State.beginEval_form (s : State) (m : CycleSummary) : ∃ stale x y,
    s.beginEval m = { s with zone := x, status := { s.status with marks := (s.evalStarted m stale).status.marks }, report := y } := by
  cases h : s.outgoing m.run.cycle with
  | true => exact ⟨true, _, _, State.beginEval_stale h⟩
  | false =>
    rw [State.beginEval_current h]
    obtain ⟨x, y, e⟩ := State.evalZones_form s.zone.policy (s.evalWorkFor m false).blind m.run.cycle (List.range 24)
      (s.evalStarted m false)
    exact ⟨false, x, y, e⟩

/-- An evaluation that leaves every zone in its state. -/
theorem State.beginEval_steady (h : s.outgoing m.run.cycle = false)
    (hs : s.SteadyOn s.zone.policy (s.evalWorkFor m false).blind (List.range 24)) :
    ∃ x, s.beginEval m = ((s.evalStarted m false).withRecords x).handOver (cycleRecord (s.evalWorkFor m false))
      ∧ ∀ z, ((s.evalStarted m false).withRecords x).zone.record? z
        = (s.zone.record? z).map fun r => r.evaluated s.zone.policy (s.evalWorkFor m false).blind := by
  obtain ⟨x, hx, hrec⟩ := State.evalZones_steady (s := s.evalStarted m false) (n := m.run.cycle) (List.range 24) []
    List.nodup_range hs
  rw [List.append_nil] at hx
  refine ⟨x, (State.beginEval_current h).trans hx, fun z => (hrec z).trans ?_⟩
  have hzone : (s.evalStarted m false).zone.record? z = s.zone.record? z := rfl
  rw [hzone]
  split
  · rfl
  · next hz =>
    cases hr : s.zone.record? z with
    | none => rfl
    | some r => exact absurd (List.mem_range.2 (ZoneTable.lt_of_record? hr)) hz

/-- An evaluation whose first zone to change is `z`. -/
theorem State.beginEval_changes (h : s.outgoing m.run.cycle = false) {z : Nat} {r : ZoneRecord} (hr : s.zone.record? z = some r)
    (hm : r.state ≠ .masked)
    (hj : (r.updated s.zone.policy (s.evalWorkFor m false).blind).judged s.zone.policy ≠ r.state)
    (hs : s.SteadyOn s.zone.policy (s.evalWorkFor m false).blind (List.range z)) :
    let u := r.updated s.zone.policy (s.evalWorkFor m false).blind
    let new := u.judged s.zone.policy
    ∃ x, s.beginEval m = (((s.evalStarted m false).withRecords x).putZone z { u with state := new }).handOver
          (zoneChangeRecord z r.state new u.score u.streak m.run.cycle (.evalZone z (r.state.rank < new.rank)))
      ∧ ∀ y, ((s.evalStarted m false).withRecords x).zone.record? y
        = if y < z then (s.zone.record? y).map fun r => r.evaluated s.zone.policy (s.evalWorkFor m false).blind
          else s.zone.record? y := by
  intro u new
  have hz := ZoneTable.lt_of_record? hr
  have hsplit : List.range 24 = List.range z ++ z :: (List.range 24).drop (z + 1) := by
    have hget : (List.range 24)[z]'(by simpa using hz) = z := List.getElem_range _
    have happend := (List.take_append_drop z (List.range 24)).symm
    rwa [List.drop_eq_getElem_cons (by simpa using hz), hget, List.take_range, min_eq_left hz.le] at happend
  obtain ⟨x, hx, hrec⟩ := State.evalZones_steady (s := s.evalStarted m false) (n := m.run.cycle) (List.range z)
    (z :: (List.range 24).drop (z + 1)) List.nodup_range hs
  have hzr : ((s.evalStarted m false).withRecords x).zone.record? z = some r := by
    rw [hrec, if_neg (by simp)]
    exact hr
  refine ⟨x, ?_, fun y => (hrec y).trans ?_⟩
  · rw [State.beginEval_current h, hsplit, hx, State.evalZones_cons_changes hzr hm hj]
  · simp only [List.mem_range]
    rfl

end

/-! ## After the records of an evaluation -/

section
variable {s : State}

theorem State.mouldAfterEval_of_not_busy (h : s.mouldBusy = false) : s.mouldAfterEval = s := by
  unfold State.mouldAfterEval
  unfold State.mouldBusy at h
  split
  · next i p n he => simp [he] at h
  · rfl

theorem State.mouldBusy_congr {t : State} (h : t.cmd = s.cmd) : t.mouldBusy = s.mouldBusy := by
  unfold State.mouldBusy
  rw [h]

theorem State.startEvaluation_busy (h : s.zone.eval ≠ none) : s.startEvaluation = s := by
  have hbusy : s.evalBusy = true := by simpa [State.evalBusy, Option.isSome_iff_ne_none] using h
  simp [State.startEvaluation, hbusy]

theorem State.mouldPast_of_not_busy (h : s.mouldBusy = false) : s.mouldPast = false := by
  unfold State.mouldBusy at h
  unfold State.mouldPast
  split <;> simp_all

theorem State.startEvaluation_due (h : s.zone.eval = none) (hp : s.mouldPast = false) {m : CycleSummary} {rest : List CycleSummary}
    (hd : s.zone.due = m :: rest) :
    s.startEvaluation = State.beginEval { s with zone := { s.zone with due := rest } } m := by
  simp [State.startEvaluation, State.evalBusy, h, hp, hd]

theorem State.startEvaluation_marker (h : s.zone.eval = none) (hb : s.mouldBusy = false) {m : CycleSummary} {rest : List AQEntry}
    (hd : s.zone.due = []) (hw : s.aq.work = none) (hc : s.checkBusy = false) (hq : s.aq.entries = .marker m :: rest) :
    s.startEvaluation = State.beginEval { s with aq := { s.aq with entries := rest } } m := by
  simp [State.startEvaluation, State.evalBusy, State.headMarker, h, State.mouldPast_of_not_busy hb, hb, hd, hw, hc, hq]

/-- What follows the ZONE_CHANGE record of zone `z` (R109). -/
def State.zoneChanged (s u : State) (z : Nat) (r : ZoneRecord) (e : EvalWork) : State :=
  State.evalFrom { u with zone := { s.zone with
    records := vmod s.zone.records z fun _ => some { r with hitsCycle := 0 }
    eval := some { e with changed := e.changed + 1 } } } (z + 1)

theorem State.afterZoneChange_rose {z : Nat} {r : ZoneRecord} {e : EvalWork} {f : Nat} (hr : s.zone.record? z = some r)
    (he : s.zone.eval = some e) (hf : r.state.factor? = some f) : s.afterZoneChange z true = s.zoneChanged (s.raise f) z r e := by
  simp only [State.afterZoneChange, hr, he, hf]
  rfl

theorem State.afterZoneChange_fell {z : Nat} {r : ZoneRecord} {e : EvalWork} (hr : s.zone.record? z = some r)
    (he : s.zone.eval = some e) : s.afterZoneChange z false = s.zoneChanged s z r e := by
  simp only [State.afterZoneChange, hr, he]
  cases r.state.factor? <;> rfl

/-- The evaluation ends with its CYCLE record (R110). -/
theorem State.afterCycleRecord_eq {e : EvalWork} (he : s.zone.eval = some e) :
    let served := s.serveBatch .cycle
    let s2 := if e.blind = true then served.raise 5 else served
    let s3 := if e.summary.cause = .timeout ∨ e.summary.cause = .truncated then s2.raise 6 else s2
    s.afterCycleRecord = { s3 with
      zone := { s.zone with eval := none }
      asm := { s.asm with accounts := s.asm.accounts.filter fun x => x.cycle ≠ e.summary.run.cycle } } := by
  intro served s2 s3
  have hz : served.zone = s.zone := State.serveBatch_touches s .cycle .zone (by decide)
  have ha : served.asm = s.asm := State.serveBatch_touches s .cycle .asm (by decide)
  have hz2 : s2.zone = s.zone ∧ s2.asm = s.asm := by
    unfold s2
    split <;> exact ⟨hz, ha⟩
  have hz3 : s3.zone = s.zone ∧ s3.asm = s.asm := by
    unfold s3
    split <;> exact hz2
  have hacc : (s.asm.accounts.filter fun x => x.cycle != e.summary.run.cycle)
      = s.asm.accounts.filter fun x => x.cycle ≠ e.summary.run.cycle := by
    exact List.filter_congr fun x _ => by simp [bne, beq_eq_decide]
  have hs3 : s.afterCycleRecord = { s3 with
      zone := { s3.zone with eval := none }, asm := s3.asm.closeAccount e.summary.run.cycle } := by
    simp only [State.afterCycleRecord, he, s3]
    cases e.summary.cause <;> rfl
  rw [hs3, hz3.1, hz3.2, Assembler.closeAccount, hacc]

end

/-- Settles O41: the zones before the first that changes are brought up to date in order, and each record is followed by its
own continuation. -/
theorem cycleEndEvaluationTakesZones : Obligations.CycleEndEvaluationTakesZones := by
  refine ⟨⟨fun s h => ?_, fun s m rest h hp hd => ?_, fun s m rest h hb hd hw hc hq => ?_, fun s e z he => ?_, fun s m => ?_⟩,
    fun s z r e rose hr he => ?_, fun s e he hb => ?_, fun s => ?_⟩
  · exact congrArg (fun u => Host.Outcome.next (s.settle u)) (State.startEvaluation_busy h)
  · exact congrArg (fun u => Host.Outcome.next (s.settle u)) (State.startEvaluation_due h hp hd)
  · exact congrArg (fun u => Host.Outcome.next (s.settle u)) (State.startEvaluation_marker h hb hd hw hc hq)
  · rw [State.evalFrom, he]
  · intro t p a blind work taken steady done
    have hwork (stale : Bool) : work stale = s.evalWorkFor m stale := rfl
    have hblind : blind = (s.evalWorkFor m false).blind := rfl
    have hdone : done = fun r => r.evaluated p blind := rfl
    obtain ⟨stale, x, y, hform⟩ := s.beginEval_form m
    refine ⟨?_, fun w => ?_, fun h => ?_, fun h hs => ?_, fun z r h hr hm hj hs => ?_⟩
    · show s.beginEval m = _
      simp only [t, hform]
    · show w ∈ (s.beginEval m).status.marks ↔ _
      rw [hform]
      exact State.evalStarted_mem_marks stale w
    · show (s.beginEval m).zone = _ ∧ (s.beginEval m).report = _
      rw [State.beginEval_stale h]
      exact ⟨rfl, rfl⟩
    · obtain ⟨x, hx, hrec⟩ := State.beginEval_steady h fun z _ => hs z
      have ht : t = _ := hx
      rw [ht]
      exact ⟨rfl, hrec, rfl⟩
    · intro u new
      obtain ⟨x, hx, hrec⟩ := State.beginEval_changes h hr hm hj fun y hy q hq => hs y q (List.mem_range.1 hy) hq
      have ht : t = _ := hx
      have hz := ZoneTable.lt_of_record? hr
      rw [ht]
      refine ⟨rfl, fun y hy => ?_, ?_, fun y hy => ?_, rfl⟩
      · exact (ZoneTable.record?_put _ _ _ _).trans ((if_neg (by omega)).trans ((hrec y).trans (if_pos hy)))
      · exact (ZoneTable.record?_put _ _ _ _).trans (if_pos ⟨hz, rfl⟩)
      · exact (ZoneTable.record?_put _ _ _ _).trans ((if_neg (by omega)).trans ((hrec y).trans (if_neg (by omega))))
  · intro cleared
    have hcont : s.runCont (.evalZone z rose) = s.afterZoneChange z rose := rfl
    rw [hcont]
    refine ⟨fun h hst => ?_, fun h hst => ?_, fun h hst => ?_, fun h => ?_⟩
    · rw [h]
      exact State.afterZoneChange_rose hr he (by rw [hst]; rfl)
    · rw [h]
      exact State.afterZoneChange_rose hr he (by rw [hst]; rfl)
    · rw [h]
      exact State.afterZoneChange_rose hr he (by rw [hst]; rfl)
    · rw [h]
      exact State.afterZoneChange_fell hr he
  · intro served s2 s3
    have hcmd : s.afterCycleRecord.cmd = s.cmd := State.afterCycleRecord_touches s .cmd (by decide)
    have hcont : s.runCont .evalDone = s.afterCycleRecord.mouldAfterEval := rfl
    rw [hcont, State.mouldAfterEval_of_not_busy ((State.mouldBusy_congr hcmd).trans hb)]
    exact State.afterCycleRecord_eq he
  · have hev : (s.serveBatch .event).ev = s.ev := State.serveBatch_touches s .event .ev (by decide)
    show State.afterCompletion { s.serveBatch .event with ev := { (s.serveBatch .event).ev with completion := none } } = _
    rw [hev]

end Sys2Proof.Machine
end

section
/-! PROOFS. The entry to RUNNING as one equation for the whole state (R12, R100, R119, R143, R144, R148, R157). -/

namespace Sys2Proof.Machine

/-! ## Batch counters loaded (R144) -/

theorem NoticeUnit.raise_setBatch (n : NoticeUnit) (k : BatchKind) (b : Batch) (f now : Nat) :
    (n.setBatch k b).raise f now = (n.raise f now).setBatch k b := by
  by_cases hp : n.pending.getLsbD f <;> by_cases hs : n.sources.getLsbD f <;> by_cases hl : n.latch <;> cases k <;>
    simp [NoticeUnit.raise, NoticeUnit.setLatch, NoticeUnit.setBatch, hp, hs, hl]

theorem NoticeUnit.setBatch_setBatch (n : NoticeUnit) (k : BatchKind) (b c : Batch) :
    (n.setBatch k b).setBatch k c = n.setBatch k c := by cases k <;> rfl

theorem NoticeUnit.raise_batch (n : NoticeUnit) (f now : Nat) (k : BatchKind) : (n.raise f now).batch k = n.batch k := by
  simp only [NoticeUnit.raise, NoticeUnit.setLatch]
  split_ifs <;> cases k <;> rfl

/-- The raise of a batch counter that stands at 0. -/
def NoticeUnit.raiseSpent (n : NoticeUnit) (k : BatchKind) (now : Nat) : NoticeUnit :=
  if (n.batch k).counter = 0 then n.raise (batchFactor k) now else n

theorem State.loadBatch_eq (s : State) (k : BatchKind) (count : Nat) :
    s.loadBatch k count = { s with notice := (s.notice.raiseSpent k s.clock).setBatch k ⟨count, count⟩ } := by
  unfold State.loadBatch State.fireBatch NoticeUnit.raiseSpent
  split
  · simp only [State.raise, NoticeUnit.raise_setBatch, NoticeUnit.setBatch_setBatch]
  · rfl

/-- The Notice Unit under a configuration: counters at 0 raise first, then the settings apply. -/
def NoticeUnit.configured (n : NoticeUnit) (cfg : ImageConfig) (now : Nat) : NoticeUnit :=
  let n2 := (n.raiseSpent .event now).raiseSpent .cycle now
  { n2 with
    enables := cfg.enables
    levels := cfg.levels
    batchEvent := ⟨cfg.batchEvent, cfg.batchEvent⟩
    batchCycle := ⟨cfg.batchCycle, cfg.batchCycle⟩
    clearMode := cfg.clearMode
    sources := cfg.sources
    mode := cfg.stopMode
    k := cfg.stopK
    pulse := if cfg.stopMode = .pulse ∧ n2.latch = true then some now else none }

theorem NoticeUnit.raiseSpent_setBatch (n : NoticeUnit) (b : Batch) (now : Nat) :
    (n.setBatch .event b).raiseSpent .cycle now = (n.raiseSpent .cycle now).setBatch .event b := by
  have hbatch : (n.setBatch .event b).batch .cycle = n.batch .cycle := rfl
  unfold NoticeUnit.raiseSpent
  rw [hbatch]
  split
  · exact n.raise_setBatch _ _ _ _
  · rfl

theorem State.applyNotice_eq (s : State) (cfg : ImageConfig) :
    s.applyNotice cfg = { s with notice := s.notice.configured cfg s.clock } := by
  unfold State.applyNotice
  rw [State.loadBatch_eq, State.loadBatch_eq]
  simp only [NoticeUnit.raiseSpent_setBatch, NoticeUnit.configured]
  generalize (s.notice.raiseSpent .event s.clock).raiseSpent .cycle s.clock = n
  unfold NoticeUnit.setStop
  cases hmode : cfg.stopMode <;> by_cases hl : n.latch = true <;> simp [NoticeUnit.setBatch, hl]

theorem NoticeUnit.configured_eq (n0 : NoticeUnit) (cfg : ImageConfig) (now : Nat) :
    let n1 := if n0.batchEvent.counter = 0 then n0.raise 0 now else n0
    let n2 := if n0.batchCycle.counter = 0 then n1.raise 4 now else n1
    n0.configured cfg now = { n2 with
      enables := cfg.enables
      levels := cfg.levels
      batchEvent := ⟨cfg.batchEvent, cfg.batchEvent⟩
      batchCycle := ⟨cfg.batchCycle, cfg.batchCycle⟩
      clearMode := cfg.clearMode
      sources := cfg.sources
      mode := cfg.stopMode
      k := cfg.stopK
      pulse := if cfg.stopMode = .pulse ∧ n2.latch = true then some now else none } := by
  intro n1 n2
  have h1 : n0.raiseSpent .event now = n1 := rfl
  have hbatch : n1.batch .cycle = n0.batch .cycle := by
    unfold n1
    split
    · exact n0.raise_batch _ _ _
    · rfl
  have h2 : n1.raiseSpent .cycle now = n2 := by
    unfold NoticeUnit.raiseSpent
    rw [hbatch]
    rfl
  unfold NoticeUnit.configured
  rw [h1, h2]

/-! ## The mould in force (R100, R119) -/

theorem State.applyMould_kept {s : State} {cfg : ImageConfig} {p : Profile} (h : s.keptProfile cfg.profiles = some p) :
    s.applyMould cfg = { s with ev := { s.ev with profile := some p } } := by
  simp [State.applyMould, h]

theorem State.applyMould_fresh {s : State} {cfg : ImageConfig} {p : Profile} (h : s.keptProfile cfg.profiles = none)
    (hp : profileOfType cfg.profiles (chooseType cfg) = some p) : s.applyMould cfg = s.putMould p 0 := by
  simp [State.applyMould, h, hp]

/-- The mould type chosen names the profile that the rule chooses. -/
theorem profileOfType_chooseType {cfg : ImageConfig} {p : Profile}
    (h : (if cfg.profiles.any (fun q => q.type == cfg.initialType)
      then cfg.profiles.find? fun q => q.type == cfg.initialType else cfg.profiles.head?) = some p) :
    profileOfType cfg.profiles (chooseType cfg) = some p := by
  unfold profileOfType chooseType
  split
  · next ha => rwa [if_pos ha] at h
  · next ha =>
    rw [if_neg ha] at h
    rw [h]
    cases hps : cfg.profiles with
    | nil => simp [hps] at h
    | cons q qs =>
      obtain rfl : q = p := by simpa [hps] using h
      simp

theorem clearedRecords_eq (p : Profile) : clearedRecords p = Vector.ofFn fun z => if z.val < p.zoneCount then
    some ⟨if p.mask.getLsbD z then .masked else .clear, 0, 0, 0, 0, 0, none, none⟩ else none := by
  ext z hz
  simp [clearedRecords, clearedRecord, BitVec.getLsbD_eq_getElem, hz]

/-! ## The entry itself (R12) -/

section
variable {s : State} {cfg : ImageConfig} {st : ImageStatus}

theorem State.runningDue_eq (h : s.loader.phase = .ready cfg st) (hp : s.report.placing = none) (hu : s.status.update = none)
    (he : s.zone.eval = none) (hd : s.zone.due = []) (ht : s.tacho.stallHeld = none) : s.runningDue = some (cfg, st) := by
  simp [State.runningDue, h, hp, hu, State.evalOwed, he, hd, ht]

theorem exec_runningEntry (h : s.runningDue = some (cfg, st)) : exec .runningEntry s = .next (s.settle (s.enterRunning cfg st)) := by
  simp [exec, execRunningEntry, State.settled, h]

/-- The Notice Unit after the entry to RUNNING: configured, and IMAGE raised for a status that calls for it (R161). -/
def State.enteredNotice (s : State) (cfg : ImageConfig) (st : ImageStatus) : NoticeUnit :=
  if st.notable then (s.notice.configured cfg s.clock).raise fImage s.clock else s.notice.configured cfg s.clock

theorem markWhere_all (s : State) :
    (s.markWhere fun _ => true) = { s with status := { s.status with marks := (List.range 62).drop 1 } } := by
  simp [State.markWhere, markable]

/-- The entry to RUNNING puts the blocks' settings, the mould, the Notice Unit and the marks in force. -/
theorem State.enterRunning_eq {u : State} (h : (s.applyBlocks cfg st).applyMould cfg = u) (hn : u.notice = s.notice)
    (hc : u.clock = s.clock) : s.enterRunning cfg st =
      { u with notice := s.enteredNotice cfg st, status := { u.status with marks := (List.range 62).drop 1 } } := by
  unfold State.enterRunning State.enteredNotice
  rw [h, State.applyNotice_eq, hn, hc, markWhere_all]
  cases st.notable <;> simp

theorem ImageStatus.notable_iff (st : ImageStatus) :
    st.notable = true ↔ st.defaults = true ∨ st.retried = true ∨ st.clamped = true := by
  simp [ImageStatus.notable, or_assoc]

end

/-- Settles O50: the blocks take the configuration, then the mould is kept or chosen, then the Notice Unit is configured. -/
theorem runningEntryAppliesConfiguration : Obligations.RunningEntryAppliesConfiguration := by
  intro s cfg st hphase hplacing hupdate heval hdue hstall n0 n1 n2 configured notable applied
  have hexec := exec_runningEntry (State.runningDue_eq hphase hplacing hupdate heval hdue hstall)
  have hnotice : s.enteredNotice cfg st = if notable then configured.raise 13 s.clock else configured := by
    unfold State.enteredNotice
    rw [NoticeUnit.configured_eq]
    exact if_congr st.notable_iff rfl rfl
  have happlied (p : Profile) (z : ZoneTable) (u : State) (h : (s.applyBlocks cfg st).applyMould cfg = u)
      (hu : u = { s.applyBlocks cfg st with
        ev := { (s.applyBlocks cfg st).ev with profile := some p }
        zone := z }) : exec .runningEntry s = .next (s.settle (applied p z)) := by
    rw [hexec]
    have henter := State.enterRunning_eq h (by rw [hu]; rfl) (by rw [hu]; rfl)
    rw [hu, hnotice] at henter
    rw [henter]
    rfl
  refine ⟨fun cur p hcur hp => ?_, fun hno p hp => ?_⟩
  · have hkept : (s.applyBlocks cfg st).keptProfile cfg.profiles = some p := by
      have hev : (s.applyBlocks cfg st).ev.profile = some cur := hcur
      unfold State.keptProfile
      rw [hev]
      exact hp
    exact happlied p _ _ (State.applyMould_kept hkept) rfl
  · have hkept : (s.applyBlocks cfg st).keptProfile cfg.profiles = none := by
      have hev : (s.applyBlocks cfg st).ev.profile = s.ev.profile := rfl
      unfold State.keptProfile
      rw [hev]
      cases hcur : s.ev.profile with
      | none => rfl
      | some cur =>
        refine List.find?_eq_none.2 fun q hq hb => hno cur hcur q hq ?_
        have htype : (s.applyBlocks cfg st).zone.mouldType = s.zone.mouldType := rfl
        simpa [htype] using hb
    have hrec := clearedRecords_eq p
    have hput : (s.applyBlocks cfg st).putMould p 0 = { s.applyBlocks cfg st with
        ev := { (s.applyBlocks cfg st).ev with profile := some p }
        zone := { s.zone with
          policy := cfg.policy
          mouldType := p.type
          serial := 0
          firstCycle := if s.gate.cycle = 0xFFFFFFFF then 1 else s.gate.cycle + 1
          started := false
          records := Vector.ofFn fun z => if z.val < p.zoneCount then
            some ⟨if p.mask.getLsbD z then .masked else .clear, 0, 0, 0, 0, 0, none, none⟩ else none } } := by
      rw [← hrec]
      rfl
    exact happlied p _ _ (State.applyMould_fresh hkept (profileOfType_chooseType hp)) hput

end Sys2Proof.Machine
end

section
/-! PROOFS. RELOAD: its wait, its completion words and the state in which the path is RELOADING (R13, R15, R34, R52, R57,
R80, R136, R157). -/

namespace Sys2Proof.Machine

/-! ## Completion words that end their slots when they are placed -/

theorem NoticeUnit.raise_commandDone_pending (n : NoticeUnit) (now : Nat) :
    (n.raise fCommandDone now).pending.getLsbD fCommandDone = true := by
  have hbit : (factorBit fCommandDone).getLsbD fCommandDone = true := by decide
  unfold NoticeUnit.raise NoticeUnit.setLatch
  split
  · assumption
  · simp only
    split_ifs <;> simp [hbit]

theorem NoticeUnit.raise_commandDone_twice (n : NoticeUnit) (now : Nat) :
    (n.raise fCommandDone now).raise fCommandDone now = n.raise fCommandDone now := by
  rw [NoticeUnit.raise, if_pos (n.raise_commandDone_pending now)]

/-- The plain write of a completion word whose slot ends when the word is placed. -/
def State.placedRequest (s : State) (x : Fin 8 × Code) : Request := ⟨s.slotAddress x.1, .write (s.slotWordOf x.1 x.2)⟩

theorem State.slotWordOf_modSlot {s : State} {f : Slot → Slot} (i j : Fin 8) (hf : ∀ x : Slot, (f x).shadow = x.shadow ∧ (f x).disturbed = x.disturbed)
    (code : Code) : (s.modSlot i f).slotWordOf j code = s.slotWordOf j code := by
  have hslot : ((s.modSlot i f).cmd.slots[j]).shadow = s.cmd.slots[j].shadow
      ∧ ((s.modSlot i f).cmd.slots[j]).disturbed = s.cmd.slots[j].disturbed := by
    simp only [State.modSlot, vector_getElem_set_fin]
    split
    · next h => subst h; exact hf _
    · exact ⟨rfl, rfl⟩
  rw [State.slotWordOf, State.slotWordOf, hslot.1, hslot.2]

theorem State.placeCompletion_atPlacing {s : State} {i : Fin 8} {code : Code} (h : code.atPlacing = true) :
    s.placeCompletion i code = (s.place (s.placedRequest (i, code))).slotDone i := by
  simp [State.placeCompletion, h, State.placedRequest]

theorem State.placedRequest_slotDone (s : State) (r : Request) (i : Fin 8) :
    ((s.place r).slotDone i).placedRequest = s.placedRequest := by
  funext x
  exact congrArg (fun w => (⟨s.slotAddress x.1, .write w⟩ : Request))
    (State.slotWordOf_modSlot (s := s.place r) (f := fun y => { y with state := .done }) i x.1 (fun _ => ⟨rfl, rfl⟩) x.2)

/-- With room for all, the words of a RELOAD are placed in order, their slots are DONE and COMMAND_DONE is raised. -/
theorem State.placeCompletions_atPlacing (l : List (Fin 8 × Code)) (s : State) (hl : ∀ x ∈ l, x.2.atPlacing = true)
    (hr : s.iq.length + l.length ≤ queueCapacity) : ∃ slots : Vector Slot 8,
    State.placeCompletions l s = { s with
        iq := s.iq ++ l.map s.placedRequest
        cmd := { s.cmd with slots := slots, waits := [] }
        notice := if l = [] then s.notice else s.notice.raise fCommandDone s.clock }
      ∧ (∀ j ∈ l.map (·.1), slots[j].state = .done) ∧ ∀ j ∉ l.map (·.1), slots[j] = s.cmd.slots[j] := by
  induction l generalizing s with
  | nil => exact ⟨s.cmd.slots, by simp [State.placeCompletions], by simp, fun _ _ => rfl⟩
  | cons x l ih =>
    obtain ⟨i, code⟩ := x
    rw [List.length_cons] at hr
    have hroom : s.hasRoom = true := (State.hasRoom_iff s).2 (by omega)
    have hcode := hl _ (List.mem_cons_self ..)
    rw [State.placeCompletions_cons_of_room hroom, State.placeCompletion_atPlacing hcode]
    obtain ⟨slots, heq, hin, hout⟩ := ih ((s.place (s.placedRequest (i, code))).slotDone i)
      (fun y hy => hl y (List.mem_cons_of_mem _ hy)) (by
        show (s.iq ++ [_]).length + l.length ≤ queueCapacity
        rw [List.length_append]
        simp only [List.length_cons, List.length_nil]
        omega)
    rw [State.placedRequest_slotDone] at heq
    have hnotice : (if l = [] then s.notice.raise fCommandDone s.clock
        else (s.notice.raise fCommandDone s.clock).raise fCommandDone s.clock) = s.notice.raise fCommandDone s.clock := by
      rw [NoticeUnit.raise_commandDone_twice, ite_self]
    refine ⟨slots, ?_, fun j hj => ?_, fun j hj => ?_⟩
    · rw [heq, if_neg (List.cons_ne_nil _ _)]
      show ({ s with
          iq := (s.iq ++ [s.placedRequest (i, code)]) ++ l.map s.placedRequest
          cmd := { s.cmd with slots := slots, waits := [] }
          notice := if l = [] then s.notice.raise fCommandDone s.clock
            else (s.notice.raise fCommandDone s.clock).raise fCommandDone s.clock } : State) = _
      rw [hnotice, List.append_assoc]
      rfl
    · by_cases hjl : j ∈ l.map (·.1)
      · exact hin j hjl
      · obtain rfl : j = i := by simpa [hjl] using hj
        rw [hout j hjl, State.slotDone_state, if_pos rfl]
    · obtain ⟨hji, hjl⟩ : j ≠ i ∧ j ∉ l.map (·.1) := by
        rw [List.map_cons, List.mem_cons, not_or] at hj
        exact hj
      rw [hout j hjl]
      show (s.cmd.slots.set i _)[j] = _
      rw [vector_getElem_set_fin, if_neg hji]

/-! ## The entry to RELOADING -/

/-- With no frame queued or under analysis a running cycle ends in an evaluation due at once (R31, R52). -/
theorem State.endCycle_of_no_frames {s : State} (haq : s.aq = {}) {r : CycleRun} (h : s.gate.state = .inCycle r) (cause : Cause)
    (t : Nat) : s.endCycle cause t = { s with
      gate := { s.gate with state := .idle, gates := {} }
      zone := { s.zone with due := s.zone.due ++ [r.summaryAt cause t] } } := by
  simp [State.endCycle, h, State.handCycleEnd, haq, AnalysisQueue.workCarries]

theorem State.endCycle_of_not_running {s : State} (h : ∀ r, s.gate.state ≠ .inCycle r) (cause : Cause) (t : Nat) :
    s.endCycle cause t = s := by
  unfold State.endCycle
  split
  · next r hr => exact absurd hr (h r)
  · rfl

/-- The entry to RELOADING block by block, with the Zone Table `z` and the cycle number kept. -/
def State.reloading (s : State) (z : ZoneTable) (active : Sequencer) : State := { s with
  path := { s.path with state := .reloading, bus := s.path.bus.map BusAccess.unsnoop }
  asm := s.asm.reload
  aq := {}
  cap := {}
  gate := active.stop
  det := { s.det with pending := none, chans := s.det.chans.map Channel.reload }
  ev := s.ev.reload
  cmd := { s.cmd with exec := none }
  loader := { s.loader with phase := .reading false, sent := readInstrs }
  zone := z }

/-- The path, the frame side and the captures at the entry to RELOADING, before the running cycle ends. -/
def State.withoutFrames (s : State) : State := { s with
  path := { s.path with state := .reloading, bus := s.path.bus.map BusAccess.unsnoop }
  asm := s.asm.reload
  aq := {}
  cap := {} }

/-- What the other blocks give up at the entry to RELOADING, after the running cycle has ended. -/
def State.blocksReload (s : State) : State := { s with
  gate := s.gate.stop
  det := { s.det with pending := none, chans := s.det.chans.map Channel.reload }
  ev := s.ev.reload
  cmd := { s.cmd with exec := none }
  loader := { s.loader with phase := .reading false, sent := readInstrs } }

theorem State.enterReloading_eq (s : State) : ∃ z g, s.enterReloading = s.reloading z g ∧ g.cycle = s.gate.cycle
    ∧ ((∀ r, s.gate.state ≠ .inCycle r) → z = s.zone)
    ∧ ∀ r, s.gate.state = .inCycle r → ∃ m, m.run = r.summary ∧ m.cause = .reload
      ∧ z = { s.zone with due := s.zone.due ++ [m] } := by
  have hform : s.enterReloading = (s.withoutFrames.endCycle .reload s.withoutFrames.endTime).blocksReload := rfl
  by_cases hg : ∃ r, s.gate.state = .inCycle r
  · obtain ⟨r, hr⟩ := hg
    rw [hform, State.endCycle_of_no_frames (s := s.withoutFrames) rfl hr]
    refine ⟨_, _, rfl, rfl, fun h => absurd hr (h r), fun r' hr' => ?_⟩
    cases hr.symm.trans hr'
    exact ⟨_, rfl, rfl, rfl⟩
  · have hno (r) : s.gate.state ≠ .inCycle r := fun h => hg ⟨r, h⟩
    rw [hform, State.endCycle_of_not_running (s := s.withoutFrames) hno]
    exact ⟨_, _, rfl, rfl, fun _ => rfl, fun r hr => absurd hr (hno r)⟩

/-! ## The empty Capture Unit (R121, R136) -/

theorem emptyCapture_map (l : Fin 32) : (({} : CaptureUnit).map[l]).val = l.val := by simp

theorem emptyCapture_spare : ({} : CaptureUnit).spare.map (·.val) = (List.range 16).map (32 + ·) := rfl

theorem emptyCapture_table (c : Fin 4) : ({} : CaptureUnit).table[c] = ⟨.free, [], 0, 0, 0, [], 0, 0, false⟩ := by simp

/-! ## When a RELOAD acts -/

section
variable {s : State} {i : Fin 8}

theorem State.reloadOn_waits (h : (∀ i, s.cmd.exec ≠ some ⟨i, .reloading⟩)
    ∨ ¬ (s.cmd.waits = [] ∧ s.iq.length + (s.cmd.queue.length + 1) ≤ 64) ∨ ¬ (s.evalOwed = false ∧ s.checkBusy = false)) :
    s.reloadOn = s := by
  unfold State.reloadOn
  split
  · next i he =>
    refine if_pos ?_
    rcases h with h | h | h
    · exact absurd he (h i)
    · rw [← State.roomForAll_iff] at h
      simp [h]
    · cases h1 : s.evalOwed <;> cases h2 : s.checkBusy <;> simp_all
  · rfl

theorem State.reloadOn_acts (he : s.cmd.exec = some ⟨i, .reloading⟩)
    (hr : s.cmd.waits = [] ∧ s.iq.length + (s.cmd.queue.length + 1) ≤ 64) (hf : s.evalOwed = false ∧ s.checkBusy = false) :
    s.reloadOn = s.reload := by
  simp [State.reloadOn, he, (State.roomForAll_iff s).2 hr, hf.1, hf.2]

theorem execReload_waits (h : s.evalOwed = true ∨ s.checkBusy = true) : exec .reload s = .next (s.settle s) := by
  have hb : (s.evalOwed || s.checkBusy) = true := by simpa using h
  simp [exec, execReload, State.settled, hb]

theorem execReload_begins {rest : List (Fin 8)} (h : s.Begins 0x15 i rest) (he : s.evalOwed = false) (hc : s.checkBusy = false) :
    exec .reload s = .next (s.settle (s.begun i rest .reloading).reloadOn) := by
  have hcommand := State.command_of_begins (fun _ x => (x.setJob .reloading).reloadOn) h
  simp only [exec, execReload, State.settled, he, hc, Bool.or_self, Bool.false_eq_true, if_false]
  rw [hcommand]
  rfl

end

/-- Settles O59: RELOAD waits or acts; when it acts, its words are placed in order and the path enters RELOADING. -/
theorem reloadEntersReloading : Obligations.ReloadEntersReloading := by
  refine ⟨fun s h => execReload_waits h, fun s i rest h he hc => ⟨fun hr => ?_, fun hr => ?_⟩,
    fun s => ⟨fun ⟨i, he⟩ hr hf => State.reloadOn_acts he hr hf, fun h => State.reloadOn_waits h⟩, ?_⟩
  · rw [execReload_begins h he hc, State.reloadOn_acts (s := s.begun i rest .reloading) rfl hr ⟨he, hc⟩]
  · rw [execReload_begins h he hc, State.reloadOn_waits (s := s.begun i rest .reloading) (.inr (.inl hr))]
  · intro s i hexec howed hwaits hroom hnd t
    have ⟨_, hdue⟩ : s.zone.eval = none ∧ s.zone.due = [] := by simpa [State.evalOwed] using howed
    obtain ⟨slots, hplaced, hin, hout⟩ := State.placeCompletions_atPlacing
      ((i, Code.accepted) :: s.cmd.queue.map fun j => (j, Code.discarded)) { s with cmd := { s.cmd with queue := [] } }
      (by simp [Code.atPlacing]) (by simpa [queueCapacity] using hroom)
    have ht : t = (State.placeCompletions ((i, Code.accepted) :: s.cmd.queue.map fun j => (j, Code.discarded))
        { s with cmd := { s.cmd with queue := [] } }).enterReloading := by
      show s.reload = _
      unfold State.reload
      rw [hexec]
      rfl
    have hmap : ((i, Code.accepted) :: s.cmd.queue.map fun j => (j, Code.discarded)).map (·.1) = i :: s.cmd.queue := by
      simp [Function.comp_def]
    rw [hmap] at hin hout
    rw [if_neg (List.cons_ne_nil _ _)] at hplaced
    obtain ⟨z, g, hentered, hcycle, hidle, hran⟩ := State.enterReloading_eq
      (State.placeCompletions ((i, Code.accepted) :: s.cmd.queue.map fun j => (j, Code.discarded))
        { s with cmd := { s.cmd with queue := [] } })
    rw [← ht, hplaced] at hentered
    rw [hplaced] at hcycle hidle hran
    clear_value t
    subst hentered
    refine ⟨rfl, hin, hout, rfl, rfl, rfl, rfl, ⟨rfl, rfl, rfl, rfl, fun b hb => ?_⟩, ⟨rfl, rfl, rfl⟩,
      ⟨rfl, rfl, rfl, rfl, rfl, rfl, rfl, fun p => ?_⟩, ⟨rfl, rfl⟩, ⟨rfl, hcycle, rfl, rfl⟩, ⟨rfl, rfl, fun c => ?_⟩,
      ⟨rfl, rfl, rfl, rfl, rfl, fun c => ?_⟩, ⟨?_, ?_, rfl, ?_⟩,
      ⟨rfl, rfl, rfl, rfl, rfl⟩, hidle, fun r hr => ?_⟩
    · obtain ⟨b', -, rfl⟩ := Option.map_eq_some_iff.1 hb
      rfl
    · simp [State.reloading, Assembler.reload]
    · simp [State.reloading, Channel.reload]
    · simp [State.reloading, EventBuilder.reload]
    · exact emptyCapture_map
    · exact emptyCapture_spare
    · exact emptyCapture_table
    · obtain ⟨m, hm, hcause, hz⟩ := hran r hr
      refine ⟨m, hm, hcause, hz.trans ?_⟩
      show ({ s.zone with due := s.zone.due ++ [m] } : ZoneTable) = _
      rw [hdue]
      rfl

end Sys2Proof.Machine
end

section
/-! PROOFS. A step, the cold state, the Arbiter and what ends every command, and the words of a completion (R11, R16, R141, R152). -/

namespace Sys2Proof.Machine

/-- Settles O1: the front command is executed on the state with the queue's rest, and an empty queue idles. -/
theorem stepRunsFrontCommand : Obligations.StepRunsFrontCommand := by
  refine ⟨fun c rest s h => ?_, fun s h => ?_⟩
  · unfold step
    rw [h]
    rfl
  · unfold step
    rw [h]

/-! ## The cold state (R11) -/

theorem vector_getElem_replicate {α : Type} {n : Nat} (x : α) (i : Fin n) : (Vector.replicate n x)[i] = x := by simp

theorem State.resetWith_cold (p : List Instr) (m : Memory) (r : Reply) (n f : Nat) : Cold (State.resetWith p m r n f) where
  path := ⟨rfl, rfl, rfl, rfl, rfl, rfl, rfl⟩
  queue := rfl
  frames := ⟨rfl, rfl, rfl, rfl, rfl, rfl, rfl, rfl, rfl⟩
  tags p := vector_getElem_replicate _ p
  lines i := by
    have h : (State.resetWith p m r n f).lines[i] = {} := vector_getElem_replicate _ i
    rw [h]
    exact ⟨rfl, rfl⟩
  tacho := ⟨rfl, rfl, rfl, rfl, rfl, rfl⟩
  gate := ⟨rfl, rfl, rfl, rfl, rfl⟩
  channels c := by
    rw [State.resetWith_chan]
    exact ⟨rfl, rfl, rfl, rfl⟩
  events := ⟨rfl, rfl, rfl, fun c => vector_getElem_replicate _ c⟩
  noPending := ⟨rfl, rfl⟩
  zones := ⟨rfl, rfl, rfl, fun z => by
    show vget (Vector.replicate 24 none) z none = none
    unfold vget
    by_cases hz : z < 24 <;> simp [hz]⟩
  slots := ⟨emptyCapture_map, emptyCapture_spare, rfl⟩
  captures := emptyCapture_table
  ring := ⟨rfl, rfl, rfl, rfl, rfl⟩
  notices := ⟨rfl, rfl, rfl, rfl, rfl, rfl⟩
  pins := ⟨show (!NoticeUnit.noticeActive {}) = true by decide, rfl, rfl, rfl⟩
  commands := ⟨rfl, rfl, fun i => by
    have h : (State.resetWith p m r n f).cmd.slots[i] = {} := vector_getElem_replicate _ i
    rw [h]
    exact ⟨rfl, rfl, fun k => vector_getElem_replicate _ k⟩⟩

theorem State.coldBus_not_granted {s : State} {b : BusAccess} (hb : s.path.bus = some b) (hp : s.path.port ≠ some .busSide) :
    s.coldBus.1 = s.mem ∧ (b.op = .read → s.coldBus.2.1 = .data 0xFFFFFFFF) := by
  simp only [State.coldBus, hb]
  split <;> simp_all [allOnes]

theorem State.coldBus_idle {s : State} (h : s.path.bus = none) : s.coldBus = (s.mem, s.path.reply, s.free) := by
  simp [State.coldBus, h]

/-- Settles O2: both states are the reset state but for what stands outside the part. -/
theorem coldResetLeavesColdState : Obligations.ColdResetLeavesColdState := by
  refine ⟨State.reset_eq_resetWith ▸ State.resetWith_cold _ _ _ _ _, fun s => ⟨s.coldReset, rfl, ?_, rfl, fun b hb hp => ?_, fun h => ?_⟩⟩
  · obtain ⟨m, r, n, h⟩ := s.coldReset_eq_resetWith
    rw [h]
    exact State.resetWith_cold _ _ _ _ _
  · exact State.coldBus_not_granted hb hp
  · have hidle := State.coldBus_idle h
    exact ⟨congrArg (·.1) hidle, congrArg (·.2.1) hidle⟩

/-! ## The Arbiter (R16, R17) -/

/-- The port granted to claimant `c`. -/
def State.grant (s : State) (c : Claimant) : State := { s with path := { s.path with port := some c, lastGrant := c } }

theorem State.arbitrate_of_port {s : State} (h : s.path.port ≠ none) : s.arbitrate = s := by
  unfold State.arbitrate
  split
  · rfl
  · next hp => exact absurd hp h

theorem State.arbitrate_of_choice {s : State} (h : s.path.port = none) {c : Option Claimant}
    (hc : arbiterChoice s.iq.length s.path.bus.isSome s.path.lastGrant = c) : s.arbitrate = (c.map s.grant).getD s := by
  unfold State.arbitrate
  rw [h, hc]
  cases c <;> rfl

/-- The Arbiter's decision changes the path only. -/
theorem State.arbitrate_form (s : State) : s.arbitrate = { s with path := s.arbitrate.path } := by
  unfold State.arbitrate
  split
  · rfl
  · split <;> rfl

theorem State.noteChanges_starting {s before : State} (h : s.path.state = .starting) : s.noteChanges before = s := by
  simp [State.noteChanges, h]

theorem State.noteChanges_of_not_starting {s before : State} (h : s.path.state ≠ .starting) :
    s.noteChanges before = s.markWhere fun w => marksOnChange w && (s.statusWord w != before.statusWord w) := by
  unfold State.noteChanges
  split
  · next hs => exact absurd hs h
  · rfl

theorem marksOnChange_iff {w : Nat} : marksOnChange w = true ↔ w = 1 ∨ (3 ≤ w ∧ w ≤ 16) ∨ (20 ≤ w ∧ w ≤ 29) := by
  simp [marksOnChange, or_assoc]

theorem mem_markable {w : Nat} : w ∈ markable ↔ 1 ≤ w ∧ w ≤ 61 := by
  rw [markable, List.range_eq_range', List.drop_range', List.mem_range'_1]
  omega

theorem State.markWhere_marks (s : State) (p : Nat → Bool) :
    (s.markWhere p).status.marks = markable.filter fun w => s.status.marks.contains w || p w := rfl

theorem markable_pairwise : markable.Pairwise (· < ·) := by decide

/-- Marking changes the marks only. -/
theorem State.noteChanges_form (s before : State) :
    s.noteChanges before = { s with status := { s.status with marks := (s.noteChanges before).status.marks } } := by
  unfold State.noteChanges
  split <;> rfl

theorem State.settle_marks (before after : State) :
    (before.settle after).status.marks = (after.noteChanges before).status.marks := by
  rw [State.settle, State.arbitrate_form]

/-- Settles O16: the grant is the table's row for the count, and settling marks the changed words. -/
theorem arbiterGrantsAndSettleMarks : Obligations.ArbiterGrantsAndSettleMarks := by
  refine ⟨fun s => ⟨State.arbitrate_of_port, fun hp => ?_⟩, fun before after => ⟨?_, fun h => ?_, fun h => ⟨?_, fun w => ?_⟩, ?_⟩⟩
  · have hchoice (c : Option Claimant) := State.arbitrate_of_choice (c := c) hp
    unfold arbiterChoice queueCapacity at hchoice
    refine ⟨fun hn hb => ?_, fun hn hb => ?_, fun hn hb => ?_, fun h1 h2 hb => ?_, fun h1 h2 hb hl => ?_, fun h1 h2 hb hl => ?_,
      fun h1 hb => ?_⟩
    · exact hchoice none (by simp [hn, hb])
    · exact hchoice (some .busSide) (by simp [hn, Option.isSome_iff_ne_none.2 hb])
    · have h0 : s.iq.length ≠ 0 := hn.ne'
      exact hchoice (some .internal) (by simp [hb, h0])
    · have h0 : s.iq.length ≠ 0 := by omega
      have h48 : s.iq.length < 48 := by omega
      exact hchoice (some .busSide) (by simp [Option.isSome_iff_ne_none.2 hb, h0, h48])
    · have h0 : s.iq.length ≠ 0 := by omega
      have h48 : ¬ s.iq.length < 48 := by omega
      have h64 : s.iq.length < 64 := by omega
      exact hchoice (some .internal) (by simp [Option.isSome_iff_ne_none.2 hb, hl, h0, h48, h64])
    · have h0 : s.iq.length ≠ 0 := by omega
      have h48 : ¬ s.iq.length < 48 := by omega
      have h64 : s.iq.length < 64 := by omega
      exact hchoice (some .busSide) (by simp [Option.isSome_iff_ne_none.2 hb, hl, h0, h48, h64])
    · have h0 : s.iq.length ≠ 0 := by omega
      have h48 : ¬ s.iq.length < 48 := by omega
      have h64 : ¬ s.iq.length < 64 := by omega
      exact hchoice (some .internal) (by simp [Option.isSome_iff_ne_none.2 hb, h0, h48, h64])
  · have hpath : (after.noteChanges before).arbitrate.path = after.arbitrate.path := by
      rw [State.noteChanges_form]
      unfold State.arbitrate
      cases after.path.port with
      | some c => rfl
      | none => cases arbiterChoice after.iq.length after.path.bus.isSome after.path.lastGrant <;> rfl
    show (after.noteChanges before).arbitrate = _
    rw [State.arbitrate_form, hpath, State.settle_marks, State.noteChanges_form]
  · rw [State.settle_marks, State.noteChanges_starting h]
  · rw [State.settle_marks, State.noteChanges_of_not_starting h]
    rw [State.markWhere_marks]
    exact markable_pairwise.filter _
  · have hmem : w ∈ (before.settle after).status.marks ↔ w ∈ markable.filter fun w =>
        after.status.marks.contains w || (marksOnChange w && (after.statusWord w != before.statusWord w)) := by
      rw [State.settle_marks, State.noteChanges_of_not_starting h]
      rfl
    rw [hmem, List.mem_filter, mem_markable, Bool.or_eq_true, Bool.and_eq_true, marksOnChange_iff, bne_iff_ne,
      List.contains_iff_mem]
  · rw [State.settle_marks]
    exact State.noteChanges_form _ _

/-! ## Completion words (R15, R152) -/

theorem fieldOf_lt (w : Word) (lo width : Nat) : fieldOf w lo width < 2 ^ width := Nat.mod_lt _ (Nat.two_pow_pos _)

/-- The fields of a completion word (section 11.3). -/
theorem completionWord_fields (fn : Word) (code : Code) (disturbed : Bool) :
    let w := completionWord fn code disturbed
    fieldOf w 0 8 = fieldOf fn 0 8 ∧ fieldOf w 8 8 = fieldOf fn 8 8 ∧ w.getLsbD 24 = disturbed ∧ fieldOf w 25 7 = 0
      ∧ fieldOf w 16 8 = code.byte := by
  intro w
  have ha : Ascending 0 [(functionCode fn, 0, 8), (functionTag fn, 8, 8), (code.byte, 16, 8), (flag disturbed, 24, 1)] := by
    simp [Ascending]
  have hcode : functionCode fn = fieldOf fn 0 8 := bits_eq_fieldOf _ _ _
  have htag : functionTag fn = fieldOf fn 8 8 := bits_eq_fieldOf _ _ _
  have hbyte : code.byte < 2 ^ 8 := by cases code <;> decide
  refine ⟨?_, ?_, getLsbD_packWord ha (by simp), ?_, fieldOf_packWord_of_lt ha (by simp) hbyte⟩
  · exact (fieldOf_packWord_of_lt ha (by simp) (hcode ▸ fieldOf_lt _ _ _)).trans hcode
  · exact (fieldOf_packWord_of_lt ha (by simp) (htag ▸ fieldOf_lt _ _ _)).trans htag
  · have hf := flag_lt disturbed
    rw [fieldOf, show w.toNat = _ from packWord_toNat ha]
    simp
    omega

theorem State.command_turned_away {s : State} {fn : Nat} (work : Vector Word 16 → State → State)
    (h : s.path.state ≠ .running ∨ s.cmd.exec ≠ none ∨ s.cmd.queue = []
      ∨ ∃ i rest, s.cmd.queue = i :: rest ∧ fieldOf s.cmd.slots[i].shadow[0] 0 8 ≠ fn) : s.command fn work = s := by
  unfold State.command
  split
  · next i rest hrun hexec hqueue =>
    refine if_neg fun hcode => ?_
    have hfn : functionCode (vget s.cmd.slots[i].shadow 0 0) = fieldOf s.cmd.slots[i].shadow[0] 0 8 := by
      rw [functionCode, bits_eq_fieldOf]
      rfl
    obtain h | h | h | ⟨j, r, hj, hne⟩ := h
    · exact h hrun
    · exact h hexec
    · exact absurd (hqueue.symm.trans h) (List.cons_ne_nil _ _)
    · cases hqueue.symm.trans hj
      exact hne (hfn.symm.trans hcode)
  · rfl

/-- Settles O53: a ready word goes behind those that wait, with the fields of its slot. -/
theorem completionWordsArePlaced : Obligations.CompletionWordsArePlaced := by
  refine ⟨fun s i code h => State.placeCompletions_eq _ s h, fun s i code => ?_, fun s fn work h => State.command_turned_away work h⟩
  intro w fn
  obtain ⟨h1, h2, h3, h4, h5⟩ := completionWord_fields fn code s.cmd.slots[i].disturbed
  refine ⟨h1, h2, h3, h4, h5.trans ?_⟩
  cases code <;> rfl

end Sys2Proof.Machine
end

section
/-! PROOFS. Granted bus-side accesses complete, and the copies of status words 62 and 63 (R1, R2, R10, R138, R146 to R148, R163). -/

namespace Sys2Proof.Machine

/-! ## Words and their bytes (R163) -/

theorem byteOf_eq (w : Word) (n : Nat) : byteOf w n = BitVec.ofNat 8 (fieldOf w (8 * n) 8) := by
  refine BitVec.eq_of_toNat_eq ?_
  rw [byteOf, fieldOf, BitVec.toNat_ofNat, BitVec.toNat_ofNat, Nat.mod_mod, Nat.shiftRight_eq_div_pow]

theorem byteOf_toNat (w : Word) (n : Nat) : (byteOf w n).toNat = fieldOf w (8 * n) 8 := by
  rw [byteOf_eq, BitVec.toNat_ofNat, Nat.mod_eq_of_lt (fieldOf_lt _ _ _)]

theorem toNat_append_byte {k : Nat} (x : BitVec k) (y : Byte) : (x ++ y).toNat = 256 * x.toNat + y.toNat := by
  rw [BitVec.toNat_append, ← Nat.shiftLeft_add_eq_or_of_lt y.isLt, Nat.shiftLeft_eq, Nat.mul_comm]

theorem wordOf_toNat (b0 b1 b2 b3 : Byte) :
    (wordOf b0 b1 b2 b3).toNat = b0.toNat + 256 * b1.toNat + 65536 * b2.toNat + 16777216 * b3.toNat := by
  unfold wordOf
  rw [toNat_append_byte, toNat_append_byte, toNat_append_byte]
  omega

theorem readWord_eq_bytesWord (m : Memory) (a : Nat) : Memory.readWord m a = bytesWord m (a - a % 4) := by
  refine BitVec.eq_of_toNat_eq ?_
  unfold Memory.readWord bytesWord wordBase
  have h0 := (m.read (a - a % 4)).isLt
  have h1 := (m.read (a - a % 4 + 1)).isLt
  have h2 := (m.read (a - a % 4 + 2)).isLt
  have h3 := (m.read (a - a % 4 + 3)).isLt
  rw [wordOf_toNat, BitVec.toNat_ofNat]
  exact (Nat.mod_eq_of_lt (by omega)).symm

/-- A lane of a merge is the new byte where the lane is enabled, and the old one elsewhere (R10). -/
theorem mergeLanes_field (old new : Word) (lanes : Lanes) (n : Fin 4) :
    fieldOf (mergeLanes old new lanes) (8 * n) 8
      = if lanes.getLsbD n then fieldOf new (8 * n) 8 else fieldOf old (8 * n) 8 := by
  have hpick (k : Nat) : (if lanes.getLsbD k then byteOf new k else byteOf old k).toNat
      = if lanes.getLsbD k then fieldOf new (8 * k) 8 else fieldOf old (8 * k) 8 := by
    split <;> exact byteOf_toNat _ _
  rw [← hpick]
  have h0 := (if lanes.getLsbD 0 then byteOf new 0 else byteOf old 0).isLt
  have h1 := (if lanes.getLsbD 1 then byteOf new 1 else byteOf old 1).isLt
  have h2 := (if lanes.getLsbD 2 then byteOf new 2 else byteOf old 2).isLt
  have h3 := (if lanes.getLsbD 3 then byteOf new 3 else byteOf old 3).isLt
  unfold fieldOf mergeLanes
  dsimp only
  rw [wordOf_toNat]
  match n with
  | 0 => show _ / 2 ^ 0 % 2 ^ 8 = (if lanes.getLsbD 0 then byteOf new 0 else byteOf old 0).toNat; omega
  | 1 => show _ / 2 ^ 8 % 2 ^ 8 = (if lanes.getLsbD 1 then byteOf new 1 else byteOf old 1).toNat; omega
  | 2 => show _ / 2 ^ 16 % 2 ^ 8 = (if lanes.getLsbD 2 then byteOf new 2 else byteOf old 2).toNat; omega
  | 3 => show _ / 2 ^ 24 % 2 ^ 8 = (if lanes.getLsbD 3 then byteOf new 3 else byteOf old 3).toNat; omega

/-! ## Granted accesses (R1, R2) -/

section
variable {s : State} {m : Nat} {lanes : Lanes} {w : Word} {place : Place}

theorem State.granted_of_port {b : BusAccess} (hp : s.path.port = some .busSide) (hb : s.path.bus = some b) : s.granted = some b := by
  simp [State.granted, hp, hb]

theorem State.performBus_read {b : BusAccess} (h : b.op = .read) : s.performBus b
    = { s with path := { s.path with bus := none, port := none, reply := .data (bytesWord s.mem (b.memAddr - b.memAddr % 4)) } } := by
  simp [State.performBus, h, readWord_eq_bytesWord]

theorem State.performBus_write {b : BusAccess} (h : b.op = .write lanes w) : s.performBus b = s.written b.memAddr lanes w := by
  simp [State.performBus, h, State.written]

theorem State.grantedSnoop_of_snoops (h : s.Snoops place m lanes w) :
    s.grantedSnoop = some (⟨.write lanes w, m, place, true⟩, lanes, w) := by
  obtain ⟨hp, hb⟩ := h
  simp [State.grantedSnoop, State.granted_of_port hp hb]

theorem exec_noticeControlWord (h : s.Snoops .noticeWord m lanes w) :
    exec .noticeControlWord s = .next (s.settle ((s.written m lanes w).snoopNotice lanes w)) := by
  simp only [exec, execNoticeControlWord, State.grantedSnoop_of_snoops h]
  rfl

theorem exec_consumerIndex (h : s.Snoops .consumerWord m lanes w) :
    exec .consumerIndex s = .next (s.settle ((s.written m lanes w).snoopConsumer lanes w)) := by
  simp only [exec, execConsumerIndex, State.grantedSnoop_of_snoops h]
  rfl

end

/-! ## The notice control word (R146 to R148) -/

theorem setWidth_half (v : Word) : v.setWidth 16 = (BitVec.ofNat 16 v.toNat : Half) := rfl

/-- The notice control word by its clear mode, and the stop latch by the factors that become pending. -/
theorem NoticeUnit.control_eq (n : NoticeUnit) (v : Word) (now : Nat) :
    let field : Half := BitVec.ofNat 16 v.toNat
    let level := fieldOf v 16 3
    (n.clearMode = .clearOnOne → n.control v now = { n with mask := level, pending := n.pending &&& ~~~field })
      ∧ (n.clearMode = .replace → (field &&& ~~~n.pending &&& n.sources = 0 ∨ n.latch = true) →
        n.control v now = { n with mask := level, pending := field })
      ∧ (n.clearMode = .replace → field &&& ~~~n.pending &&& n.sources ≠ 0 → n.latch = false →
        n.control v now = { n with
          mask := level
          pending := field ||| 0x4000
          latch := true
          pulse := if n.mode = .pulse then some now else none }) := by
  intro field level
  have hlevel : bits v 16 3 = level := bits_eq_fieldOf _ _ _
  have hfield : v.setWidth 16 = field := rfl
  unfold NoticeUnit.control
  rw [hlevel, hfield]
  clear_value field level
  refine ⟨fun h => by rw [h], fun h hno => ?_, fun h hsrc hl => ?_⟩
  · rw [h]
    dsimp only
    split
    · rfl
    · next hsrc =>
      obtain hno | hno := hno
      · exact absurd hno hsrc
      · exact if_pos hno
  · rw [h]
    dsimp only
    rw [if_neg hsrc, NoticeUnit.setLatch, if_neg (by simp [hl])]
    cases hm : n.mode <;> simp [fStopAsserted, factorBit]

/-! ## The consumer index (R138) -/

section
variable {s : State} {v : Word}

theorem State.takeConsumer_ignored (h : s.windows.r ≤ v.toNat) : s.takeConsumer v = s := if_neg (Nat.not_lt_of_le h)

theorem State.takeConsumer_at_once (h : v.toNat < s.windows.r) (hp : s.report.placing = none) :
    s.takeConsumer v = { s with report := { s.report with c := v.toNat } } := by simp [State.takeConsumer, h, hp]

theorem State.takeConsumer_later (h : v.toNat < s.windows.r) (hp : s.report.placing ≠ none) :
    s.takeConsumer v = { s with report := { s.report with pendingC := some v.toNat } } := by
  obtain ⟨pl, hpl⟩ := Option.ne_none_iff_exists'.1 hp
  simp [State.takeConsumer, h, hpl]

end

/-- Settles O18: the access is performed whole, and each snooped word goes to its owner. -/
theorem grantedAccessesComplete : Obligations.GrantedAccessesComplete := by
  refine ⟨fun s b hp hb hsn => ?_, fun m a lanes w n hm => ?_, mergeLanes_field, fun s m lanes w h => ?_,
    fun s t m lanes w h ht => ?_⟩
  · have hexec : exec .busAccessComplete s = .next (s.settle (s.performBus b)) := by
      simp [exec, execBusAccessComplete, State.settled, State.granted_of_port hp hb, hsn]
    rw [hexec]
    refine ⟨fun hop => ?_, fun lanes w hop => ?_⟩
    · rw [State.performBus_read hop]
    · rw [State.performBus_write hop]
  · rw [← byteOf_eq]
    exact Memory.read_writeWord_lane a lanes w n hm
  · intro v field u level base
    obtain ⟨hclear, hkeep, hset⟩ := NoticeUnit.control_eq s.notice v s.clock
    have hsnoop : (s.written m lanes w).snoopNotice lanes w = base (s.notice.control v s.clock) := rfl
    rw [exec_noticeControlWord h, hsnoop]
    refine ⟨fun hc => ?_, fun hc hno => ?_, fun hc hsrc hl => ?_⟩
    · rw [hclear hc]
    · rw [hkeep hc hno]
    · rw [hset hc hsrc hl]
  · intro v u base
    have hwin : s.windows.r = t.r := by simp [State.windows, ht]
    have hsnoop : (s.written m lanes w).snoopConsumer lanes w = State.takeConsumer (base s.report) v := rfl
    rw [exec_consumerIndex h, hsnoop]
    refine ⟨fun hr => ?_, fun hr hp => ?_, fun hr hp => ?_⟩
    · rw [State.takeConsumer_ignored (s := base s.report) (hwin.trans_le hr)]
    · rw [State.takeConsumer_at_once (s := base s.report) (hr.trans_eq hwin.symm) hp]
    · rw [State.takeConsumer_later (s := base s.report) (hr.trans_eq hwin.symm) hp]

end Sys2Proof.Machine
end

section
/-! PROOFS. The access of the oldest internal entry (R14, R15, R152, R155), and a record written or suppressed (R138 to R140). -/

namespace Sys2Proof.Machine

/-! ## The oldest internal entry -/

section
variable {s : State} {r : Request} {rest : List Request}

theorem State.internalHead_eq (hp : s.path.port = some .internal) (hq : s.iq = r :: rest) : s.internalHead = some (r, rest) := by
  simp [State.internalHead, hp, hq]

theorem exec_internalAccessComplete (h : s.internalHead = some (r, rest)) :
    exec (.internalAccessComplete none) s = .next (s.settle (s.performInternal r rest))
      ∧ ∀ src, exec (.internalAccessComplete (some src)) s = .next (s.settle ((s.performInternal r rest).pump src)) := by
  simp [exec, execInternalAccessComplete, State.settled, h]

theorem wordBytes_eq (w : Word) : wordBytes w = (List.range 4).map fun n => BitVec.ofNat 8 (fieldOf w (8 * n) 8) := by
  simp [wordBytes, byteOf_eq, List.range_succ]

theorem entriesOk_iff {l : List Byte} : l.all (fun b => entryOk b.toNat) = true ↔ ∀ b ∈ l, b.toNat ≤ 23 ∨ b.toNat = 31 := by
  simp [entryOk]

theorem State.receiveTableWord_loading {i : Fin 8} {got : List Byte} (h : s.cmd.exec = some ⟨i, .loading got⟩) (w : Word) :
    s.receiveTableWord w =
      if (got ++ wordBytes w).length < 196 then s.setJob (.loading (got ++ wordBytes w))
      else if (got ++ wordBytes w).all (fun b => entryOk b.toNat) then
        (s.modTable fun _ => tableOf fun n => (got ++ wordBytes w)[n]?.getD 0).complete .done
      else s.complete .refusedValue := by
  simp only [State.receiveTableWord, h]
  rfl

theorem State.receiveTableWord_not_loading (h : ∀ i got, s.cmd.exec ≠ some ⟨i, .loading got⟩) (w : Word) :
    s.receiveTableWord w = s := by
  unfold State.receiveTableWord
  split
  · next i got he => exact absurd he (h i got)
  · rfl

end

/-- Settles O19: each kind of entry does what it stands for, and a source named first is placed behind it. -/
theorem internalAccessCompletes : Obligations.InternalAccessCompletes := by
  intro s r rest hp hq left gives
  obtain ⟨hnone, hsome⟩ := exec_internalAccessComplete (State.internalHead_eq hp hq)
  have hgives {u : State} (h : s.performInternal r rest = u) : gives u := by
    subst h
    exact ⟨hnone, hsome⟩
  refine ⟨fun w ha => hgives ?_, fun i w ha => hgives ?_, fun i got ha he => ?_, fun ha he => hgives ?_⟩
  · simp only [State.performInternal, ha]
    rfl
  · simp only [State.performInternal, ha]
    rfl
  · intro w all
    have hleft : left.cmd.exec = some ⟨i, .loading got⟩ := he
    have hall : got ++ wordBytes w = all := by rw [wordBytes_eq]
    have hperform : s.performInternal r rest = left.receiveTableWord w := by
      simp only [State.performInternal, ha, readWord_eq_bytesWord]
      rfl
    rw [State.receiveTableWord_loading hleft, hall] at hperform
    refine ⟨fun hlt => hgives ?_, fun hle hok => hgives ?_, fun hle hok => hgives ?_⟩
    · rw [hperform, if_pos hlt, State.setJob, hleft]
      rfl
    · rw [hperform, if_neg (Nat.not_lt_of_le hle), if_pos (entriesOk_iff.2 hok)]
    · rw [hperform, if_neg (Nat.not_lt_of_le hle), if_neg (mt entriesOk_iff.1 hok)]
  · have hperform : s.performInternal r rest = left.receiveTableWord (Memory.readWord s.mem r.addr) := by
      simp only [State.performInternal, ha]
      rfl
    rw [hperform, State.receiveTableWord_not_loading (s := left) he]

/-! ## A record taken (R138 to R140) -/

section
variable {s : State} {r : Record} {rest : List Record} {t : WindowTable}

theorem State.recordDue_eq (hst : s.path.state ≠ .starting) (hp : s.report.placing = none) (hh : s.report.handed = r :: rest) :
    s.recordDue = some (r, rest) := by
  unfold State.recordDue
  cases hs : s.path.state with
  | starting => exact absurd hs hst
  | running => rw [hp, hh]
  | reloading => rw [hp, hh]

theorem exec_recordTaken (h : s.recordDue = some (r, rest)) :
    exec .recordTaken s = .next (s.settle (State.resume (s.takeRecord r rest))) := by
  simp [exec, execRecordTaken, State.settled, h]

/-- The 32 words of a record: the header, the body, and 0 beyond the length (R139). -/
theorem State.recordImage_eq (hb : r.body.length ≤ 30) : s.recordImage r =
    BitVec.ofNat 32 (r.kind.code + 256 * (r.body.length + 2) + 65536 * s.report.seq.toNat)
      :: BitVec.ofNat 32 (s.report.gap % 65536 + 65536 * (s.zone.mouldType % 256) + 16777216 * (r.flags % 256))
      :: r.body ++ List.replicate (30 - r.body.length) 0 := by
  have h0 : packWord [(r.kind.code, 0, 8), (r.body.length + 2, 8, 8), (s.report.seq.toNat, 16, 16)]
      = BitVec.ofNat 32 (r.kind.code + 256 * (r.body.length + 2) + 65536 * s.report.seq.toNat) := by
    have hseq := s.report.seq.isLt
    have hkind : r.kind.code < 256 := by cases r.kind <;> decide
    refine packWord_eq_ofNat (by simp [Ascending]) ?_
    simp
    omega
  have h1 : packWord [(s.report.gap, 0, 16), (s.zone.mouldType, 16, 8), (r.flags, 24, 8)]
      = BitVec.ofNat 32 (s.report.gap % 65536 + 65536 * (s.zone.mouldType % 256) + 16777216 * (r.flags % 256)) :=
    packWord_eq_ofNat (by simp [Ascending]) (by simp; omega)
  have htake (x y : Word) : (x :: y :: r.body ++ List.replicate 32 (0 : Word)).take 32
      = x :: y :: r.body ++ List.replicate (30 - r.body.length) 0 := by
    have hlen : (x :: y :: r.body).length = r.body.length + 2 := rfl
    have hmin : min (32 - (r.body.length + 2)) 32 = 30 - r.body.length := by omega
    rw [List.take_append, List.take_of_length_le (by omega), List.take_replicate, hlen, hmin]
  exact (htake _ _).trans (congrArg₂ (fun x y => x :: y :: r.body ++ List.replicate (30 - r.body.length) 0) h0 h1)

theorem State.ringFull_iff (ht : s.path.windows = some t) : s.ringFull = true ↔ (s.report.p + 1) % t.r = s.report.c := by
  simp [State.ringFull, State.windows, ht]

end

/-- The state once the last word of a record has been placed (R138, R139). -/
def State.recordEnded (s : State) (requests : List Request) (p : Nat) (placing : Option Placing) : State :=
  { s with
    iq := s.iq ++ requests
    report := { s.report with
      p := p
      seq := s.report.seq + 1
      gap := 0
      c := s.report.pendingC.getD s.report.c
      pendingC := none
      placing := placing } }

/-- Settles O45: a full ring suppresses the record, and otherwise its words are placed as room allows. -/
theorem recordIsWrittenOrSuppressed : Obligations.RecordIsWrittenOrSuppressed := by
  intro s t r rest hst ht hp hh hb base h0 h1 words room addr requests
  have hexec := exec_recordTaken (State.recordDue_eq hst hp hh)
  have hbase : base.path.windows = some t := ht
  have hwin : base.windows = t := by simp [State.windows, hbase]
  have himage : base.recordImage r = words := State.recordImage_eq hb
  have hlen : words.length = 32 := by
    simp [words]
    omega
  have htake : s.takeRecord r rest = if base.ringFull then (base.suppress, some r.cont)
      else ({ base with report := { base.report with placing := some ⟨r.kind, base.windows.br + 128 * base.report.p,
        base.recordImage r, r.cont⟩ } } : State).pumpRecord := rfl
  rw [hwin, himage] at htake
  refine ⟨fun hfull => ?_, fun hfull hroom => ?_, fun hfull hroom => ?_⟩
  · rw [hexec, htake, if_pos ((State.ringFull_iff hbase).2 hfull)]
    rfl
  · have hpl : ({ base with report := { base.report with placing := some ⟨r.kind, addr, words, r.cont⟩ } } : State).report.placing
        = some ⟨r.kind, addr, words, r.cont⟩ := rfl
    have hpump := State.pumpRecord_of_room hpl (hlen.trans_le hroom)
    have htw : words.take room = words.take 32 := by rw [List.take_of_length_le (hlen.trans_le hroom), List.take_of_length_le hlen.le]
    rw [hexec, htake, if_neg (mt (State.ringFull_iff hbase).1 hfull), hpump]
    refine congrArg (fun u => Host.Outcome.next (s.settle (State.runCont u r.cont))) ?_
    show base.recordEnded ((words.take room).zipIdx.map fun x => ⟨addr + 4 * x.2, .write x.1⟩) ((s.report.p + 1) % base.windows.r) none
      = base.recordEnded (requests 32) ((s.report.p + 1) % t.r) s.report.placing
    rw [htw, hwin, hp]
  · have hpl : ({ base with report := { base.report with placing := some ⟨r.kind, addr, words, r.cont⟩ } } : State).report.placing
        = some ⟨r.kind, addr, words, r.cont⟩ := rfl
    have hpump := State.pumpRecord_of_no_room hpl (hroom.trans_eq hlen.symm)
    rw [hexec, htake, if_neg (mt (State.ringFull_iff hbase).1 hfull), hpump]
    rfl

end Sys2Proof.Machine
end

section
/-! PROOFS. Command-window writes by slot state and the terminator test (R149 to R152). -/

namespace Sys2Proof.Machine

/-- The argument counts of R153 as a list. -/
def fixedCounts : List (Nat × Nat) :=
  [(0x01, 0), (0x02, 7), (0x03, 5), (0x04, 5), (0x05, 9), (0x07, 3), (0x08, 2), (0x09, 3), (0x0A, 1),
    (0x0B, 2), (0x0C, 1), (0x0D, 1), (0x0E, 1), (0x0F, 1), (0x10, 0), (0x11, 3), (0x12, 2), (0x13, 0), (0x14, 0), (0x15, 0)]

theorem fixedArgs_eq_lookup (code : Nat) : fixedArgs code = fixedCounts.lookup code := by
  unfold fixedArgs fixedCounts
  split
  case h_21 => exact (List.lookup_eq_none_iff.2 (by simp_all)).symm
  all_goals rfl

/-! ## The terminator test (R150) -/

section
variable {shadow : Vector Word 16} {i : Nat}

theorem terminatorTest_fixed (hc : functionCode (vget shadow 0 0) ≠ 0x06) {n : Nat}
    (h : fixedArgs (functionCode (vget shadow 0 0)) = some n) (hi : 1 ≤ i) :
    terminatorTest shadow i = if i = n + 1 then .taken else .plain := by
  have hi' : i - 1 = n ↔ i = n + 1 := by omega
  unfold terminatorTest codeLoadGateProgram
  dsimp only
  rw [if_neg hc, h]
  exact if_congr hi' rfl rfl

theorem terminatorTest_unknown (hc : functionCode (vget shadow 0 0) ≠ 0x06)
    (h : fixedArgs (functionCode (vget shadow 0 0)) = none) : terminatorTest shadow i = .unknown := by
  unfold terminatorTest codeLoadGateProgram
  dsimp only
  rw [if_neg hc, h]

theorem terminatorTest_program (hc : functionCode (vget shadow 0 0) = 0x06)
    (hn : 1 ≤ (vget shadow 1 0).toNat ∧ (vget shadow 1 0).toNat ≤ 12) :
    terminatorTest shadow i = if i = (vget shadow 1 0).toNat + 2 then .taken else .plain := by
  have hi : i - 1 = 1 + (vget shadow 1 0).toNat ↔ i = (vget shadow 1 0).toNat + 2 := by omega
  unfold terminatorTest codeLoadGateProgram
  dsimp only
  rw [if_pos hc, if_pos (stepCountOk_iff.2 hn)]
  exact if_congr hi rfl rfl

theorem terminatorTest_badCount (hc : functionCode (vget shadow 0 0) = 0x06)
    (hn : ¬ (1 ≤ (vget shadow 1 0).toNat ∧ (vget shadow 1 0).toNat ≤ 12)) :
    terminatorTest shadow i = if 2 ≤ i then .taken else .plain := by
  unfold terminatorTest codeLoadGateProgram
  dsimp only
  rw [if_pos hc, if_neg (mt stepCountOk_iff.1 hn)]

end

/-! ## A write by the state of its slot (R149) -/

section
variable {s : State} {i : Fin 8} {k : Fin 16} {lanes : Lanes} {w : Word}

/-- The write is of a terminator: FFFFFFFFH on all lanes, to a word other than word 0. -/
theorem terminator_iff : (fullWord lanes && w == allOnes && k != 0) = true ↔ lanes = 0xF ∧ w = 0xFFFFFFFF ∧ k ≠ 0 := by
  simp [fullWord, allOnes, and_assoc]

theorem vget_shadow (v : Vector Word 16) (k : Fin 16) : vget v k 0 = v[k] := vget_fin v k 0

/-- The shadow of slot `i` after the write (R149). -/
def State.shadowAfter (s : State) (i : Fin 8) (k : Fin 16) (lanes : Lanes) (w : Word) : Vector Word 16 :=
  s.cmd.slots[i].shadow.set k (mergeLanes s.cmd.slots[i].shadow[k] w lanes)

/-- The state with slot `i` replaced. -/
def State.withSlot (s : State) (i : Fin 8) (y : Slot) : State := { s with cmd := { s.cmd with slots := s.cmd.slots.set i y } }

theorem State.slotWrite_busy (h : s.cmd.slots[i].state = .pending ∨ s.cmd.slots[i].state = .executing) :
    s.slotWrite i k lanes w = s.modSlot i (fun y => { y with disturbed := true }) := by
  unfold State.slotWrite
  rcases h with h | h <;> · dsimp only; rw [h]

theorem State.slotWrite_done (h : s.cmd.slots[i].state = .done) :
    s.slotWrite i k lanes w = if k = 0 then
      s.modSlot i (fun y => { y with shadow := s.shadowAfter i k lanes w, state := .free, disturbed := false }) else s := by
  unfold State.slotWrite State.shadowAfter
  dsimp only
  rw [h, vget_shadow]
  rfl

theorem State.slotWrite_free (h : s.cmd.slots[i].state = .free) :
    s.slotWrite i k lanes w = if fullWord lanes && w == allOnes && k != 0 then
        (s.modSlot i fun y => { y with shadow := s.shadowAfter i k lanes w }).testTerminator i k
      else s.modSlot i fun y => { y with shadow := s.shadowAfter i k lanes w } := by
  unfold State.slotWrite State.shadowAfter
  dsimp only
  rw [h, vget_shadow]
  rfl

/-- The slot just replaced is read back. -/
theorem State.withSlot_slot {y : Slot} : (s.withSlot i y).cmd.slots[i] = y := by
  unfold State.withSlot
  exact Vector.getElem_set_self i.isLt

theorem State.withSlot_withSlot {x y : Slot} : (s.withSlot i x).withSlot i y = s.withSlot i y := by
  unfold State.withSlot
  dsimp only
  rw [Vector.set_set]

/-- The state with slot `i` taken (R150). -/
def State.withTaken (s : State) (i : Fin 8) (y : Slot) : State :=
  { s with cmd := { s.cmd with slots := s.cmd.slots.set i { y with state := .pending }, queue := s.cmd.queue ++ [i] } }

section
variable {y : Slot} {n : Nat}

theorem State.testTerminator_taken (h : terminatorTest y.shadow n = .taken) :
    (s.withSlot i y).testTerminator i n = s.withTaken i y := by
  unfold State.testTerminator
  rw [State.withSlot_slot, h]
  unfold State.takeCommand State.modSlot
  rw [State.withSlot_slot]
  exact congrArg (fun u : State => { u with cmd := { u.cmd with queue := s.cmd.queue ++ [i] } }) State.withSlot_withSlot

theorem State.testTerminator_plain (h : terminatorTest y.shadow n = .plain) :
    (s.withSlot i y).testTerminator i n = s.withSlot i y := by
  unfold State.testTerminator
  rw [State.withSlot_slot, h]

theorem State.testTerminator_unknown (h : terminatorTest y.shadow n = .unknown) :
    (s.withSlot i y).testTerminator i n = (s.withSlot i { y with state := .pending }).queueCompletion i .refusedUnknown := by
  unfold State.testTerminator
  rw [State.withSlot_slot, h]
  unfold State.modSlot
  rw [State.withSlot_slot]
  exact congrArg (State.queueCompletion · i .refusedUnknown) State.withSlot_withSlot

end

theorem exec_commandWindowWrite {m : Nat} (h : s.Snoops (.command i k) m lanes w) :
    exec .commandWindowWrite s = .next (s.settle ((s.written m lanes w).slotWrite i k lanes w)) := by
  simp only [exec, execCommandWindowWrite, State.grantedSnoop_of_snoops h]
  rfl

end

/-- Settles O51, by the state of the slot and, in FREE, by the terminator test's table. -/
theorem commandWindowWritesActOnSlots : Obligations.CommandWindowWritesActOnSlots := by
  unfold Obligations.CommandWindowWritesActOnSlots
  intro s i k m lanes w h x shadow u slot gives terminator code count fixed stored taken
  have of_eq {v : State} (hv : u.slotWrite i k lanes w = v) : gives v := by
    subst hv
    exact exec_commandWindowWrite h
  have hcode : functionCode (vget shadow 0 0) = code := bits_eq_fieldOf _ 0 8
  have hcount : (vget shadow 1 0).toNat = count := rfl
  have hfixed : fixedArgs (functionCode (vget shadow 0 0)) = fixed := by rw [hcode]; exact fixedArgs_eq_lookup _
  have tested (hf : x.state = .free) (ht : terminator) :
      u.slotWrite i k lanes w = (u.withSlot i { x with shadow := shadow }).testTerminator i k :=
    (State.slotWrite_free (s := u) hf).trans (if_pos (terminator_iff.2 ht))
  have taken_of (hf : x.state = .free) (ht : terminator) (hk : terminatorTest shadow k = .taken) : gives taken :=
    of_eq ((tested hf ht).trans (State.testTerminator_taken hk))
  have plain_of (hf : x.state = .free) (ht : terminator) (hk : terminatorTest shadow k = .plain) : gives stored :=
    of_eq ((tested hf ht).trans (State.testTerminator_plain hk))
  have hk1 (ht : terminator) : 1 ≤ k.val := Nat.pos_of_ne_zero fun h0 => ht.2.2 (Fin.ext h0)
  refine ⟨fun hf ht => ?_, fun hf ht hc => ⟨fun n hn hk => ?_, fun n hn hk => ?_, fun hn => ?_⟩,
    fun hf ht hc => ⟨fun hn => ⟨fun hk => ?_, fun hk => ?_⟩, fun hn => ⟨fun hk => ?_, fun hk => ?_⟩⟩,
    fun hb => ?_, fun hd hk => ?_, fun hd hk => ?_⟩
  · exact of_eq ((State.slotWrite_free (s := u) hf).trans (if_neg (mt terminator_iff.1 ht)))
  · exact taken_of hf ht ((terminatorTest_fixed (hcode.trans_ne hc) (hfixed.trans hn) (hk1 ht)).trans (if_pos hk))
  · exact plain_of hf ht ((terminatorTest_fixed (hcode.trans_ne hc) (hfixed.trans hn) (hk1 ht)).trans (if_neg hk))
  · exact of_eq ((tested hf ht).trans (State.testTerminator_unknown (terminatorTest_unknown (hcode.trans_ne hc) (hfixed.trans hn))))
  · exact taken_of hf ht ((terminatorTest_program (hcode.trans hc) hn).trans (if_pos hk))
  · exact plain_of hf ht ((terminatorTest_program (hcode.trans hc) hn).trans (if_neg hk))
  · exact taken_of hf ht ((terminatorTest_badCount (hcode.trans hc) hn).trans (if_pos hk))
  · exact plain_of hf ht ((terminatorTest_badCount (hcode.trans hc) hn).trans (if_neg (by omega)))
  · exact of_eq (State.slotWrite_busy (s := u) hb)
  · exact of_eq ((State.slotWrite_done (s := u) hd).trans (if_pos hk))
  · exact of_eq ((State.slotWrite_done (s := u) hd).trans (if_neg hk))

end Sys2Proof.Machine
end

section
/-! PROOFS. SET DETECTOR, SET EVENT, SET WEIGHTS, SET ZONE POLICY and SET TACHO BAND (R42, R55, R81, R99, R153). -/

namespace Sys2Proof.Machine

/-! ## Clamped arguments (R153) -/

/-- An accepted command completes with DONE_CLAMPED exactly if an argument lay outside its limits (R153). -/
theorem doneCode_any (l : List (Nat × Nat × Nat)) : doneCode (l.any fun x => outside x.1 x.2.1 x.2.2) = codeFor l := by
  have hall : (l.all fun x => x.1 ≤ x.2.2 && x.2.2 ≤ x.2.1) = !(l.any fun x => outside x.1 x.2.1 x.2.2) := by
    rw [List.all_eq_not_any_not]
    refine congrArg (fun f => !(List.any l f)) (funext fun x => ?_)
    simp only [outside, Bool.not_and, ← decide_not, Nat.not_le]
  unfold doneCode codeFor
  rw [hall]
  cases l.any fun x => outside x.1 x.2.1 x.2.2 <;> rfl

theorem doneCode_eq_codeFor {b : Bool} {l : List (Nat × Nat × Nat)} (h : b = l.any fun x => outside x.1 x.2.1 x.2.2) :
    doneCode b = codeFor l := h ▸ doneCode_any l

theorem switchOf_eq (v : Nat) : switchOf v = if v ≤ 1 then some (decide (v = 1)) else none := by
  match v with
  | 0 | 1 => rfl
  | n + 2 => exact (if_neg (by omega)).symm

/-! ## The argument checks in the words of the rules -/

section
variable (sh : Vector Word 16) (base : EventSettings)

/-- R55: the seven settings of a SET DETECTOR, each at its nearest limit. -/
theorem detectorArgs_eq :
    let a := argument sh
    (detectorArgs sh).1 = ⟨limited 1 6 (a 1), limited 4 10 (a 2), limited 16 255 (a 3), limited 0 31 (a 4),
        limited 8 1023 (a 5), limited 0 1023 (a 6), limited 64 4095 (a 7)⟩
      ∧ doneCode (detectorArgs sh).2 = codeFor [(1, 6, a 1), (4, 10, a 2), (16, 255, a 3), (0, 31, a 4), (8, 1023, a 5),
          (0, 1023, a 6), (64, 4095, a 7)] := by
  refine ⟨?_, doneCode_eq_codeFor ?_⟩
  · simp only [detectorArgs, limited_eq, Nat.reduceLeDiff]
  · simp [detectorArgs, Bool.or_assoc]

/-- R81: the weights of a SET WEIGHTS, each at its nearest limit, over the settings it edits. -/
theorem weightArgs_eq :
    let a := argument sh
    (weightArgs base sh).1 = { base with
        gA := limited 0 15 (a 1), gB := limited 0 15 (a 2), gC := limited 0 15 (a 3), slope := limited 0 7 (a 4),
        octFloor := limited 0 14 (a 5) }
      ∧ doneCode (weightArgs base sh).2 = codeFor [(0, 15, a 1), (0, 15, a 2), (0, 15, a 3), (0, 7, a 4), (0, 14, a 5)] := by
  refine ⟨?_, doneCode_eq_codeFor ?_⟩
  · simp only [weightArgs, limited_zero_eq]
  · simp [weightArgs, Bool.or_assoc]

variable {sh base}

theorem eventArgs_of_bad_switch (h : 2 ≤ argument sh 3) : eventArgs base sh = .error .refusedValue := by
  simp only [eventArgs, switchOf_eq, if_neg (show ¬ argument sh 3 ≤ 1 by omega)]

/-- R81: the settings of an accepted SET EVENT. -/
theorem eventArgs_of_switch (h : argument sh 3 ≤ 1) :
    let a := argument sh
    ∃ clamped, eventArgs base sh = .ok ({ base with
        w := limited 1 4095 (a 1), wCap := limited 0 63 (a 2), suspect := decide (a 3 = 1), pre := limited 0 5 (a 4),
        post := limited 0 6 (a 5) }, clamped)
      ∧ doneCode clamped = codeFor [(1, 4095, a 1), (0, 63, a 2), (0, 5, a 4), (0, 6, a 5)] := by
  refine ⟨outside 1 4095 (argument sh 1) || outside 0 63 (argument sh 2) || outside 0 5 (argument sh 4)
      || outside 0 6 (argument sh 5), ?_, doneCode_eq_codeFor ?_⟩
  · simp only [eventArgs, switchOf_eq, if_pos h, limited_eq, Nat.reduceLeDiff]
  · simp [Bool.or_assoc]

theorem policyArgs_of_bad_switch (h : 2 ≤ argument sh 9) : policyArgs sh = .error .refusedValue := by
  simp only [policyArgs, switchOf_eq, if_neg (show ¬ argument sh 9 ≤ 1 by omega)]

theorem policyArgs_of_bad_order (h : argument sh 9 ≤ 1)
    (ho : ¬ (limited 1 1023 (argument sh 1) < limited 1 1023 (argument sh 2)
      ∧ limited 1 1023 (argument sh 2) < limited 1 1023 (argument sh 3))) : policyArgs sh = .error .refusedOrder := by
  simp only [limited_eq, Nat.reduceLeDiff] at ho
  simp [policyArgs, switchOf_eq, if_pos h, ho]

/-- R99: the policy of an accepted SET ZONE POLICY. -/
theorem policyArgs_of_order (h : argument sh 9 ≤ 1) :
    let a := argument sh
    let tw := limited 1 1023 (a 1)
    let ts := limited 1 1023 (a 2)
    let tc := limited 1 1023 (a 3)
    tw < ts → ts < tc → ∃ clamped, policyArgs sh = .ok (⟨tw, ts, tc, limited 0 (tw - 1) (a 4), limited 1 255 (a 5),
        limited 0 63 (a 6), limited 0 63 (a 7), limited 0 255 (a 8), decide (a 9 = 1)⟩, clamped)
      ∧ doneCode clamped = codeFor [(1, 1023, a 1), (1, 1023, a 2), (1, 1023, a 3), (0, tw - 1, a 4), (1, 255, a 5),
          (0, 63, a 6), (0, 63, a 7), (0, 255, a 8)] := by
  intro a tw ts tc h1 h2
  refine ⟨outside 1 1023 (a 1) || outside 1 1023 (a 2) || outside 1 1023 (a 3) || outside 0 (tw - 1) (a 4)
          || outside 1 255 (a 5) || outside 0 63 (a 6) || outside 0 63 (a 7) || outside 0 255 (a 8), ?_, doneCode_eq_codeFor ?_⟩
  · have hw : tw = clampTo 1 1023 (a 1) := limited_eq (by decide) _
    have hs : ts = clampTo 1 1023 (a 2) := limited_eq (by decide) _
    have hc : tc = clampTo 1 1023 (a 3) := limited_eq (by decide) _
    clear_value tw ts tc
    subst hw hs hc
    simp only [policyArgs, switchOf_eq, a, if_pos h, h1, h2, decide_true, Bool.and_self, if_true, limited_eq, limited_zero_eq,
      Nat.reduceLeDiff]
  · simp [Bool.or_assoc]

theorem bandArgs_of_reversed (h : limited 1 65535 (argument sh 2) < limited 1 65535 (argument sh 1)) :
    bandArgs sh = .error .refusedOrder := by
  simp only [limited_eq, Nat.reduceLeDiff] at h
  exact if_pos h

/-- R42: the band of an accepted SET TACHO BAND. -/
theorem bandArgs_of_order (h : limited 1 65535 (argument sh 1) ≤ limited 1 65535 (argument sh 2)) :
    ∃ clamped, bandArgs sh = .ok ((limited 1 65535 (argument sh 1), limited 1 65535 (argument sh 2)), clamped)
      ∧ doneCode clamped = codeFor [(1, 65535, argument sh 1), (1, 65535, argument sh 2)] := by
  refine ⟨outside 1 65535 (argument sh 1) || outside 1 65535 (argument sh 2), ?_, doneCode_eq_codeFor (by simp)⟩
  simp only [limited_eq, Nat.reduceLeDiff] at h ⊢
  exact if_neg (Nat.not_lt.2 h)

end

/-! ## The commands -/

section
variable {s : State} {i : Fin 8} {rest : List (Fin 8)}

theorem exec_setDetector_of_begins (h : s.Begins 0x02 i rest) :
    exec .setDetector s = .next (s.settle (State.answered
      { s with det := { s.det with pending := some (detectorArgs s.cmd.slots[i].shadow).1 } } i rest
      (doneCode (detectorArgs s.cmd.slots[i].shadow).2))) := congrArg s.settled (State.command_of_begins _ h)

theorem exec_setWeights_of_begins (h : s.Begins 0x04 i rest) :
    exec .setWeights s = .next (s.settle (State.answered
      { s with ev := { s.ev with pending := some (weightArgs (s.ev.pending.getD s.ev.settings) s.cmd.slots[i].shadow).1 } }
      i rest (doneCode (weightArgs (s.ev.pending.getD s.ev.settings) s.cmd.slots[i].shadow).2))) :=
  congrArg s.settled (State.command_of_begins _ h)

theorem exec_setEvent_of_begins (h : s.Begins 0x03 i rest) :
    exec .setEvent s = .next (s.settle ((s.begun i rest .completing).applyArgs
      (eventArgs (s.ev.pending.getD s.ev.settings) s.cmd.slots[i].shadow)
      fun y e => { y with ev := { y.ev with pending := some e } })) := congrArg s.settled (State.command_of_begins _ h)

theorem exec_setZonePolicy_of_begins (h : s.Begins 0x05 i rest) :
    exec .setZonePolicy s = .next (s.settle ((s.begun i rest .completing).applyArgs (policyArgs s.cmd.slots[i].shadow)
      fun y p => { y with zone := { y.zone with policy := p } })) := congrArg s.settled (State.command_of_begins _ h)

theorem exec_setTachoBand_of_begins (h : s.Begins 0x08 i rest) :
    exec .setTachoBand s = .next (s.settle ((s.begun i rest .completing).applyArgs (bandArgs s.cmd.slots[i].shadow)
      fun y b => { y with tacho := { y.tacho with pmin := b.1, pmax := b.2 } })) := congrArg s.settled (State.command_of_begins _ h)

end

/-- Settles O54: each command through what its argument check answers. -/
theorem settingsCommandsClampOrRefuse : Obligations.SettingsCommandsClampOrRefuse := by
  unfold Obligations.SettingsCommandsClampOrRefuse
  intro s i rest a base event
  refine ⟨fun h => ?_, fun h => ⟨fun h3 => ?_, fun h3 => ?_⟩, fun h => ?_, fun h => ?_, fun h => ?_⟩
  · obtain ⟨hv, hc⟩ := detectorArgs_eq s.cmd.slots[i].shadow
    rw [exec_setDetector_of_begins h, hv, hc]
    rfl
  · rw [exec_setEvent_of_begins h, eventArgs_of_bad_switch h3, State.applyArgs_error, State.complete_begun]
  · obtain ⟨clamped, hv, hc⟩ := eventArgs_of_switch (base := base) h3
    rw [exec_setEvent_of_begins h, hv, State.applyArgs_ok, hc]
    rfl
  · obtain ⟨hv, hc⟩ := weightArgs_eq s.cmd.slots[i].shadow base
    rw [exec_setWeights_of_begins h, hv, hc]
    rfl
  · intro tw ts tc
    refine ⟨fun h9 => ?_, fun h9 ho => ?_, fun h9 h1 h2 => ?_⟩
    · rw [exec_setZonePolicy_of_begins h, policyArgs_of_bad_switch h9, State.applyArgs_error, State.complete_begun]
    · rw [exec_setZonePolicy_of_begins h, policyArgs_of_bad_order h9 ho, State.applyArgs_error, State.complete_begun]
    · obtain ⟨clamped, hv, hc⟩ := policyArgs_of_order h9 h1 h2
      rw [exec_setZonePolicy_of_begins h, hv, State.applyArgs_ok, hc]
      rfl
  · intro lo hi
    refine ⟨fun ho => ?_, fun ho => ?_⟩
    · rw [exec_setTachoBand_of_begins h, bandArgs_of_reversed ho, State.applyArgs_error, State.complete_begun]
    · obtain ⟨clamped, hv, hc⟩ := bandArgs_of_order ho
      rw [exec_setTachoBand_of_begins h, hv, State.applyArgs_ok, hc]
      rfl

end Sys2Proof.Machine
end

section
/-! PROOFS. LOAD GATE PROGRAM and SET LINE (R37, R38, R43, R152). -/

namespace Sys2Proof.Machine

/-! ## LOAD GATE PROGRAM (R43, R152) -/

section
variable {sh : Vector Word 16}

theorem programArgs_of_bad_count (h : ¬ (1 ≤ argument sh 1 ∧ argument sh 1 ≤ 12)) : programArgs sh = .error .refusedLength :=
  if_neg (mt stepCountOk_iff.1 h)

/-- The step words of a LOAD GATE PROGRAM. -/
def programWords (sh : Vector Word 16) : List Word := (List.range (argument sh 1)).map fun j => vget sh (j + 2) 0

theorem programArgs_of_count (h : 1 ≤ argument sh 1 ∧ argument sh 1 ≤ 12) :
    programArgs sh = match stepsOfWords (programWords sh) with
      | some p => .ok p
      | none => .error .refusedValue := if_pos (stepCountOk_iff.2 h)

/-- R43: one bad step refuses the program. -/
theorem programArgs_of_bad_step (h : 1 ≤ argument sh 1 ∧ argument sh 1 ≤ 12)
    (hn : none ∈ (programWords sh).map stepOfWord) : programArgs sh = .error .refusedValue := by
  have hnone : stepsOfWords (programWords sh) = none := by
    cases hs : stepsOfWords (programWords sh) with
    | none => rfl
    | some gs => rw [stepsOfWords_some hs] at hn; simp at hn
  rw [programArgs_of_count h, hnone]

theorem stepsOfWords_of_map {ws : List Word} {gs : List GateStep} (h : ws.map stepOfWord = gs.map some) :
    stepsOfWords ws = some gs := by
  have hall : ∀ w ∈ ws, stepOfWord w ≠ none := fun w hw hnone => by
    have hmem : none ∈ ws.map stepOfWord := List.mem_map.2 ⟨w, hw, hnone⟩
    rw [h] at hmem
    simp at hmem
  obtain ⟨gs', hgs'⟩ := Option.isSome_iff_exists.1 (stepsOfWords_isSome.2 hall)
  have heq : gs'.map some = gs.map some := (stepsOfWords_some hgs').symm.trans h
  rw [hgs', List.map_injective_iff.2 (Option.some_injective _) heq]

theorem programArgs_of_steps (h : 1 ≤ argument sh 1 ∧ argument sh 1 ≤ 12) {p : List GateStep}
    (hp : (programWords sh).map stepOfWord = p.map some) : programArgs sh = .ok p := by
  rw [programArgs_of_count h, stepsOfWords_of_map hp]

end

/-! ## SET LINE (R37, R38) -/

section
variable {sh : Vector Word 16}

theorem argumentByte_eq_argByte (s : State) (i : Fin 8) (n : Fin 16) (b : Nat) :
    argumentByte s.cmd.slots[i].shadow n b = s.argByte i n b := by
  have hpow : (256 : Nat) ^ b = 2 ^ (8 * b) := by rw [Nat.pow_mul]
  unfold argumentByte State.argByte
  rw [bits_eq_fieldOf, hpow, ← argument_eq_arg]
  rfl

theorem polarityOf_eq (v : Nat) : polarityOf v = if v ≤ 1 then some (if v = 0 then .normal else .inverted) else none := by
  match v with
  | 0 | 1 => rfl
  | n + 2 => exact (if_neg (by omega)).symm

theorem edgeModeOf_eq (v : Nat) :
    edgeModeOf v = if v ≤ 2 then some (if v = 0 then .rising else if v = 1 then .falling else .both) else none := by
  match v with
  | 0 | 1 | 2 => rfl
  | n + 3 => exact (if_neg (by omega)).symm

/-- The polarity of a known polarity code. -/
def polarityAt (v : Nat) : Polarity := if v = 0 then .normal else .inverted

/-- The edge mode of a known edge mode code. -/
def edgeModeAt (v : Nat) : EdgeMode := if v = 0 then .rising else if v = 1 then .falling else .both

/-- R37, R38: an unknown code, a line above 5, or BOTH for the tacho is refused. -/
theorem lineArgs_refused
    (h : ¬ ((argumentByte sh 3 0 ≤ 1 ∧ argumentByte sh 3 1 ≤ 2) ∧ argument sh 1 ≤ 5
      ∧ (argument sh 1 = 5 → argumentByte sh 3 1 ≤ 1))) : lineArgs sh = .error .refusedValue := by
  unfold lineArgs
  rw [polarityOf_eq, edgeModeOf_eq]
  by_cases hp : argumentByte sh 3 0 ≤ 1
  case neg => rw [if_neg hp]
  by_cases hm : argumentByte sh 3 1 ≤ 2
  case neg => rw [if_pos hp, if_neg hm]
  have h5 : ¬ argument sh 1 < 5 := by omega
  rw [if_pos hp, if_pos hm]
  dsimp only
  rw [dif_neg h5]
  by_cases he : argument sh 1 = 5
  · have h2 : argumentByte sh 3 1 = 2 := by omega
    rw [if_pos he, h2]
    rfl
  · rw [if_neg he]

section
variable (hp : argumentByte sh 3 0 ≤ 1) (hm : argumentByte sh 3 1 ≤ 2)
include hp hm

theorem lineArgs_of_line (n : Fin 5) (hn : argument sh 1 = n.val) :
    lineArgs sh = .ok (.line n ⟨polarityAt (argumentByte sh 3 0), limited 1 8 (argument sh 2),
      edgeModeAt (argumentByte sh 3 1)⟩, outside 1 8 (argument sh 2)) := by
  have hlt : argument sh 1 < 5 := hn ▸ n.isLt
  have hfin : (⟨argument sh 1, hlt⟩ : Fin 5) = n := Fin.ext hn
  unfold lineArgs
  rw [polarityOf_eq, edgeModeOf_eq, if_pos hp, if_pos hm, limited_eq (by decide)]
  dsimp only
  rw [dif_pos hlt, hfin]
  rfl

theorem lineArgs_of_tacho (hn : argument sh 1 = 5) {e : MeasEdge}
    (he : (edgeModeAt (argumentByte sh 3 1)).measuring? = some e) :
    lineArgs sh = .ok (.tacho ⟨polarityAt (argumentByte sh 3 0), limited 1 8 (argument sh 2), e⟩,
      outside 1 8 (argument sh 2)) := by
  have hlt : ¬ argument sh 1 < 5 := by omega
  unfold edgeModeAt at he
  unfold lineArgs
  rw [polarityOf_eq, edgeModeOf_eq, if_pos hp, if_pos hm, limited_eq (by decide)]
  dsimp only
  rw [dif_neg hlt, if_pos hn, he]
  rfl

end
end

/-! ## The commands -/

section
variable {s : State} {i : Fin 8} {rest : List (Fin 8)}

theorem exec_loadGateProgram_of_begins (h : s.Begins 0x06 i rest) :
    exec .loadGateProgram s = .next (s.settle ((s.begun i rest .completing).applyArgs
      ((programArgs s.cmd.slots[i].shadow).map fun p => (p, false))
      fun y p => { y with gate := { y.gate with staged := some p } })) := congrArg s.settled (State.command_of_begins _ h)

/-- R38, R40: SET LINE waits while a stall is due. -/
theorem exec_setLine_of_stall (h : s.tacho.stallHeld ≠ none) : exec .setLine s = .next (s.settle s) :=
  congrArg s.settled (if_pos (Option.isSome_iff_ne_none.2 h))

theorem exec_setLine_of_begins (hno : s.tacho.stallHeld = none) (h : s.Begins 0x07 i rest) :
    exec .setLine s = .next (s.settle ((s.begun i rest .completing).applyArgs (lineArgs s.cmd.slots[i].shadow)
      State.changeLine)) := by
  refine congrArg s.settled ((if_neg ?_).trans (State.command_of_begins _ h))
  simp [hno]

end

/-- Settles O55: each command through what its argument check answers. -/
theorem programAndLineCommands : Obligations.ProgramAndLineCommands := by
  unfold Obligations.ProgramAndLineCommands
  intro s i rest a
  refine ⟨fun h => ?_, fun h => exec_setLine_of_stall h, fun h hno => ?_⟩
  · intro steps
    have hsteps : (programWords s.cmd.slots[i].shadow).map stepOfWord = steps := List.map_map
    refine ⟨fun hn => ?_, fun h1 h12 hnone => ?_, fun p h1 h12 hp => ?_⟩
    · rw [exec_loadGateProgram_of_begins h, programArgs_of_bad_count hn, Except.map, State.applyArgs_error, State.complete_begun]
    · rw [exec_loadGateProgram_of_begins h, programArgs_of_bad_step ⟨h1, h12⟩ (hsteps ▸ hnone), Except.map,
        State.applyArgs_error, State.complete_begun]
    · rw [exec_loadGateProgram_of_begins h, programArgs_of_steps ⟨h1, h12⟩ (hsteps.trans hp), Except.map, State.applyArgs_ok]
      rfl
  · intro pol mode f code known
    have hpol : argumentByte s.cmd.slots[i].shadow 3 0 = s.argByte i 3 0 := argumentByte_eq_argByte s i 3 0
    have hmode : argumentByte s.cmd.slots[i].shadow 3 1 = s.argByte i 3 1 := argumentByte_eq_argByte s i 3 1
    have hcode : doneCode (outside 1 8 (argument s.cmd.slots[i].shadow 2)) = code := doneCode_eq_codeFor (by simp [a]; rfl)
    rw [exec_setLine_of_begins hno h]
    refine ⟨fun hbad => ?_, fun n hk hn => ?_, fun e hk hn he => ?_⟩
    · rw [lineArgs_refused (by rw [hpol, hmode]; exact hbad), State.applyArgs_error, State.complete_begun]
    · rw [lineArgs_of_line (hpol.trans_le hk.1) (hmode.trans_le hk.2) n hn, State.applyArgs_ok, hcode, hpol, hmode]
      rfl
    · have hmeas : (edgeModeAt (argumentByte s.cmd.slots[i].shadow 3 1)).measuring? = some e := by
        rw [hmode]
        rcases he with ⟨he, rfl⟩ | ⟨he, rfl⟩ <;> rw [he] <;> rfl
      rw [lineArgs_of_tacho (hpol.trans_le hk.1) (hmode.trans_le hk.2) hn hmeas, State.applyArgs_ok, hcode, hpol]
      rfl

end Sys2Proof.Machine
end

section
/-! PROOFS. RELEASE CAPTURE, STOP RELEASE, SET STOP and SET NOTICE (R135, R143, R144, R148). -/

namespace Sys2Proof.Machine

/-! ## RELEASE CAPTURE (R135) -/

theorem Assembler.emptyTags_eq (a : Assembler) (ps : List (Fin 48)) :
    a.emptyTags ps = { a with tags := Vector.ofFn fun p => if p ∈ ps then .empty else a.tags[p] } := by
  have htags : (a.emptyTags ps).tags = Vector.ofFn fun p => if p ∈ ps then .empty else a.tags[p] :=
    Vector.ext fun p hp => by simpa using Assembler.emptyTags_tags a ps ⟨p, hp⟩
  have hrest : a.emptyTags ps = { a with tags := (a.emptyTags ps).tags } := by
    clear htags
    unfold Assembler.emptyTags
    induction ps generalizing a with
    | nil => rfl
    | cons p ps ih => exact ih (a.setTag p .empty)
  rw [hrest, htags]

/-- A HELD capture released (R135). -/
theorem State.releaseCapture_eq (s : State) (c : Fin 4) :
    let ps := s.cap.table[c].frames.map (·.2)
    s.releaseCapture c = { s with
      asm := { s.asm with tags := Vector.ofFn fun p => if p ∈ ps then .empty else s.asm.tags[p] }
      cap := { s.cap with spare := s.cap.spare ++ ps, table := s.cap.table.set c ⟨.free, [], 0, 0, 0, [], 0, 0, false⟩ } } := by
  intro ps
  exact congrArg (fun x : Assembler => { s with
    asm := x
    cap := { s.cap.modEntry c (fun _ => {}) with spare := s.cap.spare ++ ps } }) (s.asm.emptyTags_eq ps)

section
variable {s : State} {c : Fin 4} {n : Nat} {i : Fin 8} {rest : List (Fin 8)}

theorem State.releaseById_of_large (h : 4 ≤ n) : s.releaseById n = s.complete .refusedValue := dif_neg (by omega)

theorem State.releaseById_of_free (h : s.cap.table[c].state = .free) : s.releaseById c = s.complete .refusedValue := by
  rw [Fin.getElem_fin] at h
  simp only [State.releaseById, dif_pos c.isLt, h]

theorem State.releaseById_of_opened (h : s.cap.table[c].state = .opened) : s.releaseById c = s.complete .refusedBusy := by
  rw [Fin.getElem_fin] at h
  simp only [State.releaseById, dif_pos c.isLt, h]

theorem State.releaseById_of_held (h : s.cap.table[c].state = .held) :
    s.releaseById c = (s.releaseCapture c).complete .done := by
  rw [Fin.getElem_fin] at h
  simp only [State.releaseById, dif_pos c.isLt, h]

theorem exec_releaseCapture_of_begins (h : s.Begins 0x0F i rest) :
    exec .releaseCapture s = .next (s.settle ((s.begun i rest .completing).releaseById (s.arg i 1))) := by
  rw [← argument_eq_arg]
  exact congrArg s.settled (State.command_of_begins _ h)

end

/-! ## SET STOP (R148) -/

section
variable {sh : Vector Word 16}

theorem stopModeOf_eq (v : Nat) : stopModeOf v = if v ≤ 1 then some (if v = 0 then .latch else .pulse) else none := by
  match v with
  | 0 | 1 => rfl
  | n + 2 => exact (if_neg (by omega)).symm

/-- The stop mode of a known mode code. -/
def stopModeAt (v : Nat) : StopMode := if v = 0 then .latch else .pulse

theorem stopArgs_of_bad_mode (h : 2 ≤ argumentByte sh 2 0) : stopArgs sh = .error .refusedValue := by
  simp only [stopArgs, stopModeOf_eq, if_neg (show ¬ argumentByte sh 2 0 ≤ 1 by omega)]

theorem stopArgs_of_mode (h : argumentByte sh 2 0 ≤ 1) :
    stopArgs sh = .ok ((BitVec.ofNat 16 (argument sh 1), stopModeAt (argumentByte sh 2 0), limited 0 15 (argumentByte sh 2 1)),
      outside 0 15 (argumentByte sh 2 1)) := by
  simp only [stopArgs, stopModeOf_eq, if_pos h, limited_zero_eq, setWidth_half]
  rfl

theorem NoticeUnit.setStop_eq (n : NoticeUnit) (sources : Half) (mode : StopMode) (k now : Nat) :
    n.setStop sources mode k now = { n with
      sources := sources
      mode := mode
      k := k
      pulse := if mode = .pulse ∧ n.latch = true then some now else none } := by
  cases mode
  · simp [NoticeUnit.setStop]
  · simp [NoticeUnit.setStop]

/-! ## SET NOTICE (R143, R144) -/

theorem noticeArgs_refused (h : ¬ (argument sh 1 ≤ 15 ∧ argumentByte sh 2 0 ≤ 1)) : noticeArgs sh = .error .refusedValue := by
  unfold noticeArgs
  dsimp only
  by_cases hf : 15 < argument sh 1
  · rw [if_pos hf]
  · have hen : ¬ argumentByte sh 2 0 ≤ 1 := fun hen => h ⟨by omega, hen⟩
    rw [if_neg hf, switchOf_eq, if_neg hen]

theorem noticeArgs_accepted (hf : argument sh 1 ≤ 15) (hen : argumentByte sh 2 0 ≤ 1) :
    noticeArgs sh = .ok (⟨argument sh 1, decide (argumentByte sh 2 0 = 1), limited 0 7 (argumentByte sh 2 1),
      limited 1 255 (argument sh 3)⟩, outside 0 7 (argumentByte sh 2 1) || outside 1 255 (argument sh 3)) := by
  unfold noticeArgs
  dsimp only
  rw [if_neg (by omega), switchOf_eq, if_pos hen, limited_zero_eq, limited_eq (by decide)]

end

/-- The enable and level of factor `f` set (R143). -/
def NoticeUnit.enableAndLevel (n : NoticeUnit) (f : Fin 16) (enable : Bool) (level : Nat) : NoticeUnit :=
  { n with enables := setEnable n.enables f enable, levels := n.levels.set f level }

section
variable {s : State} {enable : Bool} {level batch : Nat}

theorem State.changeNotice_eq (f : Fin 16) :
    s.changeNotice ⟨f, enable, level, batch⟩ = { s with
      notice := if f = 0 then ((s.notice.enableAndLevel f enable level).raiseSpent .event s.clock).setBatch .event ⟨batch, batch⟩
      else if f = 4 then ((s.notice.enableAndLevel f enable level).raiseSpent .cycle s.clock).setBatch .cycle ⟨batch, batch⟩
      else s.notice.enableAndLevel f enable level } := by
  have hlevels : vmod s.notice.levels f.val (fun _ => level) = s.notice.levels.set f level := dif_pos f.isLt
  have h0 : f.val = 0 ↔ f = 0 := (Fin.ext_iff (b := 0)).symm
  have h4 : f.val = 4 ↔ f = 4 := (Fin.ext_iff (b := 4)).symm
  unfold State.changeNotice
  simp only [State.loadBatch_eq, hlevels, fEventBatch, fCycleBatch, h0, h4]
  split
  · rfl
  · split <;> rfl

end

/-! ## The commands -/

section
variable {s : State} {i : Fin 8} {rest : List (Fin 8)}

theorem exec_stopRelease_of_begins (h : s.Begins 0x10 i rest) :
    exec .stopRelease s = .next (s.settle (State.answered { s with
      notice := { s.notice with latch := false, pulse := none } } i rest .done)) :=
  congrArg s.settled (State.command_of_begins _ h)

theorem exec_setStop_of_begins (h : s.Begins 0x12 i rest) :
    exec .setStop s = .next (s.settle ((s.begun i rest .completing).applyArgs (stopArgs s.cmd.slots[i].shadow)
      fun y v => { y with notice := y.notice.setStop v.1 v.2.1 v.2.2 y.clock })) :=
  congrArg s.settled (State.command_of_begins _ h)

theorem exec_setNotice_of_begins (h : s.Begins 0x11 i rest) :
    exec .setNotice s = .next (s.settle ((s.begun i rest .completing).applyArgs (noticeArgs s.cmd.slots[i].shadow)
      State.changeNotice)) := congrArg s.settled (State.command_of_begins _ h)

end

/-- Settles O56: each command by what its argument check answers, SET NOTICE by the factor it names. -/
theorem captureStopAndNoticeCommands : Obligations.CaptureStopAndNoticeCommands := by
  unfold Obligations.CaptureStopAndNoticeCommands
  intro s i rest a
  have hbyte (n : Fin 16) (b : Nat) : argumentByte s.cmd.slots[i].shadow n b = s.argByte i n b := argumentByte_eq_argByte s i n b
  refine ⟨fun h => ⟨fun hn => ?_, fun c hc => ⟨fun hf => ?_, fun ho => ?_, fun hh => ?_⟩⟩, fun h => exec_stopRelease_of_begins h,
    fun h => ?_, fun h => ?_⟩
  · rw [exec_releaseCapture_of_begins h, State.releaseById_of_large (s := s.begun i rest .completing) hn, State.complete_begun]
  · rw [exec_releaseCapture_of_begins h, show s.arg i 1 = c from hc, State.releaseById_of_free (s := s.begun i rest .completing) hf, State.complete_begun]
  · rw [exec_releaseCapture_of_begins h, show s.arg i 1 = c from hc, State.releaseById_of_opened (s := s.begun i rest .completing) ho, State.complete_begun]
  · intro ps
    rw [exec_releaseCapture_of_begins h, show s.arg i 1 = c from hc, State.releaseById_of_held (s := s.begun i rest .completing) hh, State.releaseCapture_eq (s.begun i rest .completing)]
    rfl
  · intro mode
    have hmode : stopModeAt (argumentByte s.cmd.slots[i].shadow 2 0) = mode := congrArg stopModeAt (hbyte 2 0)
    have hcode : doneCode (outside 0 15 (argumentByte s.cmd.slots[i].shadow 2 1)) = codeFor [(0, 15, s.argByte i 2 1)] :=
      doneCode_eq_codeFor (by rw [← hbyte]; simp)
    refine ⟨fun h2 => ?_, fun h1 => ?_⟩
    · rw [exec_setStop_of_begins h, stopArgs_of_bad_mode (h2.trans_eq (hbyte 2 0).symm), State.applyArgs_error, State.complete_begun]
    · rw [exec_setStop_of_begins h, stopArgs_of_mode ((hbyte 2 0).trans_le h1), State.applyArgs_ok, hcode, hmode, NoticeUnit.setStop_eq]
      rw [show argumentByte s.cmd.slots[i].shadow 2 1 = s.argByte i 2 1 from hbyte 2 1]
      rfl
  · intro en count
    refine ⟨fun hbad => ?_, fun f hf hen => ?_⟩
    · rw [exec_setNotice_of_begins h, noticeArgs_refused (by rw [show argumentByte _ 2 0 = en from hbyte 2 0]; exact hbad),
        State.applyArgs_error, State.complete_begun]
    · intro bit' n code out
      have hcode : doneCode (outside 0 7 (argumentByte s.cmd.slots[i].shadow 2 1) || outside 1 255 (argument s.cmd.slots[i].shadow 3))
          = code := doneCode_eq_codeFor (by rw [show argumentByte _ 2 1 = _ from hbyte 2 1]; simp; rfl)
      have hn : s.notice.enableAndLevel f (decide (en = 1)) (limited 0 7 (s.argByte i 2 1)) = n := by
        unfold NoticeUnit.enableAndLevel setEnable
        simp only [decide_eq_true_eq]
        rfl
      have hout {x : NoticeUnit} (hx : (if f = 0 then (n.raiseSpent .event s.clock).setBatch .event ⟨count, count⟩
          else if f = 4 then (n.raiseSpent .cycle s.clock).setBatch .cycle ⟨count, count⟩ else n) = x) : out x := by
        subst hx
        have hf' : argument s.cmd.slots[i].shadow 1 = f := hf
        have hen' : argumentByte s.cmd.slots[i].shadow 2 0 = en := hbyte 2 0
        have hlevel : argumentByte s.cmd.slots[i].shadow 2 1 = s.argByte i 2 1 := hbyte 2 1
        unfold out
        rw [exec_setNotice_of_begins h, noticeArgs_accepted (hf'.trans_le (Nat.le_of_lt_succ f.isLt)) (hen'.trans_le hen),
          State.applyArgs_ok, hcode, hf', hen', hlevel, State.changeNotice_eq, ← hn]
        rfl
      have hn_event : n.raiseSpent .event s.clock = if s.notice.batchEvent.counter = 0 then n.raise 0 s.clock else n := rfl
      have hn_cycle : n.raiseSpent .cycle s.clock = if s.notice.batchCycle.counter = 0 then n.raise 4 s.clock else n := rfl
      refine ⟨fun h0 h4 => hout (by rw [if_neg h0, if_neg h4]), fun h0 => ⟨fun hc => hout ?_, fun hc => hout ?_⟩,
        fun h4 => ⟨fun hc => hout ?_, fun hc => hout ?_⟩⟩
      · rw [if_pos h0, hn_event, if_neg (Nat.pos_iff_ne_zero.1 hc)]
        rfl
      · rw [if_pos h0, hn_event, if_pos hc]
        rfl
      · rw [if_neg (by rw [h4]; decide), if_pos h4, hn_cycle, if_neg (Nat.pos_iff_ne_zero.1 hc)]
        rfl
      · rw [if_neg (by rw [h4]; decide), if_pos h4, hn_cycle, if_pos hc]
        rfl

end Sys2Proof.Machine
end

section
/-! PROOFS. MASK ZONE, UNMASK ZONE, RESET ZONE and ZONE REPORT (R104, R113 to R116). -/

namespace Sys2Proof.Machine

section
variable {s : State} {i : Fin 8} {rest : List (Fin 8)}

/-! ## The three commands on one zone (R113 to R115) -/

/-- What a command that makes zone `z`'s record `new` leaves: the record put, and its completion word, or the ZONE_CHANGE record
with which it waits. -/
def State.withZoneChanged (s : State) (i : Fin 8) (rest : List (Fin 8)) (z : Nat) (old new : ZoneRecord) : State :=
  if old.state = new.state then (s.putZone z new).answered i rest .done
  else { (s.putZone z new).begun i rest .records with report := { s.report with handed := s.report.handed ++
    [zoneChangeRecord z old.state new.state 0 0 s.gate.cycle .zoneCommand] } }

theorem State.changeZone_begun (z : Nat) (old new : ZoneRecord) :
    (s.begun i rest .completing).changeZone z old new = s.withZoneChanged i rest z old new := by
  unfold State.changeZone State.withZoneChanged
  split <;> rfl

theorem State.evalBusy_of_none (h : s.zone.eval = none) : ¬ s.evalBusy = true := by simp [State.evalBusy, h]

/-- R104: the three commands wait while an evaluation is in progress. -/
theorem exec_zoneCommands_of_eval (h : s.zone.eval ≠ none) :
    exec .maskZone s = .next (s.settle s) ∧ exec .unmaskZone s = .next (s.settle s) ∧ exec .resetZone s = .next (s.settle s) := by
  have hbusy : s.evalBusy = true := Option.isSome_iff_ne_none.2 h
  exact ⟨congrArg s.settled (if_pos hbusy), congrArg s.settled (if_pos hbusy), congrArg s.settled (if_pos hbusy)⟩

/-- What MASK ZONE does with zone `z`'s record (R113). -/
def State.maskWork (s : State) (z : Nat) : State :=
  match s.zone.record? z with
  | none => s.complete .refusedValue
  | some r => s.changeZone z r r.mask

/-- What UNMASK ZONE does with zone `z`'s record (R114). -/
def State.unmaskWork (s : State) (z : Nat) : State :=
  match s.zone.record? z with
  | none => s.complete .refusedValue
  | some r => if r.state = .masked then s.changeZone z r r.unmask else s.complete .refusedValue

/-- What RESET ZONE does with zone `z`'s record (R115). -/
def State.resetWork (s : State) (z : Nat) : State :=
  match s.zone.record? z with
  | none => s.complete .refusedValue
  | some r => if r.state = .masked then s.complete .refusedValue else s.changeZone z r r.reset

section
variable (he : s.zone.eval = none)
include he

theorem exec_maskZone_of_begins (h : s.Begins 0x0C i rest) :
    exec .maskZone s = .next (s.settle ((s.begun i rest .completing).maskWork (s.arg i 1))) := by
  rw [← argument_eq_arg]
  exact congrArg s.settled ((if_neg (State.evalBusy_of_none he)).trans (State.command_of_begins _ h))

theorem exec_unmaskZone_of_begins (h : s.Begins 0x0D i rest) :
    exec .unmaskZone s = .next (s.settle ((s.begun i rest .completing).unmaskWork (s.arg i 1))) := by
  rw [← argument_eq_arg]
  exact congrArg s.settled ((if_neg (State.evalBusy_of_none he)).trans (State.command_of_begins _ h))

theorem exec_resetZone_of_begins (h : s.Begins 0x0E i rest) :
    exec .resetZone s = .next (s.settle ((s.begun i rest .completing).resetWork (s.arg i 1))) := by
  rw [← argument_eq_arg]
  exact congrArg s.settled ((if_neg (State.evalBusy_of_none he)).trans (State.command_of_begins _ h))

end

section
variable {z : Nat} {r : ZoneRecord}

theorem State.zoneWork_of_absent (h : s.zone.record? z = none) :
    s.maskWork z = s.complete .refusedValue ∧ s.unmaskWork z = s.complete .refusedValue
      ∧ s.resetWork z = s.complete .refusedValue := by
  simp only [State.maskWork, State.unmaskWork, State.resetWork, h, and_self]

theorem State.maskWork_of_present (h : s.zone.record? z = some r) : s.maskWork z = s.changeZone z r r.mask := by
  simp only [State.maskWork, h]

theorem State.unmaskWork_of_present (h : s.zone.record? z = some r) :
    s.unmaskWork z = if r.state = .masked then s.changeZone z r r.unmask else s.complete .refusedValue := by
  simp only [State.unmaskWork, h]

theorem State.resetWork_of_present (h : s.zone.record? z = some r) :
    s.resetWork z = if r.state = .masked then s.complete .refusedValue else s.changeZone z r r.reset := by
  simp only [State.resetWork, h]

/-! ## ZONE REPORT (R116) -/

theorem State.reportFrom_of_present (h : s.zone.record? z = some r) :
    s.reportFrom z = (s.handOver (zoneDetailRecord z r (.zoneReport (z + 1)))).setJob .records := by
  have hz : z < (List.range 24).length := by simpa using ZoneTable.lt_of_record? h
  unfold State.reportFrom
  rw [List.drop_eq_getElem_cons hz, List.getElem_range]
  simp only [State.reportZones, h]

/-- Behind the last zone nothing is left to report. -/
theorem State.reportFrom_of_end (h : 24 ≤ z) : s.reportFrom z = s.complete .done := by
  have hnil : (List.range 24).drop z = [] := List.drop_of_length_le (by simpa using h)
  unfold State.reportFrom
  rw [hnil]
  rfl

/-- An absent zone is passed over. -/
theorem State.reportFrom_of_absent (h : s.zone.record? z = none) : s.reportFrom z = s.reportFrom (z + 1) := by
  by_cases hz : z < (List.range 24).length
  · unfold State.reportFrom
    rw [List.drop_eq_getElem_cons hz, List.getElem_range]
    simp only [State.reportZones, h]
  · have hlen : (List.range 24).length = 24 := List.length_range
    rw [State.reportFrom_of_end (by omega), State.reportFrom_of_end (by omega)]

theorem State.reportFrom_skips {y : Nat} (hzy : z ≤ y) (h : ∀ x, z ≤ x → x < y → s.zone.record? x = none) :
    s.reportFrom z = s.reportFrom y := by
  induction y, hzy using Nat.le_induction with
  | base => rfl
  | succ y hzy ih =>
    rw [ih fun x hx hxy => h x hx (hxy.trans (Nat.lt_succ_self y)), State.reportFrom_of_absent (h y hzy (Nat.lt_succ_self y))]

theorem State.reportFrom_of_none (h : ∀ y, z ≤ y → s.zone.record? y = none) : s.reportFrom z = s.complete .done := by
  rw [State.reportFrom_skips (y := z + 24) (Nat.le_add_right _ _) fun x hx _ => h x hx, State.reportFrom_of_end (by omega)]

end

theorem exec_zoneReport_of_begins (h : s.Begins 0x13 i rest) :
    exec .zoneReport s = .next (s.settle ((s.begun i rest .completing).reportFrom 0)) :=
  congrArg s.settled (State.command_of_begins _ h)

/-! ## The command that waits with its record (R153) -/

/-- Slot `i` is EXECUTING and does `job`. -/
def State.doing (s : State) (i : Fin 8) (job : Job) : State := { s with cmd := { s.cmd with exec := some ⟨i, job⟩ } }

section
variable {job : Job} (h : s.cmd.exec = some ⟨i, job⟩)
include h

theorem State.setJob_of_exec (j : Job) : s.setJob j = s.doing i j := by
  unfold State.setJob
  rw [h]
  rfl

theorem State.complete_of_exec (code : Code) : s.complete code = (s.doing i .completing).queueCompletion i code := by
  unfold State.complete
  rw [h]
  dsimp only
  rw [State.setJob_of_exec h]

end
end

/-- Settles O57: each command through the record it finds, ZONE REPORT by the first present zone. -/
theorem zoneCommandsChangeOneZone : Obligations.ZoneCommandsChangeOneZone := by
  unfold Obligations.ZoneCommandsChangeOneZone
  refine ⟨fun s i rest => ?_, fun s i job h => ?_⟩
  · intro z put refused outcome
    have hout (old new : ZoneRecord) : s.withZoneChanged i rest z old new = outcome old new := rfl
    refine ⟨fun he h => ⟨fun hr => ?_, fun r hr => ?_⟩, fun he h => ⟨fun hr => ?_, fun r hr => ⟨fun hm => ?_, fun hm => ?_⟩⟩,
      fun he h => ⟨fun hr => ?_, fun r hr => ⟨fun hm => ?_, fun hm => ?_⟩⟩, fun he => exec_zoneCommands_of_eval he,
      fun y r h hr hbefore => ?_, fun h hr => ?_⟩
    · rw [exec_maskZone_of_begins he h, (State.zoneWork_of_absent (s := s.begun i rest .completing) hr).1]
      rfl
    · rw [exec_maskZone_of_begins he h, State.maskWork_of_present (s := s.begun i rest .completing) hr, State.changeZone_begun, ← hout]
      rfl
    · rw [exec_unmaskZone_of_begins he h, (State.zoneWork_of_absent (s := s.begun i rest .completing) hr).2.1]
      rfl
    · rw [exec_unmaskZone_of_begins he h, State.unmaskWork_of_present (s := s.begun i rest .completing) hr, if_neg hm]
      rfl
    · rw [exec_unmaskZone_of_begins he h, State.unmaskWork_of_present (s := s.begun i rest .completing) hr, if_pos hm,
        State.changeZone_begun, ← hout]
      rfl
    · rw [exec_resetZone_of_begins he h, (State.zoneWork_of_absent (s := s.begun i rest .completing) hr).2.2]
      rfl
    · rw [exec_resetZone_of_begins he h, State.resetWork_of_present (s := s.begun i rest .completing) hr, if_pos hm]
      rfl
    · rw [exec_resetZone_of_begins he h, State.resetWork_of_present (s := s.begun i rest .completing) hr, if_neg hm,
        State.changeZone_begun, ← hout]
      rfl
    · rw [exec_zoneReport_of_begins h, State.reportFrom_skips (s := s.begun i rest .completing) (Nat.zero_le y) fun x _ => hbefore x,
        State.reportFrom_of_present (s := s.begun i rest .completing) hr]
      rfl
    · rw [exec_zoneReport_of_begins h, State.reportFrom_of_none (s := s.begun i rest .completing) fun y _ => hr y]
      rfl
  · intro doing
    refine ⟨State.complete_of_exec h .done, fun z y r hzy hr hbefore => ?_, fun z hr => ?_⟩
    · calc s.runCont (.zoneReport z) = s.reportFrom y := State.reportFrom_skips hzy hbefore
        _ = (s.handOver (zoneDetailRecord y r (.zoneReport (y + 1)))).setJob .records := State.reportFrom_of_present hr
        _ = _ := State.setJob_of_exec (s := s.handOver _) h .records
    · exact (State.reportFrom_of_none hr).trans (State.complete_of_exec h .done)

end Sys2Proof.Machine
end

section
/-! PROOFS. LOAD LOCATION TABLE and SAVE CONFIGURATION, page by page to the readback (R155, R156, R159). -/

namespace Sys2Proof.Machine

section
variable {s : State} {i : Fin 8} {rest : List (Fin 8)}

/-! ## LOAD LOCATION TABLE (R155) -/

theorem tableSourceOk_iff {a : Nat} : tableSourceOk a = true ↔ a % 4 = 0 ∧ a + 196 ≤ 2 ^ 24 := by
  simp [tableSourceOk, tableSize, addressSpace]

theorem exec_loadLocationTable_of_begins (h : s.Begins 0x0A i rest) :
    exec .loadLocationTable s = .next (s.settle (if tableSourceOk (s.arg i 1) then
        State.placeLoads (tableAddresses (s.arg i 1)) (s.begun i rest (.loading []))
      else s.answered i rest .refusedValue)) := by
  rw [← argument_eq_arg]
  exact congrArg s.settled (State.command_of_begins _ h)

/-! ## SAVE CONFIGURATION (R156, R159) -/

theorem pageInstrs_eq (image : List Byte) (p : Nat) : pageInstrs image p =
    [[0x06], [0x02, BitVec.ofNat 8 (32 * p / 256), BitVec.ofNat 8 (32 * p)] ++ (image.drop (32 * p)).take 32, [0x05]] := by
  simp [pageInstrs, pollInstr, bytesBE, List.range_succ, Nat.shiftRight_eq_div_pow]

theorem exec_saveConfiguration_of_begins (h : s.Begins 0x14 i rest) :
    exec .saveConfiguration s = .next (s.settle ((s.begun i rest .completing).writePage (buildImage s.savedConfig) 0)) :=
  congrArg s.settled (State.command_of_begins _ h)

section
variable {image : List Byte} {p since : Nat} (h : s.cmd.exec = some ⟨i, .saving image p since⟩)
include h

theorem State.savingPage_of_exec : s.savingPage = some (image, p, since) := by
  unfold State.savingPage
  rw [h]

theorem exec_nvmPageReady_of_exec :
    exec .nvmPageReady s = .next (s.settle (if p + 1 < 32 then s.writePage image (p + 1) else s.beginReadback image)) := by
  refine congrArg s.settled ?_
  rw [State.savingPage_of_exec h]
  rfl

theorem exec_nvmPageTimeout_of_exec :
    exec .nvmPageTimeout s = .next (s.settle (if s.canReach (since + 2000) then
      (s.reach (since + 2000)).complete .nvmFault else s)) := by
  refine congrArg s.settled ?_
  rw [State.savingPage_of_exec h]
  rfl

end

section
variable {image : List Byte} {job : Job} (h : s.cmd.exec = some ⟨i, job⟩)
include h

theorem State.writePage_of_exec (q : Nat) : s.writePage image q = { s with
    loader := { s.loader with sent :=
      [[0x06], [0x02, BitVec.ofNat 8 (32 * q / 256), BitVec.ofNat 8 (32 * q)] ++ (image.drop (32 * q)).take 32, [0x05]] }
    cmd := { s.cmd with exec := some ⟨i, .saving image q (s.clock + 29)⟩ } } := by
  rw [← pageInstrs_eq]
  exact State.setJob_of_exec (s := s.send (pageInstrs image q)) h _

theorem State.beginReadback_of_exec : s.beginReadback image = { s with
    loader := { s.loader with sent := [[0x05], [0x03, 0x00, 0x00]] }
    cmd := { s.cmd with exec := some ⟨i, .verifying image⟩ } } :=
  State.setJob_of_exec (s := s.send readInstrs) h _

end

theorem exec_nvmReadback_of_exec {image : List Byte} {status : Byte} {bytes : List Byte}
    (h : s.cmd.exec = some ⟨i, .verifying image⟩) : exec (.nvmReadback status bytes) s =
      .next (s.settle (s.complete (if readbackOk status bytes image then .done else .nvmFault))) := by
  refine congrArg s.settled ?_
  rw [h]

theorem readbackOk_iff {status : Byte} {bytes image : List Byte} :
    readbackOk status bytes image = true ↔ status ≠ 0xFF ∧ bytes = image := by simp [readbackOk]

/-- R156: the parts of the configuration saved, each from the block that keeps it. -/
theorem State.savedConfig_program_staged {p : List GateStep} (h : s.gate.staged = some p) : s.savedConfig.program = p := by
  simp only [State.savedConfig, h]

theorem State.savedConfig_program_active {p : List GateStep} (hs : s.gate.staged = none) (h : s.gate.active = some p) :
    s.savedConfig.program = p := by
  simp only [State.savedConfig, hs, h, Option.getD_some]

end

/-- Settles O60: the loads by the address, the pages by their number, the readback by what it gave. -/
theorem commandsThatTakeTime : Obligations.CommandsThatTakeTime := by
  unfold Obligations.CommandsThatTakeTime
  refine ⟨fun s i rest h => ?_, fun s i rest h => ?_, fun s i image p since h => ⟨fun hp => ?_, fun hp => ?_, fun hr => ?_,
    fun hdue hlate => ?_⟩, fun s => ?_, fun s i image bytes status h => ⟨fun hst hb => ?_, fun hbad => ?_⟩⟩
  · intro a ok addrs room
    refine ⟨fun hno => ?_, fun hok => ?_⟩
    · rw [exec_loadLocationTable_of_begins h, if_neg (mt tableSourceOk_iff.1 hno)]
    · rw [exec_loadLocationTable_of_begins h, if_pos (tableSourceOk_iff.2 hok), State.placeLoads_eq]
      rfl
  · intro image
    rw [exec_saveConfiguration_of_begins h, State.writePage_of_exec (s := s.begun i rest .completing) (job := .completing) (i := i) rfl]
    rfl
  · rw [exec_nvmPageReady_of_exec h, if_pos (by omega), State.writePage_of_exec h]
  · rw [exec_nvmPageReady_of_exec h, if_neg (by omega), State.beginReadback_of_exec h]
  · rw [exec_nvmPageTimeout_of_exec h, if_pos ((s.canReach_iff _).2 hr),
      State.complete_of_exec (s := s.reach (since + 2000)) h]
    rfl
  · have hno : ¬ (s.gate.due = [] ∨ since + 2000 ≤ s.clock) := not_or.2 ⟨hdue, Nat.not_le.2 hlate⟩
    rw [exec_nvmPageTimeout_of_exec h, if_neg (mt (s.canReach_iff _).1 hno)]
  · intro c
    refine ⟨fun t ht => ?_, ⟨fun d hd => ?_, fun hd => ?_⟩, ⟨fun e he => ?_, fun he => ?_⟩, ⟨rfl, rfl, rfl, rfl⟩, fun i => ?_,
      ⟨fun p hp => State.savedConfig_program_staged hp, fun hs p hp => State.savedConfig_program_active hs hp⟩,
      ⟨rfl, rfl, rfl, rfl, rfl⟩, ⟨rfl, rfl, rfl⟩, rfl, rfl⟩
    · exact congrArg (Option.getD · _) ht
    · exact congrArg (Option.getD · _) hd
    · exact congrArg (Option.getD · _) hd
    · exact congrArg (Option.getD · _) he
    · exact congrArg (Option.getD · _) he
    · simp [c, State.savedConfig]
  · rw [exec_nvmReadback_of_exec h, if_pos (readbackOk_iff.2 ⟨hst, hb⟩), State.complete_of_exec h]
    rfl
  · have hno : ¬ (status ≠ 0xFF ∧ bytes = image) := by tauto
    rw [exec_nvmReadback_of_exec h, if_neg (mt readbackOk_iff.1 hno), State.complete_of_exec h]
    rfl

end Sys2Proof.Machine
end

section
/-! PROOFS. The transitions of a channel within a sample set, and a window passed (R65 to R68, R86). -/

namespace Sys2Proof.Machine

theorem afterHit_eq (d : DetSettings) : afterHit d = if d.lockout = 0 then .idle else .lockout d.lockout := by
  unfold afterHit
  by_cases h : d.lockout = 0
  · rw [if_neg (by omega), if_pos h]
  · rw [if_pos (Nat.pos_of_ne_zero h), if_neg h]

section
variable {s : State} {f : QFrame} {n : Nat} {c : Fin 4}

theorem State.transition_of_analyses {what : Due} (h : s.Analyses f (.due n c what)) : s.transition c what = some (f, n) := by
  obtain ⟨hw, hheld⟩ := h
  unfold State.transition State.dueNow
  rw [hheld, hw]
  simp

theorem State.windowNow_of_analyses (h : s.Analyses f (.window n)) : s.windowNow = some (f, n) := by
  obtain ⟨hw, hheld⟩ := h
  unfold State.windowNow
  rw [hheld, hw]
  rfl

section
variable {t : Nat} {h : HitRecord} (hst : s.det.chans[c].state = .active t h)
include hst

theorem State.endHit_of_active :
    s.endHit c = (s.setChanState c (afterHit s.det.settings)).hitClose c (h.closedAtLast false) := by
  unfold State.endHit
  rw [hst]

theorem State.endLong_of_active :
    s.endLong c = (s.setChanState c (.holdoff t 0)).hitClose c (h.closedLong s.asm.position) := by
  unfold State.endLong
  rw [hst]

end
end

/-- Settles O33: each transition under the phase that makes it due. -/
theorem channelTransitions : Obligations.ChannelTransitions := by
  unfold Obligations.ChannelTransitions
  intro s f n c moved locked p
  have hlocked : afterHit s.det.settings = locked := afterHit_eq _
  refine ⟨fun t h ha hst => congrArg s.settled ?_, fun t h ha hst => congrArg s.settled ?_, fun ha => congrArg s.settled ?_,
    fun ha => congrArg s.settled ?_, fun ha => congrArg s.settled ?_⟩
  · rw [State.transition_of_analyses ha, State.endHit_of_active hst, hlocked]
    rfl
  · rw [State.transition_of_analyses ha, State.endLong_of_active hst]
    rfl
  · rw [State.transition_of_analyses ha, hlocked]
    rfl
  · rw [State.transition_of_analyses ha]
    rfl
  · rw [State.windowNow_of_analyses ha]
    rfl

end Sys2Proof.Machine
end

section
/-! PROOFS. A sample set: the channels in order, the position handed over, and the sample that each channel takes (R18, R32, R58, R59, R82, R86). -/

namespace Sys2Proof.Machine

section
variable {s u : State} {f : QFrame} {n : Nat} {c : Fin 4} {later : List (Fin 4)}

/-! ## The channels of a list -/

theorem State.runChannels_quiet (h : (u.chanStep f n c).2 = .quiet) :
    State.runChannels f n (c :: later) u = State.runChannels f n later (u.withChan c (u.chanStep f n c).1) := by
  unfold State.chanStep at h
  rw [State.runChannels]
  simp only [h]
  rfl

theorem State.runChannels_started (h : (u.chanStep f n c).2 = .started) :
    State.runChannels f n (c :: later) u = State.runChannels f n later
      ((u.withChan c (u.chanStep f n c).1).hitStart c u.asm.position f.seq f.cls f.tag.cycle) := by
  unfold State.chanStep at h
  rw [State.runChannels]
  simp only [h]
  rfl

theorem State.runChannels_due {what : Due} {ph : Phase} (hw : u.aq.work = some ⟨f, ph⟩) (h : (u.chanStep f n c).2 = .due what) :
    State.runChannels f n (c :: later) u =
      { u.withChan c (u.chanStep f n c).1 with aq := { u.aq with work := some ⟨f, .due n c what⟩ } } := by
  unfold State.chanStep at h
  rw [State.runChannels]
  simp only [h]
  exact State.setPhase_eq (s := u.withChan c (u.chanStep f n c).1) hw _

/-- The channels of a list have taken their steps, each from the state in which the set began. -/
def State.stepped (s : State) (f : QFrame) (n : Nat) (l : List (Fin 4)) : State :=
  { s with det := { s.det with chans := Vector.ofFn fun c => if c ∈ l then (s.chanStep f n c).1 else s.det.chans[c] } }

theorem State.stepped_nil : s.stepped f n [] = s := by
  have hch : (Vector.ofFn fun c : Fin 4 => if c ∈ [] then (s.chanStep f n c).1 else s.det.chans[c]) = s.det.chans :=
    Vector.ext fun i hi => by simp
  unfold State.stepped
  rw [hch]

/-- The step of a channel that has not yet taken its step is the one of the set's beginning. -/
theorem State.chanStep_stepped {l : List (Fin 4)} (hc : c ∉ l) : (s.stepped f n l).chanStep f n c = s.chanStep f n c := by
  have hch : (s.stepped f n l).det.chans[c] = s.det.chans[c] := by simp [State.stepped, hc]
  unfold State.chanStep
  rw [hch]
  rfl

theorem State.withChan_stepped {l : List (Fin 4)} (hc : c ∉ l) :
    (s.stepped f n l).withChan c ((s.stepped f n l).chanStep f n c).1 = s.stepped f n (l ++ [c]) := by
  rw [State.chanStep_stepped hc]
  have hch : (s.stepped f n l).det.chans.set c (s.chanStep f n c).1 = (s.stepped f n (l ++ [c])).det.chans := by
    refine Vector.ext fun i hi => ?_
    rw [Vector.getElem_set]
    by_cases hic : c.val = i
    · subst hic
      simp [State.stepped]
    · have hne : ¬ (⟨i, hi⟩ : Fin 4) = c := fun h => hic (congrArg Fin.val h).symm
      simp [State.stepped, hic, hne]
  unfold State.withChan
  rw [hch]
  rfl

/-- Quiet channels take their steps one after the other. -/
theorem State.runChannels_all_quiet {l pre : List (Fin 4)} (hd : (l ++ pre).Nodup)
    (hq : ∀ b ∈ pre, (s.chanStep f n b).2 = .quiet) :
    State.runChannels f n (pre ++ later) (s.stepped f n l) = State.runChannels f n later (s.stepped f n (l ++ pre)) := by
  induction pre generalizing l with
  | nil => simp
  | cons b pre ih =>
    have hb : b ∉ l := fun hb => (List.nodup_append.1 hd).2.2 b hb b List.mem_cons_self rfl
    have hassoc : l ++ b :: pre = l ++ [b] ++ pre := by simp
    rw [List.cons_append, State.runChannels_quiet (by rw [State.chanStep_stepped hb]; exact hq b List.mem_cons_self),
      State.withChan_stepped hb, ih (hassoc ▸ hd) fun x hx => hq x (List.mem_cons_of_mem b hx), ← hassoc]

/-! ## A hit start within the set (R59, R82) -/

/-- A hit start is the Event Builder's: the channels as they stand do not matter to it, and it leaves them. -/
theorem State.hitStart_det (s : State) (d : Detectors) (c : Fin 4) (t : Nat) (seq : Half) (k : Cls) (cycle : Word) :
    State.hitStart { s with det := d } c t seq k cycle = { s.hitStart c t seq k cycle with det := d } := by
  unfold State.hitStart
  dsimp only
  cases s.ev.collecting? with
  | some e => dsimp only; split <;> rfl
  | none => dsimp only; split <;> rfl

theorem State.hitStart_keeps (s : State) (c : Fin 4) (t : Nat) (seq : Half) (k : Cls) (cycle : Word) :
    (s.hitStart c t seq k cycle).det = s.det ∧ (s.hitStart c t seq k cycle).asm.position = s.asm.position
      ∧ (s.hitStart c t seq k cycle).aq = s.aq := by
  unfold State.hitStart
  cases s.ev.collecting? with
  | some e => dsimp only; split <;> exact ⟨rfl, rfl, rfl⟩
  | none => dsimp only; split <;> exact ⟨rfl, rfl, rfl⟩

theorem State.chanStep_hitStart (s : State) (b c : Fin 4) (t : Nat) (seq : Half) (k : Cls) (cycle : Word) :
    (s.hitStart c t seq k cycle).chanStep f n b = s.chanStep f n b := by
  obtain ⟨hdet, hpos, -⟩ := s.hitStart_keeps c t seq k cycle
  unfold State.chanStep
  rw [hdet, hpos]

theorem State.hitStart_stepped (s : State) (l : List (Fin 4)) (c : Fin 4) (t : Nat) (seq : Half) (k : Cls) (cycle : Word) :
    (s.stepped f n l).hitStart c t seq k cycle = (s.hitStart c t seq k cycle).stepped f n l := by
  obtain ⟨hdet, -, -⟩ := s.hitStart_keeps c t seq k cycle
  unfold State.stepped
  simp only [State.chanStep_hitStart, hdet]
  exact State.hitStart_det s _ c t seq k cycle

/-- One channel starts a hit, and the others are quiet. -/
theorem State.runChannels_one_started {pre post : List (Fin 4)} (hd : (pre ++ c :: post).Nodup)
    (hc : (s.chanStep f n c).2 = .started) (hq : ∀ b ∈ pre ++ post, (s.chanStep f n b).2 = .quiet) :
    State.runChannels f n (pre ++ c :: post) s =
      ((s.stepped f n (pre ++ c :: post)).hitStart c s.asm.position f.seq f.cls f.tag.cycle).endSet f n := by
  have hassoc : pre ++ c :: post = pre ++ [c] ++ post := by simp
  have hcp : c ∉ pre := fun hcp => (List.nodup_append.1 hd).2.2 c hcp c List.mem_cons_self rfl
  let t := s.hitStart c s.asm.position f.seq f.cls f.tag.cycle
  have hpost : ∀ b ∈ post, (t.chanStep f n b).2 = .quiet := fun b hb => by
    rw [State.chanStep_hitStart]
    exact hq b (List.mem_append_right _ hb)
  calc State.runChannels f n (pre ++ c :: post) s
      = State.runChannels f n (pre ++ c :: post) (s.stepped f n []) := by rw [State.stepped_nil]
    _ = State.runChannels f n (c :: post) (s.stepped f n pre) :=
        State.runChannels_all_quiet (List.nodup_append.1 hd).1 fun b hb => hq b (List.mem_append_left _ hb)
    _ = State.runChannels f n post ((s.stepped f n (pre ++ [c])).hitStart c s.asm.position f.seq f.cls f.tag.cycle) := by
        rw [State.runChannels_started (by rw [State.chanStep_stepped hcp]; exact hc), State.withChan_stepped hcp]
        rfl
    _ = State.runChannels f n (post ++ []) (t.stepped f n (pre ++ [c])) := by rw [State.hitStart_stepped, List.append_nil]
    _ = (t.stepped f n (pre ++ [c] ++ post)).endSet f n := State.runChannels_all_quiet (hassoc ▸ hd) hpost
    _ = _ := by rw [← hassoc, State.hitStart_stepped]

/-! ## The end of a set (R32, R58, R86) -/

theorem EventBuilder.windowDue_iff {b : EventBuilder} {p : Nat} :
    b.windowDue p = true ↔ ∃ e, b.collecting? = some e ∧ e.windowEnd ≤ p := by
  unfold EventBuilder.windowDue
  cases b.collecting? <;> simp

/-- The state in which the stream position has advanced by 1 (R32). -/
def State.moved (u : State) : State := { u with asm := { u.asm with position := min positionTop (u.asm.position + 1) } }

section
variable {ph : Phase} (hw : u.aq.work = some ⟨f, ph⟩)
include hw

theorem State.endSet_passed (h : u.ev.windowDue u.asm.position = true) :
    u.endSet f n = { u.moved with aq := { u.aq with work := some ⟨f, .window n⟩ } } := by
  unfold State.endSet
  dsimp only
  rw [if_pos h]
  exact State.setPhase_eq (s := u.moved) hw _

theorem State.endSet_next (h : ¬ u.ev.windowDue u.asm.position = true) (hn : n < 62) :
    u.endSet f n = { u.moved with aq := { u.aq with work := some ⟨f, .sets (n + 1)⟩ } } := by
  have hset : n + 1 < setCount := Nat.succ_lt_succ hn
  unfold State.endSet State.afterSet
  dsimp only
  rw [if_neg h, if_pos hset]
  exact State.setPhase_eq (s := u.moved) hw _

end

theorem State.endSet_last (h : ¬ u.ev.windowDue u.asm.position = true) (hn : 62 ≤ n) : u.endSet f n = u.moved.endFrame f := by
  have hset : ¬ n + 1 < setCount := Nat.not_lt.2 (Nat.succ_le_succ hn)
  unfold State.endSet State.afterSet
  dsimp only
  rw [if_neg h, if_neg hset]
  rfl

/-! ## The command (R58) -/

theorem State.nextSet_of_analyses (h : s.Analyses f (.sets n)) (hb : s.checkBusy = false) : s.nextSet = some (f, n) := by
  obtain ⟨hw, hheld⟩ := h
  unfold State.nextSet
  rw [hb, hheld, hw]
  rfl

theorem exec_sampleSet_of_analyses (h : s.Analyses f (.sets n)) (hb : s.checkBusy = false) :
    exec .sampleSet s = .next (s.settle (State.runChannels f n [0, 1, 2, 3] s)) := by
  refine congrArg s.settled ?_
  rw [State.nextSet_of_analyses h hb]
  rfl

end

/-! ## The sample of a channel (R18, R58) -/

theorem QFrame.sample_valid {f : QFrame} {n : Fin 63} {c : Fin 4} (h : f.valid.getLsbD c = true) :
    (f.sample n c).toNat = fieldOf (f.data[2 * n.val + c.val / 2]'(by omega)) (16 * (c.val % 2)) 16 := by
  have hget : vget f.data (2 * n.val + c.val / 2) 0 = f.data[2 * n.val + c.val / 2]'(by omega) := by
    have hlt : 2 * n.val + c.val / 2 < 126 := by omega
    simp [vget, hlt]
  unfold QFrame.sample
  rw [if_pos h, hget]
  simp [fieldOf, Nat.shiftRight_eq_div_pow]

/-- The channels below a number, as a list. -/
theorem State.stepped_eq (s : State) (f : QFrame) (n : Nat) (k : Nat) {l : List (Fin 4)} (hl : ∀ c : Fin 4, c ∈ l ↔ c.val < k) :
    s.stepped f n l = { s with det := { s.det with
      chans := Vector.ofFn fun c => if c.val < k then (s.chanStep f n c).1 else s.det.chans[c] } } := by
  simp only [State.stepped, hl]

/-- The channels below `c`, and those above it, in channel order. -/
def channelsBelow (c : Fin 4) : List (Fin 4) := [0, 1, 2, 3].filter (· < c)

def channelsAbove (c : Fin 4) : List (Fin 4) := [0, 1, 2, 3].filter (c < ·)

theorem channels_split : ∀ c : Fin 4, [0, 1, 2, 3] = channelsBelow c ++ c :: channelsAbove c := by decide

theorem channelsBelow_nodup : ∀ c : Fin 4, ([] ++ channelsBelow c).Nodup := by decide

theorem channels_nodup : ∀ c : Fin 4, (channelsBelow c ++ c :: channelsAbove c).Nodup := by decide

theorem drop_channels : ∀ c : Fin 4, (List.finRange 4).drop (c + 1) = channelsAbove c := by decide

theorem mem_channelsBelow : ∀ c b : Fin 4, b ∈ channelsBelow c ↔ b < c := by decide

theorem mem_channels_ne : ∀ c b : Fin 4, b ∈ channelsBelow c ++ channelsAbove c → b ≠ c := by decide

theorem mem_channelsBelow_snoc : ∀ c b : Fin 4, b ∈ channelsBelow c ++ [c] ↔ b.val < c.val + 1 := by decide

/-- Settles O32: the channels of the list one by one, and the end of the set by the window and the number of the set. -/
theorem sampleSetStepsTheChannels : Obligations.SampleSetStepsTheChannels := by
  unfold Obligations.SampleSetStepsTheChannels
  refine ⟨fun s f n ha hb => ?_, fun f n c => ⟨fun hv => if_neg (by rw [hv]; decide), QFrame.sample_valid⟩⟩
  intro out stepped
  have hall : s.stepped f n [0, 1, 2, 3] = stepped 4 := State.stepped_eq s f n 4 (by decide)
  have hexec := exec_sampleSet_of_analyses ha hb
  refine ⟨fun hq => ?_, fun c what hq hdue => ?_, fun c hstart hq => ?_, fun u hw => ?_, hexec, fun u c => ?_, fun u ph hw => ?_⟩
  · have hrun := State.runChannels_all_quiet (s := s) (f := f) (n := n) (later := []) (l := []) (pre := [0, 1, 2, 3]) (by decide)
      fun b _ => hq b
    rw [State.stepped_nil, List.append_nil] at hrun
    rw [hexec, hrun, List.nil_append, hall]
    rfl
  · have hc : c ∉ channelsBelow c := fun h => (lt_irrefl c) ((mem_channelsBelow c c).1 h)
    have hrun := State.runChannels_all_quiet (s := s) (f := f) (n := n) (later := c :: channelsAbove c) (l := [])
      (pre := channelsBelow c) (channelsBelow_nodup c) fun b hb => hq b ((mem_channelsBelow c b).1 hb)
    have hstep : State.runChannels f n (c :: channelsAbove c) (s.stepped f n (channelsBelow c)) = _ :=
      State.runChannels_due (u := s.stepped f n (channelsBelow c)) (what := what) ha.1 (by rw [State.chanStep_stepped hc]; exact hdue)
    rw [State.stepped_nil, ← channels_split, List.nil_append] at hrun
    rw [hexec, hrun, hstep, State.withChan_stepped hc, State.stepped_eq s f n (c.val + 1) (mem_channelsBelow_snoc c)]
    rfl
  · have hrun := State.runChannels_one_started (pre := channelsBelow c) (post := channelsAbove c) (channels_nodup c) hstart
      fun b hb => hq b (mem_channels_ne c b hb)
    rw [← channels_split, hall] at hrun
    rw [hexec, hrun]
  · intro moved passed
    have hpassed : u.ev.windowDue u.asm.position = true ↔ passed := EventBuilder.windowDue_iff
    exact ⟨fun hp => State.endSet_passed hw (hpassed.2 hp), fun hp hn => State.endSet_next hw (mt hpassed.1 hp) hn,
      fun hp hn => State.endSet_last (mt hpassed.1 hp) hn⟩
  · unfold State.runAfter
    rw [drop_channels]
    rfl
  · exact ⟨rfl, fun c later => ⟨State.runChannels_quiet, State.runChannels_started, fun what => State.runChannels_due hw⟩⟩

end Sys2Proof.Machine
end

section
/-! PROOFS. A frame taken: pending settings, the gap and skip steps, and the class of a frame (R28 to R30, R55, R56, R62, R70, R71, R81). -/

namespace Sys2Proof.Machine

/-! ## Channels put in IDLE (R70 to R72) -/

/-- From `s` to `t` the channels of the list have been put in IDLE: their hits have ended in the events that are open, and nothing
else has changed. -/
structure Idles (l : List (Fin 4)) (s t : State) : Prop where
  chans : ∀ c : Fin 4, t.det.chans[c] = if c ∈ l then { s.det.chans[c] with state := .idle } else s.det.chans[c]
  settings : t.det.settings = s.det.settings ∧ t.det.pending = s.det.pending
  events : t.ev = { s.ev with assign := t.ev.assign, openEvents := t.ev.openEvents }
  count : t.ev.openEvents.length = s.ev.openEvents.length
  rest : t = { s with det := t.det, ev := t.ev }

section
variable {s t u : State} {l k : List (Fin 4)}

theorem Idles.refl (s : State) : Idles [] s s := ⟨fun _ => rfl, ⟨rfl, rfl⟩, rfl, rfl, rfl⟩

theorem Idles.trans (h : Idles l s t) (g : Idles k t u) : Idles (l ++ k) s u := by
  refine ⟨fun c => ?_, ⟨g.settings.1.trans h.settings.1, g.settings.2.trans h.settings.2⟩, ?_, g.count.trans h.count, ?_⟩
  · rw [g.chans, h.chans]
    by_cases hl : c ∈ l <;> by_cases hk : c ∈ k <;> simp [hl, hk]
  · rw [g.events, h.events]
  · rw [g.rest, h.rest]

theorem Idles.fold {g : State → Fin 4 → State} (h : ∀ s c, Idles [c] s (g s c)) (l : List (Fin 4)) (s : State) :
    Idles l s (l.foldl g s) := by
  induction l generalizing s with
  | nil => exact Idles.refl s
  | cons c l ih => exact (h s c).trans (ih _)

theorem State.setChanState_idles (s : State) (c : Fin 4) : Idles [c] s (s.setChanState c .idle) := by
  refine ⟨fun b => ?_, ⟨rfl, rfl⟩, rfl, rfl, rfl⟩
  have hset := vector_getElem_set_fin s.det.chans c b { s.det.chans[c] with state := .idle }
  refine hset.trans ?_
  by_cases hb : b = c
  · subst hb
    simp
  · simp [hb]

theorem State.endMember_idles (s : State) (c : Fin 4) (st : MemberState) : Idles [] s (s.endMember c st) := by
  unfold State.endMember
  split
  · exact ⟨fun _ => rfl, ⟨rfl, rfl⟩, rfl, List.length_map _, rfl⟩
  · exact ⟨fun _ => rfl, ⟨rfl, rfl⟩, rfl, rfl, rfl⟩

theorem State.gapChannel_idles (s : State) (c : Fin 4) : Idles [c] s (s.gapChannel c) := by
  unfold State.gapChannel
  split
  · exact (s.setChanState_idles c).trans (State.endMember_idles _ _ _)
  · exact s.setChanState_idles c

theorem State.abandonChannel_idles (s : State) (c : Fin 4) : Idles [c] s (s.abandonChannel c) := by
  unfold State.abandonChannel
  split
  · exact (s.setChanState_idles c).trans (State.endMember_idles _ _ _)
  · exact s.setChanState_idles c

/-- Every channel is in IDLE, and the open events have been looked through. -/
theorem Idles.looked (h : Idles (List.finRange 4) s t) {b : EventBuilder}
    (hb : b = { t.ev with openEvents := b.openEvents }) (hn : b.openEvents.length = t.ev.openEvents.length) :
    Idles (List.finRange 4) s { t with ev := b } := by
  refine ⟨h.chans, h.settings, ?_, hn.trans h.count, ?_⟩
  · rw [hb, h.events]
  · rw [h.rest]

theorem State.abandonAll_idles (s : State) : Idles (List.finRange 4) s s.abandonAll :=
  (Idles.fold State.abandonChannel_idles (List.finRange 4) s).looked rfl (List.length_map _)

theorem EventBuilder.gapPosition_check (b : EventBuilder) (q : Nat) :
    (b.gapPosition q).check = { b with openEvents := (b.gapPosition q).check.openEvents }
      ∧ (b.gapPosition q).check.openEvents.length = b.openEvents.length := by
  unfold EventBuilder.gapPosition
  split
  · exact ⟨rfl, (List.length_map _).trans (List.length_map _)⟩
  · exact ⟨rfl, List.length_map _⟩

theorem State.gapStep_idles (s : State) (m : Nat) : Idles (List.finRange 4) (s.advance (gapSpan m)) (s.gapStep m) := by
  have hfold := Idles.fold State.gapChannel_idles (List.finRange 4) (s.advance (gapSpan m))
  have hcheck := EventBuilder.gapPosition_check ((List.finRange 4).foldl State.gapChannel (s.advance (gapSpan m))).ev
    ((List.finRange 4).foldl State.gapChannel (s.advance (gapSpan m))).asm.position
  exact hfold.looked hcheck.1 hcheck.2

theorem Idles.chan (h : Idles (List.finRange 4) s t) (c : Fin 4) : t.det.chans[c] = { s.det.chans[c] with state := .idle } :=
  (h.chans c).trans (if_pos (List.mem_finRange c))

/-! ## One channel (R70, R71) -/

theorem State.gapChannel_active {c : Fin 4} {n : Nat} {r : HitRecord} (h : s.det.chans[c].state = .active n r) :
    s.gapChannel c = (s.setChanState c .idle).endMember c (.closed (r.closedAtLast true))
      ∧ s.abandonChannel c = (s.setChanState c .idle).endMember c .abandoned := by
  unfold State.gapChannel State.abandonChannel
  rw [h]
  exact ⟨rfl, rfl⟩

theorem State.gapChannel_inactive {c : Fin 4} (h : ∀ n r, s.det.chans[c].state ≠ .active n r) :
    s.gapChannel c = s.setChanState c .idle ∧ s.abandonChannel c = s.setChanState c .idle := by
  unfold State.gapChannel State.abandonChannel
  generalize hst : s.det.chans[c].state = st at h ⊢
  cases st with
  | active n r => exact absurd rfl (h n r)
  | idle => exact ⟨rfl, rfl⟩
  | holdoff t r => exact ⟨rfl, rfl⟩
  | lockout n => exact ⟨rfl, rfl⟩

/-! ## The pending settings (R55, R56, R81) -/

/-- A channel under the pending detector settings: a latched threshold is raised to the new ladder value (R56). -/
def Channel.pendingRaised (p : Option DetSettings) (d : DetSettings) (ch : Channel) : Channel :=
  if p = none then ch else ch.raiseLatched d.code

theorem Channel.raiseLatched_state (code : Nat) (ch : Channel) :
    { ch.raiseLatched code with state := .idle } = { ch with state := .idle } := by
  unfold Channel.raiseLatched
  cases ch.state <;> rfl

theorem Channel.pendingRaised_state (p : Option DetSettings) (d : DetSettings) (ch : Channel) :
    { ch.pendingRaised p d with state := .idle } = { ch with state := .idle } := by
  unfold Channel.pendingRaised
  split
  · rfl
  · exact Channel.raiseLatched_state _ _

theorem State.applyPending_eq (s : State) :
    s.applyPending = { s with
      det := { settings := s.det.pending.getD s.det.settings, pending := none
               chans := s.det.chans.map (Channel.pendingRaised s.det.pending (s.det.pending.getD s.det.settings)) }
      ev := { s.ev with settings := s.ev.pending.getD s.ev.settings, pending := none } } := by
  have hdet : s.applyPending.det = ⟨s.det.pending.getD s.det.settings, none,
      s.det.chans.map (Channel.pendingRaised s.det.pending (s.det.pending.getD s.det.settings))⟩ := by
    unfold State.applyPending
    generalize s.det = d
    obtain ⟨settings, pending, chans⟩ := d
    cases pending with
    | none => exact congrArg (Detectors.mk settings none) (Vector.map_id _).symm
    | some d => rfl
  have hev : s.applyPending.ev = { s.ev with settings := s.ev.pending.getD s.ev.settings, pending := none } := by
    unfold State.applyPending
    generalize s.ev = b
    obtain ⟨openEvents, assign, nextId, settings, pending, profile, completion⟩ := b
    cases pending <;> rfl
  calc s.applyPending = { s with det := s.applyPending.det, ev := s.applyPending.ev } := rfl
    _ = _ := by rw [hdet, hev]

/-! ## The frame taken (R30) -/

/-- The state in which frame `f` has left the queue and the pending settings are those in force. -/
def State.fetched (s : State) (f : QFrame) (rest : List AQEntry) : State :=
  State.applyPending { s with aq := { entries := rest, work := some ⟨f, .gap⟩ } }

variable {f : QFrame} {rest : List AQEntry}

theorem State.takeFrame_of_no_gap (h : f.missing = 0) : s.takeFrame f rest = (s.fetched f rest).skipOrAnalyse f := if_pos h

theorem State.takeFrame_of_gap (h : f.missing ≠ 0) :
    s.takeFrame f rest = if ((s.fetched f rest).gapStep f.missing).checkBusy then (s.fetched f rest).gapStep f.missing
      else ((s.fetched f rest).gapStep f.missing).skipOrAnalyse f := if_neg h

theorem State.fetched_eq (s : State) (f : QFrame) (rest : List AQEntry) :
    s.fetched f rest = { s with
      aq := { entries := rest, work := some ⟨f, .gap⟩ }
      det := { settings := s.det.pending.getD s.det.settings, pending := none
               chans := s.det.chans.map (Channel.pendingRaised s.det.pending (s.det.pending.getD s.det.settings)) }
      ev := { s.ev with settings := s.ev.pending.getD s.ev.settings, pending := none } } := State.applyPending_eq _

theorem State.fetched_chan (c : Fin 4) : (s.fetched f rest).det.chans[c] =
    (s.det.chans[c]).pendingRaised s.det.pending (s.det.pending.getD s.det.settings) := by
  rw [State.fetched_eq]
  exact State.mapChans_chan (d := s.det) _ c

/-- What a frame taken leaves alone, and the settings in force, `d` and `e`, once the pending ones have been taken (R55, R81). -/
structure FrameTaken (s t : State) (rest : List AQEntry) : Prop where
  entries : t.aq.entries = rest
  zone : t.zone = s.zone
  cap : t.cap = s.cap
  report : t.report = s.report
  mem : t.mem = s.mem
  detector : t.det.settings = s.det.pending.getD s.det.settings ∧ t.det.pending = none
  event : t.ev.settings = s.ev.pending.getD s.ev.settings ∧ t.ev.pending = none

theorem State.fetched_taken : FrameTaken s (s.fetched f rest) rest := by
  rw [State.fetched_eq]
  exact ⟨rfl, rfl, rfl, rfl, rfl, ⟨rfl, rfl⟩, ⟨rfl, rfl⟩⟩

theorem FrameTaken.idles (h : FrameTaken s t rest) (g : Idles l t u) : FrameTaken s u rest := by
  have hev : u.ev.settings = t.ev.settings ∧ u.ev.pending = t.ev.pending := by rw [g.events]; exact ⟨rfl, rfl⟩
  refine ⟨?_, ?_, ?_, ?_, ?_, ⟨g.settings.1.trans h.detector.1, g.settings.2.trans h.detector.2⟩,
    ⟨hev.1.trans h.event.1, hev.2.trans h.event.2⟩⟩
  · rw [g.rest]; exact h.entries
  · rw [g.rest]; exact h.zone
  · rw [g.rest]; exact h.cap
  · rw [g.rest]; exact h.report
  · rw [g.rest]; exact h.mem

theorem FrameTaken.work (h : FrameTaken s t rest) (w : Option FrameWork) :
    FrameTaken s { t with aq := { t.aq with work := w } } rest :=
  ⟨h.entries, h.zone, h.cap, h.report, h.mem, h.detector, h.event⟩

theorem FrameTaken.settle (h : FrameTaken s t rest) (v : State) : FrameTaken s (v.settle t) rest := by
  refine ⟨?_, ?_, ?_, ?_, ?_, ?_, ?_⟩
  · rw [State.settle_aq]; exact h.entries
  · rw [State.settle_zone]; exact h.zone
  · rw [State.settle_cap]; exact h.cap
  · rw [State.settle_report]; exact h.report
  · rw [State.settle_mem]; exact h.mem
  · rw [State.settle_det]; exact h.detector
  · rw [State.settle_ev]; exact h.event

/-- A frame that is not skipped begins: its first sample set is the next, and every channel has its frame threshold (R58, R62). -/
theorem State.skipOrAnalyse_begins (h : ¬ f.skipped = true) {ph : Phase} (hw : s.aq.work = some ⟨f, ph⟩) :
    s.skipOrAnalyse f = { s with
      aq := { s.aq with work := some ⟨f, .sets 0⟩ }
      det := { s.det with chans := s.det.chans.map (Channel.beginFrame s.det.settings f.cls) } } := by
  unfold State.skipOrAnalyse
  rw [if_neg h]
  exact State.setPhase_eq (s := { s with det := { s.det with chans := s.det.chans.map (Channel.beginFrame s.det.settings f.cls) } })
    hw _

/-- A skipped frame has every channel in IDLE, and goes on with its completions or ends. -/
theorem State.skipOrAnalyse_skipped (hs : f.skipped = true) :
    ∃ w, s.skipOrAnalyse f = { s.abandonAll with aq := { s.abandonAll.aq with work := w } } := by
  unfold State.skipOrAnalyse
  rw [if_pos hs]
  dsimp only
  split
  · exact ⟨_, rfl⟩
  · exact ⟨_, rfl⟩

/-! ## A gap (R70) -/

/-- After the gap step, whatever comes next, every channel is in IDLE with its envelope, previous value and floors, and the
position is the advanced one. -/
structure GapPassed (s t : State) : Prop where
  position : t.asm.position = s.asm.position
  chans : ∀ c : Fin 4, t.det.chans[c].state = .idle ∧ t.det.chans[c].env = s.det.chans[c].env
    ∧ t.det.chans[c].prev = s.det.chans[c].prev ∧ t.det.chans[c].floors = s.det.chans[c].floors

theorem Idles.gapPassed (h : Idles (List.finRange 4) s t) : GapPassed s t :=
  ⟨by rw [h.rest], fun c => by rw [h.chan c]; exact ⟨rfl, rfl, rfl, rfl⟩⟩

theorem GapPassed.idles (h : GapPassed s t) (g : Idles (List.finRange 4) t u) : GapPassed s u := by
  refine ⟨by rw [g.rest]; exact h.position, fun c => ?_⟩
  obtain ⟨-, henv, hprev, hfloors⟩ := h.chans c
  rw [g.chan c]
  exact ⟨rfl, henv, hprev, hfloors⟩

theorem GapPassed.begins (h : GapPassed s t) (d : DetSettings) (k : Cls) (a : AnalysisQueue) :
    GapPassed s { t with aq := a, det := { t.det with chans := t.det.chans.map (Channel.beginFrame d k) } } := by
  refine ⟨h.position, fun c => ?_⟩
  rw [State.mapChans_chan (d := t.det)]
  exact h.chans c

theorem GapPassed.settle (h : GapPassed s t) (v : State) : GapPassed s (v.settle t) := by
  refine ⟨?_, fun c => ?_⟩
  · rw [State.settle_asm]; exact h.position
  · rw [State.settle_det]; exact h.chans c

/-- The frame goes on after its gap step. -/
theorem State.skipOrAnalyse_after_gap (ht : FrameTaken s u rest) (hg : GapPassed t u) {ph : Phase} (hw : u.aq.work = some ⟨f, ph⟩) :
    FrameTaken s (u.skipOrAnalyse f) rest ∧ GapPassed t (u.skipOrAnalyse f) := by
  by_cases hs : f.skipped = true
  · obtain ⟨w, hsk⟩ := State.skipOrAnalyse_skipped (s := u) hs
    have hidle := u.abandonAll_idles
    have hpassed := hg.idles hidle
    rw [hsk]
    exact ⟨(ht.idles hidle).work w, hpassed.position, hpassed.chans⟩
  · rw [State.skipOrAnalyse_begins hs hw]
    exact ⟨⟨ht.entries, ht.zone, ht.cap, ht.report, ht.mem, ht.detector, ht.event⟩, hg.begins _ _ _⟩

/-- A frame with a missing count, whatever it does after its gap step. -/
theorem State.takeFrame_gap (h : f.missing ≠ 0) :
    FrameTaken s (s.takeFrame f rest) rest
      ∧ GapPassed ((s.fetched f rest).advance (gapSpan f.missing)) (s.takeFrame f rest) := by
  have hidle := (s.fetched f rest).gapStep_idles f.missing
  have htaken : FrameTaken s ((s.fetched f rest).gapStep f.missing) rest := by
    have hf := State.fetched_taken (s := s) (f := f) (rest := rest)
    exact FrameTaken.idles (t := (s.fetched f rest).advance (gapSpan f.missing))
      ⟨hf.entries, hf.zone, hf.cap, hf.report, hf.mem, hf.detector, hf.event⟩ hidle
  have hwork : ((s.fetched f rest).gapStep f.missing).aq.work = some ⟨f, .gap⟩ := by
    rw [hidle.rest, State.fetched_eq]
    rfl
  rw [State.takeFrame_of_gap h]
  split
  · exact ⟨htaken, hidle.gapPassed⟩
  · exact State.skipOrAnalyse_after_gap htaken hidle.gapPassed hwork

/-- A skipped frame without a missing count leaves the stream position and every account as they were (R71). -/
theorem State.takeFrame_skipped (hm : f.missing = 0) (hs : f.skipped = true) :
    FrameTaken s (s.takeFrame f rest) rest ∧ (s.takeFrame f rest).asm = s.asm
      ∧ ∀ c : Fin 4, (s.takeFrame f rest).det.chans[c] = { s.det.chans[c] with state := .idle } := by
  obtain ⟨w, hsk⟩ := State.skipOrAnalyse_skipped (s := s.fetched f rest) hs
  have hidle := (s.fetched f rest).abandonAll_idles
  have hasm : (s.fetched f rest).asm = s.asm := by rw [State.fetched_eq]
  have hchan (c : Fin 4) := State.fetched_chan (s := s) (f := f) (rest := rest) c
  have htaken := State.fetched_taken (s := s) (f := f) (rest := rest)
  rw [State.takeFrame_of_no_gap hm, hsk]
  generalize (s.fetched f rest).abandonAll = u at hidle ⊢
  generalize s.fetched f rest = v at hidle hasm hchan htaken
  refine ⟨(htaken.idles hidle).work w, ?_, fun c => ?_⟩
  · exact (congrArg State.asm hidle.rest).trans hasm
  · exact (hidle.chan c).trans (by rw [hchan, Channel.pendingRaised_state])

/-- A frame that is not skipped, without a missing count (R58, R62). -/
theorem State.takeFrame_begins (hm : f.missing = 0) (hs : ¬ f.skipped = true) :
    s.takeFrame f rest = { s with
      aq := ⟨rest, some ⟨f, .sets 0⟩⟩
      det := { settings := s.det.pending.getD s.det.settings, pending := none
               chans := s.det.chans.map fun ch =>
                (ch.pendingRaised s.det.pending (s.det.pending.getD s.det.settings)).beginFrame
                  (s.det.pending.getD s.det.settings) f.cls }
      ev := { s.ev with settings := s.ev.pending.getD s.ev.settings, pending := none } } := by
  have hwork : (s.fetched f rest).aq.work = some ⟨f, .gap⟩ := by rw [State.fetched_eq]
  rw [State.takeFrame_of_no_gap hm, State.skipOrAnalyse_begins hs hwork, State.fetched_eq, Vector.map_map]
  rfl

theorem Channel.pendingRaised_keeps (p : Option DetSettings) (d : DetSettings) (ch : Channel) :
    (ch.pendingRaised p d).env = ch.env ∧ (ch.pendingRaised p d).prev = ch.prev ∧ (ch.pendingRaised p d).floors = ch.floors := by
  unfold Channel.pendingRaised Channel.raiseLatched
  split
  · exact ⟨rfl, rfl, rfl⟩
  · cases ch.state <;> exact ⟨rfl, rfl, rfl⟩

/-- What the pending settings and the gap step leave in a channel and in the position. -/
theorem GapPassed.of_fetched {m : Nat} (h : GapPassed ((s.fetched f rest).advance (gapSpan m)) t) :
    t.asm.position = min positionTop (s.asm.position + 63 * m)
      ∧ ∀ c : Fin 4, t.det.chans[c].state = .idle ∧ t.det.chans[c].env = s.det.chans[c].env
        ∧ t.det.chans[c].prev = s.det.chans[c].prev ∧ t.det.chans[c].floors = s.det.chans[c].floors := by
  refine ⟨?_, fun c => ?_⟩
  · have hasm : (s.fetched f rest).asm = s.asm := by rw [State.fetched_eq]
    have hadv : ((s.fetched f rest).advance (gapSpan m)).asm.position = min positionTop ((s.fetched f rest).asm.position + 63 * m) := rfl
    rw [h.position, hadv, hasm]
  · obtain ⟨hidle, henv, hprev, hfloors⟩ := h.chans c
    have hchan : ((s.fetched f rest).advance (gapSpan m)).det.chans[c] = _ := State.fetched_chan c
    obtain ⟨he, hp, hf⟩ := Channel.pendingRaised_keeps s.det.pending (s.det.pending.getD s.det.settings) s.det.chans[c]
    rw [hchan] at henv hprev hfloors
    exact ⟨hidle, henv.trans he, hprev.trans hp, hfloors.trans hf⟩

/-! ## The class of a frame (R28) -/

theorem QFrame.cls_eq (h : f.tag.gates.blank = false) :
    f.cls = if f.tag.gates.a then .a else if f.tag.gates.b then .b else if f.tag.gates.c then .c else .u := by
  unfold QFrame.cls Gates.cls?
  rw [h]
  split_ifs <;> simp_all

theorem exec_frameTaken_of_head (hw : s.aq.work = none) (hq : s.aq.entries = .frame f :: rest) (ho : s.evalOwed = false)
    (hb : s.checkBusy = false) (hh : s.analysisHeld = false) : exec .frameTaken s = .next (s.settle (s.takeFrame f rest)) := by
  refine congrArg s.settled ?_
  rw [State.headFrame_eq hw hq ho hb hh]

end

/-- Settles O31: the frame without and with a missing count, one channel's part of a gap and a skip, and the class. -/
theorem frameTakenBeginsAnalysis : Obligations.FrameTakenBeginsAnalysis := by
  unfold Obligations.FrameTakenBeginsAnalysis
  refine ⟨fun s f rest hw hq ho hb hh => ?_, fun s c => ?_, fun f => ?_⟩
  · intro d e raised skipped
    have hexec := exec_frameTaken_of_head hw hq ho hb hh
    have hraised : Channel.pendingRaised s.det.pending d = raised := rfl
    rw [hexec]
    refine ⟨fun hm hs => ?_, fun hm hs => ?_, fun hm => ?_⟩
    · intro k
      rw [← hraised, State.takeFrame_begins hm (mt QFrame.skipped_iff.1 hs)]
    · obtain ⟨htaken, hasm, hchans⟩ := State.takeFrame_skipped (s := s) (rest := rest) hm (QFrame.skipped_iff.2 hs)
      generalize s.takeFrame f rest = u at htaken hasm hchans ⊢
      have hres := htaken.settle s
      exact ⟨_, rfl, hres.entries, (by rw [State.settle_asm]; exact hasm), hres.zone, hres.cap, hres.report, hres.mem, hres.detector.1,
        hres.detector.2, hres.event.1, hres.event.2, fun c => by rw [State.settle_det]; exact hchans c⟩
    · obtain ⟨htaken, hpassed⟩ := State.takeFrame_gap (s := s) (f := f) (rest := rest) (Nat.pos_iff_ne_zero.1 hm)
      generalize s.takeFrame f rest = u at htaken hpassed ⊢
      have hres := htaken.settle s
      obtain ⟨hposition, hchans⟩ := (hpassed.settle s).of_fetched
      exact ⟨_, rfl, hres.entries, hposition, hres.zone, hres.cap, hres.report, hres.mem, hres.detector.1,
        hres.detector.2, hres.event.1, hres.event.2, hchans⟩
  · intro idle
    exact ⟨fun t h hst => State.gapChannel_active hst, State.gapChannel_inactive⟩
  · intro g hbl
    rw [QFrame.cls_eq hbl]
    refine ⟨fun ha => ?_, fun ha hb => ?_, fun ha hb hc => ?_, fun ha hb hc => ?_⟩
    · rw [if_pos ha]
    · rw [if_neg (by rw [ha]; decide), if_pos hb]
    · rw [if_neg (by rw [ha]; decide), if_neg (by rw [hb]; decide), if_pos hc]
    · rw [if_neg (by rw [ha]; decide), if_neg (by rw [hb]; decide), if_neg (by rw [hc]; decide)]

end Sys2Proof.Machine
end

section
/-! PROOFS. EVENT_COMPLETE: the event leaves the open list, is counted, located, weighed and handed over (R88 to R97). -/

namespace Sys2Proof.Machine

/-! ## What an event completes with (R88) -/

theorem setAssign_assign (b : EventBuilder) (c d : Fin 4) (a : Assign) :
    (b.setAssign c a).assign[d] = if d = c then a else b.assign[d] := vector_getElem_set_fin _ _ _ _

/-- The RUNNING members dropped from an abandoned event lose their assignments (R88). -/
theorem EventBuilder.dropRunning_eq (b : EventBuilder) (e : OpenEvent) :
    b.dropRunning e = { b with assign := Vector.ofFn fun c =>
      if (e.members.any fun m => m.ch == c && m.state == .running) then .none else b.assign[c] } := by
  unfold EventBuilder.dropRunning
  generalize e.members = l
  induction l generalizing b with
  | nil =>
    simp
  | cons m l ih =>
    rw [List.foldl_cons, ih, Member.ended_eq]
    by_cases hm : m.state = .running
    · have hch : (Vector.ofFn fun c => if (l.any fun m => m.ch == c && m.state == .running) then .none
          else (b.setAssign m.ch .none).assign[c])
          = Vector.ofFn fun c => if ((m :: l).any fun m => m.ch == c && m.state == .running) then .none else b.assign[c] := by
        refine congrArg Vector.ofFn (funext fun c => ?_)
        rw [setAssign_assign]
        by_cases hc : c = m.ch
        · subst hc
          simp [hm]
        · have hne : (m.ch == c) = false := beq_eq_false_iff_ne.2 fun h => hc h.symm
          simp [hc, hne]
      simp only [hm, bne_self_eq_false, Bool.false_eq_true, if_false]
      rw [hch]
      rfl
    · simp [hm]

/-! ## The accounts (R89) -/

theorem State.isLate_iff {s : State} {n : Word} : s.isLate n = true ↔ n ≠ 0 ∧ ∀ a ∈ s.asm.accounts, a.cycle ≠ n := by
  simp [State.isLate, Assembler.isOpen]

section
variable {a : Assembler} {k : Cls} {n : Word}

theorem Assembler.countEvent_late_some {x : Account} {rest : List Account} (h : a.accounts = x :: rest) :
    a.countEvent k n true false = { a with accounts := { x with late := min 65535 (x.late + 1) } :: rest } := by
  simp [Assembler.countEvent, Assembler.modOldest, h, satInc, accountTop]

theorem Assembler.countEvent_late_none (h : a.accounts = []) : a.countEvent k n true false = a := by
  simp [Assembler.countEvent, Assembler.modOldest, h]

end

/-! ## The completion (R95, R96) -/

section
variable (s : State) (e : OpenEvent)

/-- The event has left the open list and has been counted; a free value has been used if it has no CLOSED member. -/
def State.departed (gone late : Bool) (fs : List Features) : State :=
  let ev1 := { s.ev with openEvents := s.ev.openEvents.filter fun x => x.id != e.id }
  { s with
    ev := if gone then ev1.dropRunning e else ev1
    asm := s.asm.countEvent e.cls e.cycle late gone
    free := if fs.isEmpty then s.free + 1 else s.free }

/-- The completion of an event that stands before its record (R95). -/
def State.completionRecord (gone late : Bool) (ms : List Member) (zone : Option Nat) (w : Nat) : Completion :=
  { event := { e with members := ms }, abandoned := gone, late := late, located := zone.isSome, zone := zone.getD 31,
    weight := w, masked := s.answersMasked zone e.cycle, capture := none, stage := .record }

/-- What follows the departure of the event: the Zone Table receives it, and its record or its trigger follows. -/
def State.completeOn (gone : Bool) (zone : Option Nat) (oct w : Nat) (c : Completion) : State :=
  let s2 := s.receiveEvent zone w e.cycle oct gone
  if s2.triggers (zone.getD 31) w then
    { s2 with ev := { s2.ev with completion := some { c with
        stage := .trigger ⟨e.id, zone.getD 31, e.cycle, e.trigSeq, s2.ev.settings.pre, s2.ev.settings.post⟩ } } }
  else s2.handEvent c

theorem State.completeWith_eq (p : Profile) :
    let gone := e.fate == .abandons
    let ms := completingMembers e gone
    let fs := ms.filterMap Member.features?
    let zone := locate p (locationOrder ms)
    let oct := octaveOf fs s.free
    let w := weightOf s.ev.settings e.cls oct (gone || zone.isNone || fs.any (·.long))
    let late := s.isLate e.cycle
    let s1 := s.departed e gone late fs
    s.completeWith p e = s1.completeOn e gone zone oct w (s1.completionRecord e gone late ms zone w) := rfl

theorem State.triggers_iff {z w : Nat} : s.triggers z w = true ↔ (0 < s.ev.settings.wCap ∧ s.ev.settings.wCap ≤ w)
    ∨ (s.ev.settings.suspect = true ∧ 0 < w
      ∧ ∃ r, s.zone.record? z = some r ∧ (r.state = .suspect ∨ r.state = .cracked)) := by
  cases hr : s.zone.record? z <;> simp [State.triggers, hr, and_assoc]

theorem exec_eventComplete_of_due {p : Profile} (hc : s.ev.completion = none) (he : s.evalBusy = false)
    (ho : s.outputWaits = false) (hp : s.ev.profile = some p) (hd : s.ev.nextDue = some e) :
    exec .eventComplete s = .next (s.settle (s.completeWith p e)) := by
  have hdue : s.completionDue = some (e, p) := by simp [State.completionDue, hc, he, ho, hd, hp]
  refine congrArg s.settled ?_
  rw [hdue]

end

/-- Settles O36: the event's departure field by field, then the trigger of R96. -/
theorem eventCompletesInOrder : Obligations.EventCompletesInOrder := by
  unfold Obligations.EventCompletesInOrder
  intro s p e hc he ho hp hd gone closed ms fs zone oct w late bump accounts dropped s1 s2 z c triggers
  have hms : completingMembers e gone = ms := by
    have hclosed : (fun m : Member => m.features?.isSome) = closed := by
      funext m
      unfold Member.features?
      cases hst : m.state <;> simp [closed, hst]
    unfold completingMembers
    rw [hclosed]
  have hlate : s.isLate e.cycle = decide late := by rw [Bool.eq_iff_iff, State.isLate_iff, decide_eq_true_eq]
  have hasm : s.asm.countEvent e.cls e.cycle (decide late) gone = { s.asm with accounts := accounts } := by
    unfold accounts
    generalize gone = g
    cases g with
    | true => rfl
    | false =>
      generalize decide late = l
      cases l with
      | false => rfl
      | true =>
        cases hacc : s.asm.accounts with
        | nil => exact (Assembler.countEvent_late_none hacc).trans (congrArg (fun l => { s.asm with accounts := l }) hacc)
        | cons x rest => exact Assembler.countEvent_late_some hacc
  have hfilter : (s.ev.openEvents.filter fun x => x.id != e.id) = s.ev.openEvents.filter fun x => x.id ≠ e.id := by
    refine congrArg (List.filter · _) (funext fun x => ?_)
    rw [Bool.eq_iff_iff]
    simp
  have hev : (if gone then EventBuilder.dropRunning { s.ev with openEvents := s.ev.openEvents.filter fun x => x.id != e.id } e
      else { s.ev with openEvents := s.ev.openEvents.filter fun x => x.id != e.id }) = s1.ev := by
    rw [hfilter, EventBuilder.dropRunning_eq]
    unfold s1 dropped
    generalize gone = g
    cases g with
    | true => simp
    | false => simp
  have hdep : s.departed e gone (decide late) fs = s1 := by
    have hfree : (if fs.isEmpty then s.free + 1 else s.free) = if fs = [] then s.free + 1 else s.free :=
      if_congr List.isEmpty_iff rfl rfl
    unfold State.departed
    dsimp only
    rw [hasm, hev, hfree]
  have heq : s.completeWith p e = s1.completeOn e gone zone oct w c := by
    have h := s.completeWith_eq e p
    dsimp only at h
    rw [show completingMembers e (e.fate == .abandons) = ms from hms, hlate] at h
    rw [← hdep]
    exact h
  have hkeep : s2.ev = s1.ev := State.receiveEvent_touches s1 zone w e.cycle oct gone .ev (by decide)
  have hset : (s1.receiveEvent zone w e.cycle oct gone).ev.settings = s.ev.settings := by
    rw [show (s1.receiveEvent zone w e.cycle oct gone).ev = s1.ev from hkeep]
  have htrig : s2.triggers z w = true ↔ triggers := by
    rw [State.triggers_iff, hkeep]
  rw [exec_eventComplete_of_due s e hc he ho hp hd, heq]
  refine ⟨fun ht => ?_, fun ht => ?_, fun hg => weightOf_zero (Or.inr (by simp [hg]))⟩
  · refine congrArg (fun u => Host.Outcome.next (s.settle u)) ((if_pos (htrig.2 ht)).trans ?_)
    rw [hset]
  · exact congrArg (fun u => Host.Outcome.next (s.settle u)) (if_neg (mt htrig.1 ht))

end Sys2Proof.Machine
end

section
/-! PROOFS. Freezing, the wanted frames of a run and the state of a capture (R122, R127 to R129, R133). -/

namespace Sys2Proof.Machine

/-! ## The lowest-numbered one -/

theorem find?_finRange_eq_some {n : Nat} {p : Fin n → Bool} {c : Fin n} (hc : p c = true) (hlt : ∀ b, b < c → p b = false) :
    (List.finRange n).find? p = some c := by
  rw [List.find?_eq_some_iff_getElem]
  refine ⟨hc, c.val, by simp, by simp, fun j hj => ?_⟩
  rw [List.getElem_finRange, Bool.not_eq_true']
  exact hlt _ hj

theorem CaptureUnit.find_eq_some {u : CaptureUnit} {st : CapState} {c : Fin 4} (hc : u.table[c].state = st)
    (hlt : ∀ b : Fin 4, b < c → u.table[b].state ≠ st) : u.find st = some c :=
  find?_finRange_eq_some (by rw [hc, beq_self_eq_true]) fun b hb => beq_eq_false_iff_ne.2 (hlt b hb)

theorem CaptureUnit.find_eq_none {u : CaptureUnit} {st : CapState} (h : ∀ b : Fin 4, u.table[b].state ≠ st) : u.find st = none :=
  List.find?_eq_none.2 fun b _ => by simpa using h b

section
variable {s : State} {c : Fin 4} {l : Fin 32} {p q : Fin 48} {w : Half} {rest : List (Fin 48)}

theorem State.findComplete_eq_some (hl : s.asm.tags[s.cap.map[l]] = .complete w)
    (hlt : ∀ k : Fin 32, k < l → s.asm.tags[s.cap.map[k]] ≠ .complete w) : s.findComplete w = some l :=
  find?_finRange_eq_some (by rw [hl, beq_self_eq_true]) fun k hk => beq_eq_false_iff_ne.2 (hlt k hk)

theorem State.findComplete_eq_none (h : ∀ k : Fin 32, s.asm.tags[s.cap.map[k]] ≠ .complete w) : s.findComplete w = none :=
  List.find?_eq_none.2 fun k _ => by simpa using h k

/-! ## One entry and one slot (R122, R133) -/

theorem vector_set_self_get {α : Type} {n : Nat} (v : Vector α n) (i : Fin n) (x : α) : (v.set i x)[i] = x :=
  (vector_getElem_set_fin v i i x).trans (if_pos rfl)

/-- A capture that becomes HELD: its record is handed over and CAPTURE_DONE raised (R133). -/
theorem State.holdCapture_eq (s : State) (c : Fin 4) (trunc : Bool) :
    let x : Capture := { s.cap.table[c] with state := .held, truncated := s.cap.table[c].truncated || trunc }
    s.holdCapture c trunc = State.raise { s with
      cap := { s.cap with table := s.cap.table.set c x }
      report := { s.report with handed := s.report.handed ++ [captureRecord c x] } } 8 := by
  intro x
  have hx : (s.cap.table.set c x)[c] = x := vector_set_self_get _ _ _
  have hhold : s.holdCapture c trunc = State.raise { s with
      cap := { s.cap with table := s.cap.table.set c x }
      report := { s.report with handed := s.report.handed ++ [captureRecord c (s.cap.table.set c x)[c]] } } 8 := rfl
  rw [hhold, hx]

theorem State.freezeSlot_of_spare (h : s.cap.spare = q :: rest) (seq : Half) :
    s.freezeSlot c l seq = { s with cap := { s.cap with
      map := s.cap.map.set l q
      spare := rest
      table := s.cap.table.set c { s.cap.table[c] with frames := s.cap.table[c].frames ++ [(seq, s.cap.map[l])] } } } := by
  unfold State.freezeSlot CaptureUnit.freezeSlot
  rw [h]
  rfl

/-! ## A run (R127 to R129) -/

section
variable {post : Nat} {ws : List Half}

theorem State.runOn_nil : s.runOn c post [] = (s.decideCapture c post, true) := rfl

theorem State.runOn_of_ne (h : ws ≠ []) :
    s.runOn c post ws = ({ s with cap := { s.cap with run := some ⟨c, ws, post, none⟩ } }, false) :=
  if_neg (mt List.isEmpty_iff.1 h)

theorem State.takeWanted_missed (h : s.findComplete w = none) :
    State.takeWanted c post (w :: ws) s = (s.missFrame c).runOn c post ws := by
  unfold State.takeWanted
  dsimp only
  rw [h]

theorem State.takeWanted_found (h : s.findComplete w = some l) :
    State.takeWanted c post (w :: ws) s =
      if s.cap.spare.isEmpty then (s.holdCapture c true, true)
      else if s.accessTo s.cap.map[l] then
        ({ s with cap := { s.cap with run := some ⟨c, w :: ws, post, some (l, s.cap.map[l])⟩ } }, false)
      else (s.freezeSlot c l w).runOn c post ws := by
  unfold State.takeWanted
  dsimp only
  rw [h]

/-- Nothing more is to be frozen: the count has run out, or the frame list is full (R129, R130). -/
theorem frameListFull_iff {k n : Nat} : (decide (k = 0) || decide (frameListMax ≤ n)) = true ↔ k = 0 ∨ 12 ≤ n := by
  rw [Bool.or_eq_true, decide_eq_true_eq, decide_eq_true_eq]
  rfl

theorem State.decideCapture_full (h : post = 0 ∨ 12 ≤ s.cap.table[c].frames.length) :
    s.decideCapture c post = s.holdCapture c false :=
  if_pos (frameListFull_iff.2 h)

theorem State.decideCapture_of_room (hp : 0 < post) (hl : s.cap.table[c].frames.length < 12) :
    s.decideCapture c post = if s.cap.spare.isEmpty then s.holdCapture c true
      else s.modCapture c fun e => { e with state := .opened, remaining := min post (12 - s.cap.table[c].frames.length) } := by
  exact if_neg (mt frameListFull_iff.1 (by omega))

end
end

/-- Settles O43: one wanted frame by what the tags, the spares and the access in progress are, and the state by R129. -/
theorem wantedFramesAreFrozen : Obligations.WantedFramesAreFrozen := by
  unfold Obligations.WantedFramesAreFrozen
  refine ⟨fun s c post w ws => ?_, fun s p => State.accessTo_iff s p⟩
  intro e entry held holds goesOn
  have hheld (trunc : Bool) : s.holdCapture c trunc = held trunc := State.holdCapture_eq s c trunc
  have hgoes (u : State) : goesOn u (u.runOn c post ws) :=
    ⟨fun h => by rw [h, State.runOn_nil], fun h => State.runOn_of_ne h⟩
  have hspare (h : s.cap.spare ≠ []) : ¬ s.cap.spare.isEmpty = true := mt List.isEmpty_iff.1 h
  refine ⟨fun hno => ?_, fun l hl hlt => ⟨fun h0 => ?_, fun h0 hacc => ?_, fun q rest hq hacc => ?_⟩, fun hfull => ?_,
    fun hp hlen h0 => ?_, fun hp hlen h0 => ?_⟩
  · rw [State.takeWanted_missed (State.findComplete_eq_none hno)]
    exact hgoes _
  · rw [State.takeWanted_found (State.findComplete_eq_some hl hlt), if_pos (List.isEmpty_iff.2 h0), hheld]
  · rw [State.takeWanted_found (State.findComplete_eq_some hl hlt), if_neg (hspare h0), if_pos hacc]
  · rw [State.takeWanted_found (State.findComplete_eq_some hl hlt), if_neg (hspare (by rw [hq]; exact List.cons_ne_nil _ _)),
      if_neg (by rw [hacc]; decide), State.freezeSlot_of_spare hq]
    exact hgoes _
  · rw [State.decideCapture_full hfull, hheld]
  · rw [State.decideCapture_of_room hp hlen, if_pos (List.isEmpty_iff.2 h0), hheld]
  · rw [State.decideCapture_of_room hp hlen, if_neg (hspare h0)]
    rfl

end Sys2Proof.Machine
end

section
/-! PROOFS. A trigger joins the OPEN capture, takes the lowest FREE entry, or is refused (R125 to R127, R131). -/

namespace Sys2Proof.Machine

section
variable {s : State} {t : Trigger} {c : Fin 4} {x : Completion}

/-! ## The answer to a trigger (R95, R96) -/

/-- The trigger of completion `x` has been answered with `id`. -/
def State.answerGiven (s : State) (x : Completion) (id : Option (Fin 4)) : State :=
  { s with
    ev := { s.ev with completion := some { x with capture := id, stage := .record } }
    report := { s.report with handed := s.report.handed ++ [eventRecord { x with capture := id, stage := .record }] } }

theorem State.answerTrigger_eq (h : s.ev.completion = some x) (id : Option (Fin 4)) : s.answerTrigger id = s.answerGiven x id := by
  unfold State.answerTrigger
  rw [h]
  rfl

/-! ## The trigger taken (R125, R131) -/

theorem State.takeTrigger_joins (ho : s.cap.table[c].state = .opened) (hlt : ∀ b : Fin 4, b < c → s.cap.table[b].state ≠ .opened) :
    s.takeTrigger t = (s.modCapture c fun e => e.join t, .answered (some c)) := by
  unfold State.takeTrigger
  rw [CaptureUnit.find_eq_some ho hlt]

theorem State.takeTrigger_refused (h : ∀ b : Fin 4, s.cap.table[b].state = .held) : s.takeTrigger t = (s.raise 9, .answered none) := by
  have hopen : s.cap.find .opened = none := CaptureUnit.find_eq_none fun b => by rw [h b]; decide
  have hfree : s.cap.find .free = none := CaptureUnit.find_eq_none fun b => by rw [h b]; decide
  unfold State.takeTrigger
  rw [hopen, hfree]
  rfl

/-- The answer to a trigger that began a run in entry `c`: none as long as the run goes on. -/
def runAnswer (c : Fin 4) (r : State × Bool) : State × TriggerAnswer :=
  (r.1, if r.2 then .answered (some c) else .waits)

theorem State.takeTrigger_begins (ho : ∀ b : Fin 4, s.cap.table[b].state ≠ .opened) (hf : s.cap.table[c].state = .free)
    (hlt : ∀ b : Fin 4, b < c → s.cap.table[b].state ≠ .free) :
    s.takeTrigger t = runAnswer c
      (State.takeWanted c t.post (wantedFrames t s.cap.latest) (s.modCapture c fun _ => Capture.opening t)) := by
  unfold State.takeTrigger
  rw [CaptureUnit.find_eq_none ho, CaptureUnit.find_eq_some hf hlt]
  dsimp only
  generalize State.takeWanted c t.post (wantedFrames t s.cap.latest) (s.modCapture c fun _ => Capture.opening t) = r
  obtain ⟨s1, done⟩ := r
  cases done <;> rfl

/-! ## The command -/

theorem exec_captureTrigger_of_trigger (hr : s.cap.run = none) (ho : s.recordOutstanding .capture = false)
    (hc : s.ev.completion = some x) (hx : x.stage = .trigger t) :
    exec .captureTrigger s = .next (s.settle (State.giveAnswer (s.takeTrigger t))) := by
  have hdue : s.triggerDue = some t := by simp [State.triggerDue, hr, ho, hc, hx]
  refine congrArg s.settled ?_
  rw [hr, hdue]

theorem exec_captureTrigger_of_run {r : CaptureRun} (hr : s.cap.run = some r) : exec .captureTrigger s =
    .next (s.settle (if r.waits.isSome then s else State.endRun r (s.continueRun r))) := by
  refine congrArg s.settled ?_
  rw [hr]

end

/-! ## The wanted frames (R126) -/

theorem half_sub_toNat (a b : Half) : (a - b).toNat = (a.toNat + 65536 - b.toNat) % 65536 := by
  rw [BitVec.toNat_sub]
  have hb := b.isLt
  omega

section
variable (t : Trigger) (latest : Option Half)

/-- The first of the wanted sequences. -/
def Trigger.first : Half := t.seq - BitVec.ofNat 16 t.pre

/-- The last of the wanted sequences: the newest complete frame's, or the trigger's own if that is newer (R126). -/
def Trigger.last : Half :=
  match latest with
  | none => t.seq
  | some s => if 32767 < (s - t.seq).toNat then t.seq else s

theorem wantedFrames_eq : wantedFrames t latest =
    (List.range (min 12 ((t.last latest - t.first).toNat + 1))).map fun i => t.first + BitVec.ofNat 16 i := rfl

theorem Trigger.first_toNat (h : t.pre ≤ 5) : t.first.toNat = (t.seq.toNat + 65536 - t.pre) % 65536 := by
  have hpre : (BitVec.ofNat 16 t.pre : Half).toNat = t.pre := by
    rw [BitVec.toNat_ofNat]
    omega
  rw [Trigger.first, half_sub_toNat, hpre]

theorem Trigger.last_some (l : Half) : (t.last (some l)).toNat =
    if 32767 < (l.toNat + 65536 - t.seq.toNat) % 65536 then t.seq.toNat else l.toNat := by
  have hlast : t.last (some l) = if 32767 < (l - t.seq).toNat then t.seq else l := rfl
  rw [hlast, half_sub_toNat, apply_ite BitVec.toNat]

end

/-- Settles O42: the trigger by the states of the four entries, the run by whether a freeze waits, and the wanted frames. -/
theorem captureTriggerIsTaken : Obligations.CaptureTriggerIsTaken := by
  unfold Obligations.CaptureTriggerIsTaken
  refine ⟨fun s x t hr ho hc hx => ?_, fun s r hr => ?_, fun s x t c hc hx => State.answerTrigger_eq hc _, fun t latest => ?_⟩
  · intro answer
    have hexec := exec_captureTrigger_of_trigger hr ho hc hx
    rw [hexec]
    refine ⟨fun c hopen hlt => ?_, fun hheld => ?_, fun c hno hfree hlt => ?_⟩
    · intro e e1
      rw [State.takeTrigger_joins hopen hlt]
      exact congrArg (fun u => Host.Outcome.next (s.settle u))
        (State.answerTrigger_eq (s := s.modCapture c fun e => e.join t) hc (some c))
    · rw [State.takeTrigger_refused hheld]
      exact congrArg (fun u => Host.Outcome.next (s.settle u)) (State.answerTrigger_eq (s := s.raise 9) hc none)
    · intro r
      have hbegins : s.takeTrigger t = runAnswer c r := State.takeTrigger_begins hno hfree hlt
      have hev : r.1.ev = s.ev := State.takeWanted_touches c t.post (wantedFrames t s.cap.latest) _ .ev (by decide)
      have hcomp : r.1.ev.completion = some x := by rw [hev]; exact hc
      rw [hbegins]
      refine ⟨fun hdone => ?_, fun hmore => ?_⟩
      · have hgive : State.giveAnswer (runAnswer c r) = r.1.answerTrigger (some c) := by
          unfold runAnswer
          rw [hdone]
          rfl
        rw [hgive, State.answerTrigger_eq hcomp]
        rfl
      · have hgive : State.giveAnswer (runAnswer c r) = r.1 := by
          unfold runAnswer
          rw [hmore]
          rfl
        rw [hgive]
  · intro y
    rw [exec_captureTrigger_of_run hr]
    refine ⟨fun hw => ?_, fun hw hy => ?_, fun hw hy => ?_⟩
    · rw [if_pos (Option.isSome_iff_ne_none.2 hw)]
    · rw [hw]
      exact congrArg (fun u => Host.Outcome.next (s.settle u)) (if_pos hy)
    · have hno : ¬ (s.continueRun r).2 = true := fun h => Bool.false_ne_true (hy.symm.trans h)
      rw [hw]
      exact congrArg (fun u => Host.Outcome.next (s.settle u)) (if_neg hno)
  · intro first last hpre
    have hfirst : t.first.toNat = first := t.first_toNat hpre
    have hlast : (t.last latest).toNat = last := by
      unfold last
      cases latest with
      | none => rfl
      | some l => exact t.last_some l
    rw [wantedFrames_eq]
    refine ⟨?_, fun i q hq => ?_⟩
    · rw [List.length_map, List.length_range, half_sub_toNat, hfirst, hlast]
    · rw [List.getElem?_map, Option.map_eq_some_iff] at hq
      obtain ⟨j, hj, rfl⟩ := hq
      obtain ⟨hi, hj⟩ := List.getElem?_eq_some_iff.1 hj
      rw [List.getElem_range] at hj
      subst hj
      rw [BitVec.toNat_add, BitVec.toNat_ofNat, hfirst]
      omega

end Sys2Proof.Machine
end

section
/-! PROOFS. Freezes that had to wait, post-frames, and the MOULD CHANGE that waited for one (R122, R127, R130, R134). -/

namespace Sys2Proof.Machine

section
variable {s : State} {c : Fin 4} {l : Fin 32} {p q : Fin 48} {seq w : Half} {rest : List (Fin 48)}

/-! ## A slot that still holds its frame (R122) -/

theorem State.resumePost_kept {f : PostFreeze} (h : s.asm.tags[f.phys] = .complete f.seq ∧ s.cap.map[f.slot] = f.phys) :
    s.resumePost f = State.freezePost { s with cap := { s.cap with post := none } } f.slot f.seq :=
  if_pos (State.stillHolds_iff (s := { s with cap := { s.cap with post := none } }).2 h)

theorem State.resumePost_given_up {f : PostFreeze} (h : ¬ (s.asm.tags[f.phys] = .complete f.seq ∧ s.cap.map[f.slot] = f.phys)) :
    s.resumePost f = { s with cap := { s.cap with post := none } } :=
  if_neg (mt (State.stillHolds_iff (s := { s with cap := { s.cap with post := none } })).1 h)

/-! ## A post-frame (R130) -/

theorem State.freezePost_no_capture (h : ∀ c : Fin 4, s.cap.table[c].state ≠ .opened) : s.freezePost l seq = s := by
  unfold State.freezePost
  rw [CaptureUnit.find_eq_none h]

theorem State.freezePost_of_open (h : s.OpenCapture c) : s.freezePost l seq =
    if s.cap.spare.isEmpty then s.holdCapture c true
    else ((s.freezeSlot c l seq).modCapture c fun e => { e with remaining := e.remaining - 1 }).afterPostFreeze c := by
  unfold State.freezePost
  rw [CaptureUnit.find_eq_some h.1 h.2]

/-- The post-frame in logical slot `l` has been frozen for capture `c`, and one fewer remains. -/
def State.postFrozen (s : State) (c : Fin 4) (l : Fin 32) (seq : Half) (q : Fin 48) (rest : List (Fin 48)) : State :=
  { s with cap := { s.cap with
    map := s.cap.map.set l q
    spare := rest
    table := s.cap.table.set c { s.cap.table[c] with
      frames := s.cap.table[c].frames ++ [(seq, s.cap.map[l])], remaining := s.cap.table[c].remaining - 1 } } }

theorem State.freezePost_of_spare (h : s.OpenCapture c) (hq : s.cap.spare = q :: rest) :
    s.freezePost l seq = (s.postFrozen c l seq q rest).afterPostFreeze c := by
  have hset (e : Capture) : ((s.cap.table.set c e).set c { (s.cap.table.set c e)[c] with
      remaining := (s.cap.table.set c e)[c].remaining - 1 }) = s.cap.table.set c { e with remaining := e.remaining - 1 } := by
    rw [vector_set_self_get, Vector.set_set]
  rw [State.freezePost_of_open h, if_neg (by rw [hq]; exact Bool.false_ne_true), State.freezeSlot_of_spare hq]
  unfold State.modCapture CaptureUnit.modEntry
  dsimp only
  rw [hset]
  rfl

theorem State.postFrozen_entry : (s.postFrozen c l seq q rest).cap.table[c] = { s.cap.table[c] with
    frames := s.cap.table[c].frames ++ [(seq, s.cap.map[l])], remaining := s.cap.table[c].remaining - 1 } :=
  vector_set_self_get _ _ _

theorem State.afterPostFreeze_full (h : s.cap.table[c].remaining = 0 ∨ 12 ≤ s.cap.table[c].frames.length) :
    s.afterPostFreeze c = s.holdCapture c false := if_pos (frameListFull_iff.2 h)

theorem State.afterPostFreeze_of_room (hr : 0 < s.cap.table[c].remaining) (hl : s.cap.table[c].frames.length < 12) :
    s.afterPostFreeze c = if s.cap.spare.isEmpty then s.holdCapture c true else s :=
  if_neg (mt frameListFull_iff.1 (by omega))

/-! ## The MOULD CHANGE that waited (R134) -/

theorem State.mouldAfterFreeze_waiting {i : Fin 8} {x : Profile} {serial : Word}
    (h : s.cmd.exec = some ⟨i, .mould x serial .capture⟩) : s.mouldAfterFreeze = s.closeOpenCapture.complete .done := by
  unfold State.mouldAfterFreeze
  rw [h]
  rfl

theorem State.mouldAfterFreeze_other (h : ∀ i x serial, s.cmd.exec ≠ some ⟨i, .mould x serial .capture⟩) :
    s.mouldAfterFreeze = s := by
  unfold State.mouldAfterFreeze
  split
  · next i x serial he => exact absurd he (h i x serial)
  · rfl

/-! ## The command (R122, R127) -/

theorem exec_freeze_of_post {f : PostFreeze} (h : s.cap.post = some f) : exec .freeze s =
    .next (s.settle (if s.accessTo f.phys then s else (s.resumePost f).mouldAfterFreeze)) := by
  refine congrArg s.settled ?_
  rw [h]

theorem exec_freeze_of_no_post (h : s.cap.post = none) (hno : ∀ r, s.cap.run = some r → r.waits = none) :
    exec .freeze s = .next (s.settle s) := by
  refine congrArg s.settled ?_
  rw [h]
  cases hr : s.cap.run with
  | none => rfl
  | some r =>
    dsimp only
    unfold State.freezeRun
    rw [hno r hr]

section
variable {r : CaptureRun} {ws : List Half} (hp : s.cap.post = none) (hr : s.cap.run = some r) (hw : r.waits = some (l, p))
include hp hr hw

theorem exec_freeze_of_run : exec .freeze s =
    .next (s.settle (if s.accessTo p then s else State.endRun r (s.resumeRun r l p))) := by
  refine congrArg s.settled ?_
  rw [hp, hr]
  dsimp only
  unfold State.freezeRun
  rw [hw]

/-- What a run's waiting freeze has come to, once no access to its slot is in progress. -/
theorem exec_freeze_of_free_run {x : State × Bool} (ha : s.accessTo p = false) (hx : s.resumeRun r l p = x) :
    exec .freeze s = .next (s.settle (State.endRun r x)) := by
  rw [exec_freeze_of_run hp hr hw, if_neg (by rw [ha]; decide), hx]

end

section
variable {r : CaptureRun} {ws : List Half} (hwant : r.wanted = w :: ws)
include hwant

theorem State.resumeRun_kept (h : s.asm.tags[p] = .complete w ∧ s.cap.map[l] = p) : s.resumeRun r l p =
    if s.cap.spare.isEmpty then (State.holdCapture { s with cap := { s.cap with run := none } } r.cap true, true)
    else (State.freezeSlot { s with cap := { s.cap with run := none } } r.cap l w).runOn r.cap r.post ws := by
  unfold State.resumeRun
  dsimp only
  rw [hwant]
  exact if_pos (State.stillHolds_iff (s := { s with cap := { s.cap with run := none } }).2 h)

theorem State.resumeRun_given_up (h : ¬ (s.asm.tags[p] = .complete w ∧ s.cap.map[l] = p)) : s.resumeRun r l p =
    (State.missFrame { s with cap := { s.cap with run := none } } r.cap).runOn r.cap r.post ws := by
  unfold State.resumeRun
  dsimp only
  rw [hwant]
  exact if_neg (mt (State.stillHolds_iff (s := { s with cap := { s.cap with run := none } })).1 h)

end

theorem State.endRun_runOn_nil (r : CaptureRun) (v : State) :
    State.endRun r (v.runOn r.cap r.post []) = (v.decideCapture r.cap r.post).answerTrigger (some r.cap) := rfl

theorem State.endRun_runOn_of_ne (r : CaptureRun) (v : State) {ws : List Half} (h : ws ≠ []) :
    State.endRun r (v.runOn r.cap r.post ws) = { v with cap := { v.cap with run := some ⟨r.cap, ws, r.post, none⟩ } } := by
  rw [State.runOn_of_ne h]
  rfl

end

/-- Settles O44: the waiting freeze by the access and the tag, the run by what is left of it, the post-frame by R130. -/
theorem waitingFreezesAreMade : Obligations.WaitingFreezesAreMade := by
  unfold Obligations.WaitingFreezesAreMade
  refine ⟨fun s f hf => ?_, fun s => ⟨fun ⟨i, x, serial, h⟩ => State.mouldAfterFreeze_waiting h, State.mouldAfterFreeze_other⟩,
    fun s p => State.accessTo_iff s p, fun s => exec_freeze_of_no_post, fun s r l p w ws hp hr hw hwant => ?_,
    fun s c l seq ho h0 => ?_, fun s l seq => State.freezePost_no_capture, fun s c l seq q rest ho hq => ?_⟩
  · intro u kept
    rw [exec_freeze_of_post hf]
    refine ⟨fun ha => by rw [if_pos ha], fun ha hk => ?_, fun ha hk => ?_⟩
    · rw [if_neg (by rw [ha]; decide), State.resumePost_kept hk]
    · rw [if_neg (by rw [ha]; decide), State.resumePost_given_up hk]
  · intro u kept goesOn
    have hgoes (v : State) (ha : s.accessTo p = false) (hx : s.resumeRun r l p = v.runOn r.cap r.post ws) : goesOn v := by
      have hexec := exec_freeze_of_free_run hp hr hw ha hx
      refine ⟨fun h => ?_, fun h => ?_⟩
      · rw [hexec, h, State.endRun_runOn_nil]
      · rw [hexec, State.endRun_runOn_of_ne r v h]
    refine ⟨fun ha => ?_, fun ha hk => ?_, fun ha hk h0 => ?_, fun ha hk h0 => ?_⟩
    · rw [exec_freeze_of_run hp hr hw, if_pos ha]
    · exact hgoes _ ha (State.resumeRun_given_up hwant hk)
    · exact hgoes _ ha ((State.resumeRun_kept hwant hk).trans (if_neg (mt List.isEmpty_iff.1 h0)))
    · exact exec_freeze_of_free_run hp hr hw ha ((State.resumeRun_kept hwant hk).trans (if_pos (List.isEmpty_iff.2 h0)))
  · rw [State.freezePost_of_open ho, if_pos (List.isEmpty_iff.2 h0)]
  · intro e e1 frozen
    have hentry : (s.postFrozen c l seq q rest).cap.table[c] = e1 := State.postFrozen_entry
    rw [State.freezePost_of_spare ho hq]
    refine ⟨fun hfull => ?_, fun hrem hlen h0 => ?_, fun hrem hlen h0 => ?_⟩
    · rw [State.afterPostFreeze_full (by rw [hentry]; exact hfull)]
      rfl
    · rw [State.afterPostFreeze_of_room (by rw [hentry]; exact hrem) (by rw [hentry]; exact hlen)]
      exact if_pos (List.isEmpty_iff.2 h0)
    · rw [State.afterPostFreeze_of_room (by rw [hentry]; exact hrem) (by rw [hentry]; exact hlen)]
      exact if_neg (mt List.isEmpty_iff.1 h0)

end Sys2Proof.Machine
end

section
/-! PROOFS. MOULD CHANGE: when it waits, its refusal, the cycle end, the open events, the new mould, and its end (R51, R72, R88, R112, R117, R118, R130, R134). -/

namespace Sys2Proof.Machine

section
variable {s t u v : State} {i : Fin 8} {rest : List (Fin 8)} {p : Profile} {serial : Word} {job : Job}

/-! ## When it must wait (R72, R87, R104) -/

theorem State.evalOwed_iff : s.evalOwed = true ↔ s.zone.eval ≠ none ∨ s.zone.due ≠ [] := by
  simp [State.evalOwed, Option.isSome_iff_ne_none]

/-- The frame under analysis stands within a sample set. -/
def State.withinSet (s : State) : Prop :=
  (∃ f n c what, s.aq.work = some ⟨f, .due n c what⟩) ∨ ∃ f n, s.aq.work = some ⟨f, .window n⟩

theorem State.mouldMustWait_iff : s.mouldMustWait = true ↔ s.evalOwed = true ∨ s.checkBusy = true ∨ s.withinSet := by
  unfold State.mouldMustWait State.withinSet
  rw [Bool.or_eq_true, Bool.or_eq_true, or_assoc]
  refine or_congr_right (or_congr_right ?_)
  cases hw : s.aq.work with
  | none => simp
  | some w =>
    obtain ⟨f, phase⟩ := w
    cases phase <;> simp

theorem State.idle_of_mouldMustWait (h : s.mouldMustWait = false) :
    s.zone.eval = none ∧ s.zone.due = [] ∧ s.ev.completion = none := by
  have hno : ¬ (s.evalOwed = true ∨ s.checkBusy = true ∨ s.withinSet) := mt State.mouldMustWait_iff.2 (by rw [h]; decide)
  have howed : ¬ (s.zone.eval ≠ none ∨ s.zone.due ≠ []) := fun hq => hno (.inl (State.evalOwed_iff.2 hq))
  have hbusy : ¬ s.ev.completion ≠ none := fun hq => hno (.inr (.inl (State.checkBusy_iff.2 (.inl hq))))
  simp only [not_or, not_not] at howed hbusy
  exact ⟨howed.1, howed.2, hbusy⟩

theorem exec_mouldChange_waits (h : s.mouldMustWait = true) : exec .mouldChange s = .next (s.settle s) :=
  congrArg s.settled (if_pos h)

/-! ## The refusal (R117) -/

/-- What MOULD CHANGE does with the type and serial it names. -/
def State.mouldWork (s : State) (type : Nat) (serial : Word) : State :=
  match s.namedProfile type with
  | some p => s.mouldBegin p serial
  | none => s.complete .refusedNoProfile

theorem exec_mouldChange_of_begins (hw : s.mouldMustWait = false) (h : s.Begins 0x0B i rest) : exec .mouldChange s =
    .next (s.settle ((s.begun i rest .completing).mouldWork (s.arg i 1) s.cmd.slots[i].shadow[2])) := by
  have hserial : vget s.cmd.slots[i].shadow 2 0 = s.cmd.slots[i].shadow[2] := vget_fin _ (2 : Fin 16) 0
  rw [← argument_eq_arg, ← hserial]
  exact congrArg s.settled ((if_neg (by rw [hw]; decide)).trans (State.command_of_begins _ h))

theorem State.namedProfile_none {n : Nat} (h : n = 0 ∨ 256 ≤ n ∨ ∀ p ∈ s.loader.stored, p.type ≠ n) : s.namedProfile n = none := by
  unfold State.namedProfile
  by_cases ho : outside 1 255 n = true
  · rw [if_pos ho]
  · rw [outside_iff] at ho
    rw [if_neg (mt outside_iff.1 ho), List.find?_eq_none]
    intro p hp
    rcases h with h | h | h
    · omega
    · omega
    · simpa using h p hp

theorem State.namedProfile_some {n : Nat} (h1 : 1 ≤ n) (h2 : n ≤ 255)
    (h : (s.loader.stored.find? fun q => q.type == n) = some p) : s.namedProfile n = some p :=
  (if_neg (mt outside_iff.1 (by omega))).trans h

theorem exec_mouldChange_of_takes (h : s.TakesMould i rest p) : exec .mouldChange s =
    .next (s.settle ((s.begun i rest .completing).mouldBegin p s.cmd.slots[i].shadow[2])) := by
  obtain ⟨hw, hb, h1, h2, hf⟩ := h
  have hname : (s.begun i rest .completing).namedProfile (s.arg i 1) = some p := State.namedProfile_some h1 h2 hf
  rw [exec_mouldChange_of_begins hw hb]
  unfold State.mouldWork
  rw [hname]

/-! ## The channels and the open events (R72, R88) -/

theorem EventBuilder.settleAll_picked (b : EventBuilder) : ∀ e ∈ b.settleAll.openEvents, e.fate ≠ .stays := by
  intro e he
  obtain ⟨x, -, rfl⟩ := List.mem_map.1 he
  cases x.ready <;> simp

theorem State.mouldSettle_waits (hc : s.ev.completion = none) (ho : s.ev.openEvents ≠ []) :
    s.mouldSettle p serial = s.abandonAll.setJob (.mould p serial .events) :=
  if_pos ((State.abandonAll_checkBusy hc).2 ho)

theorem State.mouldSettle_acts (hc : s.ev.completion = none) (ho : s.ev.openEvents = []) :
    s.mouldSettle p serial = s.abandonAll.mouldHandRecord p serial :=
  if_neg fun h => (State.abandonAll_checkBusy hc).1 h ho

theorem Idles.zone {l : List (Fin 4)} (h : Idles l s t) : t.zone = s.zone := by rw [h.rest]

theorem Idles.report {l : List (Fin 4)} (h : Idles l s t) : t.report = s.report := by rw [h.rest]

theorem Idles.profile {l : List (Fin 4)} (h : Idles l s t) : t.ev.profile = s.ev.profile := by rw [h.events]

theorem State.abandonAll_cmd (s : State) : s.abandonAll.cmd = s.cmd := by rw [s.abandonAll_idles.rest]

theorem State.mouldHandRecord_eq (he : s.cmd.exec = some ⟨i, job⟩) : s.mouldHandRecord p serial = { s with
    ev := { s.ev with profile := some p }
    zone := { s.zone with
      records := clearedRecords p, mouldType := p.type, serial := serial, firstCycle := nextCycle s.gate.cycle, started := false }
    report := { s.report with handed := s.report.handed ++ [s.mouldRecord] }
    cmd := { s.cmd with exec := some ⟨i, .mould p serial .record⟩ } } :=
  State.setJob_of_exec (s := (s.handOver s.mouldRecord).putMould p serial) he _

/-- What a settled MOULD CHANGE leaves in the Zone Table, the Event Builder, the reports and the Command Unit. -/
theorem State.mouldSettle_settled (he : s.cmd.exec = some ⟨i, job⟩) (hc : s.ev.completion = none) :
    s.MouldSettled (s.mouldSettle p serial) i p serial := by
  have hidle := s.abandonAll_idles
  have hpicked := EventBuilder.settleAll_picked ((List.finRange 4).foldl State.abandonChannel s).ev
  have hexec : s.abandonAll.cmd.exec = some ⟨i, job⟩ := by rw [State.abandonAll_cmd]; exact he
  refine ⟨fun ho => ?_, fun ho => ?_⟩
  · rw [State.mouldSettle_acts hc ho]
    generalize s.abandonAll = u at hidle hexec
    rw [State.mouldHandRecord_eq hexec, hidle.report]
    exact ⟨rfl, rfl, rfl, List.length_append, rfl⟩
  · rw [State.mouldSettle_waits hc ho, State.setJob_of_exec hexec]
    change ∀ e ∈ s.abandonAll.ev.openEvents, e.fate ≠ .stays at hpicked
    generalize s.abandonAll = u at hidle hexec hpicked
    exact ⟨hidle.zone, hidle.report, hidle.profile, hidle.count, hpicked, rfl⟩

theorem State.MouldSettled.settle (h : u.MouldSettled t i p serial) (hz : u.zone = s.zone) (hr : u.report = s.report)
    (he : u.ev = s.ev) : s.MouldSettled (v.settle t) i p serial := by
  unfold State.MouldSettled at h ⊢
  rw [hz, hr, he] at h
  rw [State.settle_zone, State.settle_ev, State.settle_report, State.settle_cmd]
  exact h

/-- The queue, the Sequencer and what is due to the Zone Table are left as they are. -/
theorem State.mouldSettle_keeps (he : s.cmd.exec = some ⟨i, job⟩) (hc : s.ev.completion = none) :
    (s.mouldSettle p serial).aq = s.aq ∧ (s.mouldSettle p serial).gate = s.gate ∧ (s.mouldSettle p serial).zone.due = s.zone.due := by
  have hexec : s.abandonAll.cmd.exec = some ⟨i, job⟩ := by rw [State.abandonAll_cmd]; exact he
  by_cases ho : s.ev.openEvents = []
  · rw [State.mouldSettle_acts hc ho, State.mouldHandRecord_eq hexec, s.abandonAll_idles.rest]
    exact ⟨rfl, rfl, rfl⟩
  · rw [State.mouldSettle_waits hc ho, State.setJob_of_exec hexec, s.abandonAll_idles.rest]
    exact ⟨rfl, rfl, rfl⟩

/-! ## The cycle end (R31, R51, R112) -/

theorem AnalysisQueue.carries_iff {l : List AQEntry} {n : Word} :
    l.any (·.carries n) = true ↔ ∃ f, .frame f ∈ l ∧ f.tag.cycle = n := by
  rw [List.any_eq_true]
  constructor
  · rintro ⟨e, he, hc⟩
    obtain ⟨f, rfl, hf⟩ := AQEntry.carries_iff.1 hc
    exact ⟨f, he, hf⟩
  · rintro ⟨f, hf, hc⟩
    exact ⟨_, hf, AQEntry.carries_iff.2 ⟨f, rfl, hc⟩⟩

theorem marker_mem_insertMarker {n : Word} {m : AQEntry} {l : List AQEntry} (h : l.any (·.carries n) = true) : m ∈ insertMarker n m l := by
  induction l with
  | nil => simp at h
  | cons e l ih =>
    unfold insertMarker
    by_cases hl : l.any (·.carries n) = true
    · rw [if_pos hl]
      exact List.mem_cons_of_mem _ (ih hl)
    · have he : e.carries n = true := by simpa [hl] using h
      rw [if_neg hl, if_pos he]
      simp

section
variable {r : CycleRun} (hst : s.gate.state = .inCycle r) (c : Cause) (time : Nat)
include hst

theorem State.endCycle_of_run : s.endCycle c time =
    State.handCycleEnd { s with gate := { s.gate with state := .idle, gates := {} } } (r.summaryAt c time) := by
  unfold State.endCycle
  rw [hst]

theorem State.endTime_of_run : s.endTime = max s.clock r.stepStart := by
  unfold State.endTime
  rw [hst]

/-- The cycle end as it is handed over: its marker joins the queue, or it is due at once. -/
theorem State.endCycle_queued (h : s.aq.entries.any (·.carries r.summary.cycle) = true) : s.endCycle c time = { s with
    gate := { s.gate with state := .idle, gates := {} }
    aq := { s.aq with entries := insertMarker r.summary.cycle (.marker (r.summaryAt c time)) s.aq.entries } } :=
  (State.endCycle_of_run hst c time).trans (if_pos h)

theorem State.endCycle_work (h : ¬ s.aq.entries.any (·.carries r.summary.cycle) = true) (hw : s.aq.workCarries r.summary.cycle = true) :
    s.endCycle c time = { s with
      gate := { s.gate with state := .idle, gates := {} }
      aq := { s.aq with entries := .marker (r.summaryAt c time) :: s.aq.entries } } :=
  (State.endCycle_of_run hst c time).trans ((if_neg h).trans (if_pos hw))

theorem State.endCycle_due (h : ¬ s.aq.entries.any (·.carries r.summary.cycle) = true)
    (hw : ¬ s.aq.workCarries r.summary.cycle = true) : s.endCycle c time = { s with
      gate := { s.gate with state := .idle, gates := {} }
      zone := { s.zone with due := s.zone.due ++ [r.summaryAt c time] } } :=
  (State.endCycle_of_run hst c time).trans ((if_neg h).trans (if_neg hw))

end

/-- With no evaluation due, an accepted MOULD CHANGE settles at once. -/
theorem State.mouldBegin_settles (h : (s.endCycle .mould s.endTime).zone.due = []) :
    s.mouldBegin p serial = (s.endCycle .mould s.endTime).mouldSettle p serial :=
  if_pos (List.isEmpty_iff.2 h)

theorem State.mouldBegin_waits (h : (s.endCycle .mould s.endTime).zone.due ≠ []) :
    s.mouldBegin p serial = (s.endCycle .mould s.endTime).setJob (.mould p serial .evaluation) :=
  if_neg (mt List.isEmpty_iff.1 h)

/-! ## The end (R130, R134) -/

theorem State.runCont_mouldPut (he : s.cmd.exec = some ⟨i, .mould p serial .record⟩) : s.runCont .mouldPut =
    if s.postWaits then s.setJob (.mould p serial .capture) else s.makePost.mouldClose := by
  change s.mouldFinish = _
  unfold State.mouldFinish
  rw [he]

theorem State.closeOpenCapture_of_open {c : Fin 4} (h : s.OpenCapture c) : s.closeOpenCapture = s.holdCapture c true := by
  unfold State.closeOpenCapture
  rw [CaptureUnit.find_eq_some h.1 h.2]

theorem State.closeOpenCapture_of_none (h : ∀ c : Fin 4, s.cap.table[c].state ≠ .opened) : s.closeOpenCapture = s := by
  unfold State.closeOpenCapture
  rw [CaptureUnit.find_eq_none h]

theorem State.mouldAfterEval_waiting (he : s.cmd.exec = some ⟨i, .mould p serial .evaluation⟩) :
    s.mouldAfterEval = s.mouldSettle p serial := by
  unfold State.mouldAfterEval
  rw [he]

/-! ## A MOULD CHANGE that owes no evaluation -/

section
variable (hx : s.cmd.exec = some ⟨i, job⟩) (hc : s.ev.completion = none) (hz : u.zone = s.zone) (hr : u.report = s.report)
  (he : u.ev = s.ev)
include hx hc hz hr he

/-- Settled from `s`, which has the blocks of `u` as far as they matter. -/
theorem State.mouldSettle_from : u.MouldSettled (v.settle (s.mouldSettle p serial)) i p serial
    ∧ (v.settle (s.mouldSettle p serial)).aq = s.aq ∧ (v.settle (s.mouldSettle p serial)).gate = s.gate
    ∧ (v.settle (s.mouldSettle p serial)).zone.due = s.zone.due := by
  obtain ⟨haq, hgate, hdue⟩ := State.mouldSettle_keeps (p := p) (serial := serial) hx hc
  refine ⟨(State.mouldSettle_settled hx hc).settle hz.symm hr.symm he.symm, ?_, ?_, ?_⟩
  · rw [State.settle_aq]; exact haq
  · rw [State.settle_gate]; exact hgate
  · rw [State.settle_zone]; exact hdue

end

/-- The new mould in force at once, when no cycle runs and no event is open (R100, R117, R118). -/
theorem State.mouldSettle_at_once (hx : s.cmd.exec = some ⟨i, job⟩) (hc : s.ev.completion = none) (ho : s.ev.openEvents = []) :
    ∃ d b, s.mouldSettle p serial = { s with
        det := d
        ev := b
        zone := { s.zone with
          records := clearedRecords p, mouldType := p.type, serial := serial, firstCycle := nextCycle s.gate.cycle, started := false }
        report := { s.report with handed := s.report.handed ++ [s.mouldRecord] }
        cmd := { s.cmd with exec := some ⟨i, .mould p serial .record⟩ } }
      ∧ b.openEvents = [] ∧ ∀ c : Fin 4, d.chans[c] = { s.det.chans[c] with state := .idle } := by
  have hidle := s.abandonAll_idles
  have hexec : s.abandonAll.cmd.exec = some ⟨i, job⟩ := by rw [State.abandonAll_cmd]; exact hx
  have hopen : s.abandonAll.ev.openEvents = [] := List.eq_nil_of_length_eq_zero (hidle.count.trans (by rw [ho]; rfl))
  have hrec : s.abandonAll.mouldRecord = s.mouldRecord := by rw [hidle.rest]; rfl
  refine ⟨s.abandonAll.det, { s.abandonAll.ev with profile := some p }, ?_, hopen, hidle.chan⟩
  rw [State.mouldSettle_acts hc ho, State.mouldHandRecord_eq hexec, hrec, hidle.rest]

/-- An accepted MOULD CHANGE that owes no evaluation once the running cycle, if there is one, has ended. -/
theorem State.TakesMould.settles (h : s.TakesMould i rest p)
    (hend : (s.begun i rest .completing).endCycle .mould (s.begun i rest .completing).endTime = u) (hz : u.zone = s.zone)
    (hrep : u.report = s.report) (hev : u.ev = s.ev) (hcmd : u.cmd.exec = some ⟨i, .completing⟩) :
    exec .mouldChange s = .next (s.settle (u.mouldSettle p s.cmd.slots[i].shadow[2]))
      ∧ s.MouldSettled (s.settle (u.mouldSettle p s.cmd.slots[i].shadow[2])) i p s.cmd.slots[i].shadow[2]
      ∧ (s.settle (u.mouldSettle p s.cmd.slots[i].shadow[2])).aq = u.aq
      ∧ (s.settle (u.mouldSettle p s.cmd.slots[i].shadow[2])).gate = u.gate
      ∧ (s.settle (u.mouldSettle p s.cmd.slots[i].shadow[2])).zone.due = [] := by
  obtain ⟨-, hdue, hcomp⟩ := State.idle_of_mouldMustWait h.1
  have hudue : u.zone.due = [] := (congrArg ZoneTable.due hz).trans hdue
  obtain ⟨hset, haq, hgate, hzd⟩ := State.mouldSettle_from (v := s) (p := p) (serial := s.cmd.slots[i].shadow[2]) hcmd
    ((congrArg EventBuilder.completion hev).trans hcomp) hz.symm hrep.symm hev.symm
  refine ⟨?_, hset, haq, hgate, hzd.trans hudue⟩
  rw [exec_mouldChange_of_takes h, State.mouldBegin_settles (by rw [hend]; exact hudue), hend]

theorem clearedRecords_get (p : Profile) (z : Fin 24) {zt : ZoneTable} (h : zt.records = clearedRecords p) :
    zt.record? z = if z.val < p.zoneCount then
      some ⟨if p.mask.getLsbD z then .masked else .clear, 0, 0, 0, 0, 0, none, none⟩ else none := by
  unfold ZoneTable.record?
  rw [h, clearedRecords_eq, vget_fin]
  simp

end

/-- Settles O58: the refusal, the cycle end in its three places, the new mould, the open events, and the end. -/
theorem mouldChangeActsInOrder : Obligations.MouldChangeActsInOrder := by
  unfold Obligations.MouldChangeActsInOrder
  refine ⟨fun s i rest hw hb hno => ?_, fun s i rest p ht => ?_, fun s i rest p ht hrun ho => ?_, fun s i job p serial he hc => ?_,
    fun s i p serial he e hev => ?_, fun s => exec_mouldChange_waits, fun s => ?_, fun s i p serial he => ?_,
    fun s => ⟨fun c => State.closeOpenCapture_of_open, State.closeOpenCapture_of_none⟩⟩
  · have hnone : (s.begun i rest .completing).namedProfile (s.arg i 1) = none := State.namedProfile_none hno
    rw [exec_mouldChange_of_begins hw hb]
    unfold State.mouldWork
    rw [hnone, State.complete_begun]
  · intro serial x settles
    obtain ⟨heval, hdue, hcomp⟩ := State.idle_of_mouldMustWait ht.1
    have hexec : exec .mouldChange s = .next (s.settle (x.mouldBegin p serial)) := exec_mouldChange_of_takes ht
    refine ⟨fun hrun => ?_, fun r hr => ?_⟩
    · have hend : x.endCycle .mould x.endTime = x := State.endCycle_of_not_running (s := x) hrun _ _
      obtain ⟨hsettles, hset, -⟩ := ht.settles hend rfl rfl rfl rfl
      exact ⟨hsettles, _, hsettles, hset⟩
    · intro u carries marks
      have hmid : x.endCycle .mould x.endTime = u := congrArg (x.endCycle .mould) (State.endTime_of_run (s := x) hr)
      refine ⟨fun hq => ?_, fun w hno hw hwc => ?_, fun hno hwno => ?_⟩
      · have hany := AnalysisQueue.carries_iff.2 hq
        have hu : u = _ := State.endCycle_queued (s := x) hr .mould _ hany
        obtain ⟨hsettles, hset, haq, hgate, hzd⟩ := ht.settles hmid (by rw [hu]; rfl) (by rw [hu]; rfl) (by rw [hu]; rfl) (by rw [hu]; rfl)
        refine ⟨hsettles, _, hsettles, by rw [hgate, hu], hzd, hset, r.summaryAt .mould (max s.clock r.stepStart), ?_, rfl, rfl⟩
        rw [haq, hu]
        exact marker_mem_insertMarker hany
      · have hany : ¬ s.aq.entries.any (·.carries r.summary.cycle) = true := fun h => by
          obtain ⟨f, hf, hc⟩ := AnalysisQueue.carries_iff.1 h
          exact hno f hf hc
        have hwork := AnalysisQueue.workCarries_iff.2 ⟨w, hw, hwc⟩
        have hu : u = _ := State.endCycle_work (s := x) hr .mould _ hany hwork
        obtain ⟨hsettles, hset, haq, hgate, hzd⟩ := ht.settles hmid (by rw [hu]; rfl) (by rw [hu]; rfl) (by rw [hu]; rfl) (by rw [hu]; rfl)
        refine ⟨hsettles, _, hsettles, by rw [hgate, hu], hzd, hset, ?_, r.summaryAt .mould (max s.clock r.stepStart), ?_, rfl, rfl⟩
        · rw [haq, hu]
          exact hw
        · rw [haq, hu]
          rfl
      · have hany : ¬ s.aq.entries.any (·.carries r.summary.cycle) = true := fun h => by
          obtain ⟨f, hf, hc⟩ := AnalysisQueue.carries_iff.1 h
          exact hno f hf hc
        have hwork : ¬ s.aq.workCarries r.summary.cycle = true := fun h => by
          obtain ⟨w, hw, hc⟩ := AnalysisQueue.workCarries_iff.1 h
          exact hwno w hw hc
        have hu : u = _ := State.endCycle_due (s := x) hr .mould _ hany hwork
        have hudue : u.zone.due = [r.summaryAt .mould (max s.clock r.stepStart)] := by
          rw [hu]
          exact congrArg (· ++ _) hdue
        have hucmd : u.cmd.exec = some ⟨i, .completing⟩ := by rw [hu]; rfl
        have hres : exec .mouldChange s =
            .next (s.settle { u with cmd := { u.cmd with exec := some ⟨i, .mould p serial .evaluation⟩ } }) := by
          rw [hexec, State.mouldBegin_waits (by rw [hmid, hudue]; exact List.cons_ne_nil _ _), hmid, State.setJob_of_exec hucmd]
          rfl
        refine ⟨hres, _, hres, ?_, ?_, ?_, ⟨r.summaryAt .mould (max s.clock r.stepStart), ?_, rfl, rfl⟩, ?_⟩
        · rw [State.settle_gate, hu]
        · rw [State.settle_zone, hu]
          rfl
        · rw [State.settle_zone, hu]
          rfl
        · rw [State.settle_zone]
          exact hudue
        · rw [State.settle_cmd]
  · obtain ⟨heval, hdue, hcomp⟩ := State.idle_of_mouldMustWait ht.1
    have hend : (s.begun i rest .completing).endCycle .mould (s.begun i rest .completing).endTime = s.begun i rest .completing :=
      State.endCycle_of_not_running (s := s.begun i rest .completing) hrun _ _
    obtain ⟨d, b, hset, hb, hd⟩ := State.mouldSettle_at_once (s := s.begun i rest .completing) (p := p)
      (serial := s.cmd.slots[i].shadow[2]) (i := i) (job := .completing) rfl hcomp ho
    have hbegin := State.mouldBegin_settles (s := s.begun i rest .completing) (p := p) (serial := s.cmd.slots[i].shadow[2])
      (by rw [hend]; exact hdue)
    rw [hend, hset] at hbegin
    rw [exec_mouldChange_of_takes ht, hbegin]
    refine ⟨_, rfl, ?_⟩
    simp only [State.settle_ev, State.settle_zone, State.settle_det, State.settle_report, State.settle_cap, State.settle_asm,
      State.settle_aq, State.settle_gate, State.settle_notice, State.settle_mem]
    exact ⟨hb, trivial, rfl, fun z => clearedRecords_get p z rfl, hd, rfl, rfl, rfl, rfl, rfl, rfl, rfl⟩
  · intro u abandoned
    have hexec : s.abandonAll.cmd.exec = some ⟨i, job⟩ := by rw [State.abandonAll_cmd]; exact he
    refine ⟨fun ho => ?_, fun ho => State.mouldSettle_acts hc ho⟩
    rw [State.mouldSettle_waits hc ho, State.setJob_of_exec hexec]
    unfold State.doing
    rw [State.abandonAll_cmd]
    rfl
  · have hcmd : s.afterCycleRecord.cmd = s.cmd := State.afterCycleRecord_touches s .cmd (by decide)
    exact State.mouldAfterEval_waiting (by rw [hcmd]; exact he)
  · rw [State.mouldMustWait_iff, State.evalOwed_iff, State.checkBusy_iff]
    unfold State.withinSet
    rw [or_assoc, or_assoc]
  · intro closes
    refine ⟨fun hp => ?_, fun f hf => ?_⟩
    · have hpw : ¬ s.postWaits = true := by simp [State.postWaits, hp]
      have hmake : s.makePost = s := by unfold State.makePost; rw [hp]
      unfold closes
      rw [State.runCont_mouldPut he, if_neg hpw, hmake]
      rfl
    · intro v kept
      have hpw : s.postWaits = s.accessTo f.phys := by unfold State.postWaits; rw [hf]
      have hmake : s.makePost = s.resumePost f := by unfold State.makePost; rw [hf]
      have hfree (ha : s.accessTo f.phys = false) : s.runCont .mouldPut = (s.resumePost f).mouldClose := by
        rw [State.runCont_mouldPut he, hpw, if_neg (by rw [ha]; decide), hmake]
      refine ⟨fun ha => ?_, fun ha hk => ?_, fun ha hk => ?_⟩
      · rw [State.runCont_mouldPut he, hpw, if_pos ha, State.setJob_of_exec he]
        rfl
      · unfold closes
        rw [hfree ha, State.resumePost_kept hk]
        rfl
      · unfold closes
        rw [hfree ha, State.resumePost_given_up hk]
        rfl

end Sys2Proof.Machine
end

section
/-! PROOFS. Snooped sample-window writes: headers, data, partial and stray writes (R20 to R23, R28, R33, R50). -/

namespace Sys2Proof.Machine

section
variable {s : State} {l : Fin 32} {p : Fin 48} {i : Fin 128} {m : Nat} {lanes : Lanes} {w : Word} {later between : Bool}

/-! ## The command -/

theorem State.freezeFirst_of_none (h : ∀ f, s.cap.post = some f → f.phys = p) : s.freezeFirst p = false := by
  unfold State.freezeFirst
  cases hp : s.cap.post with
  | none => rfl
  | some f => simp [h f hp]

theorem exec_sampleWrite_of_snoops (h : s.SnoopsSample l p i m lanes w) : exec (.sampleWrite ⟨later, between⟩) s =
    .next (s.settle ((s.written m lanes w).assembleWrite l p i lanes w later between)) := by
  refine congrArg s.settled ?_
  rw [State.grantedSnoop_of_snoops h.1]
  exact if_neg (by rw [State.freezeFirst_of_none h.2]; decide)

/-- A write is turned away while the freeze of a post-frame is still to be made for another slot. -/
theorem exec_sampleWrite_turned_away {f : PostFreeze} {moment : WriteMoment} (h : s.Snoops (.sample l p i) m lanes w)
    (hf : s.cap.post = some f) (hne : f.phys ≠ p) : exec (.sampleWrite moment) s = .next (s.settle s) := by
  have hfirst : s.freezeFirst p = true := by simp [State.freezeFirst, hf, hne]
  refine congrArg s.settled ?_
  rw [State.grantedSnoop_of_snoops h]
  exact if_pos hfirst

end

/-! ## Lost frames (R28, R33) -/

section
variable {a : Assembler} {tag : FrameTag} {n : Nat}

theorem Gates.listens_iff {g : Gates} :
    (g.cls?.map Cls.listen).getD false = true ↔ g.blank = false ∧ (g.a = true ∨ g.b = true ∨ g.c = true) := by
  unfold Gates.cls?
  cases g.blank <;> cases g.a <;> cases g.b <;> cases g.c <;> simp [Cls.listen]

theorem Assembler.chargeLost_listen (h : (tag.gates.cls?.map Cls.listen).getD false = true) : a.chargeLost tag n = { a with
    lost := a.lost + BitVec.ofNat 32 n
    accounts := a.accounts.map fun x =>
      if x.cycle = tag.cycle then { x with lostListen := min 65535 (x.lostListen + n) } else x } := if_pos h

theorem Assembler.chargeLost_silent (h : ¬ (tag.gates.cls?.map Cls.listen).getD false = true) :
    a.chargeLost tag n = { a with lost := a.lost + BitVec.ofNat 32 n } := if_neg h

/-- A charge is to the total and to the accounts only. -/
theorem Assembler.chargeLost_keeps (a : Assembler) (tag : FrameTag) (n : Nat) :
    (a.chargeLost tag n).pendingLost = a.pendingLost ∧ (a.chargeLost tag n).tags = a.tags
      ∧ (a.chargeLost tag n).assembly = a.assembly := by
  unfold Assembler.chargeLost
  dsimp only
  split <;> exact ⟨rfl, rfl, rfl⟩

/-- A TORN frame (R20, R24). -/
theorem Assembler.tearFrame_eq (a : Assembler) (x : Assembly) : a.tearFrame x = { a.chargeLost x.tag 1 with
    assembly := none
    pendingLost := min 65535 (a.pendingLost + 1)
    tags := a.tags.set x.phys .disturbed } := by
  obtain ⟨hpending, htags, -⟩ := a.chargeLost_keeps x.tag 1
  rw [← hpending, ← htags]
  rfl

end

/-! ## The header (R20, R28, R50) -/

section
variable {s : State} {l : Fin 32} {p : Fin 48} {w : Word} {between : Bool} {tag : FrameTag}

/-- The assembly that a header starts. -/
theorem newAssembly_eq : newAssembly l p w tag =
    { slot := l, phys := p, seq := BitVec.ofNat 16 (fieldOf w 0 16), valid := BitVec.ofNat 4 (fieldOf w 16 4),
      overload := w.getLsbD 20, buf := Vector.replicate 126 0, written := Vector.replicate 126 false, torn := false,
      tag := tag } := by
  have hseq : (w.setWidth 16 : Half) = BitVec.ofNat 16 (fieldOf w 0 16) := by
    apply BitVec.eq_of_toNat_eq
    simp [fieldOf]
  rw [← hseq, ← bits_eq_fieldOf]
  rfl

theorem State.assembleWrite_header (later : Bool) : s.assembleWrite l p 0 0xF w later between = s.headerWrite l p w between := rfl

theorem State.headerWrite_idle (h : s.asm.assembly = none) (ht : s.frameTag between = tag) : s.headerWrite l p w between = { s with
    asm := { s.asm with assembly := some (newAssembly l p w tag), tags := s.asm.tags.set p .assembling } } := by
  unfold State.headerWrite
  rw [h, ht]
  rfl

theorem State.headerWrite_tears {x : Assembly} (h : s.asm.assembly = some x) (ht : s.frameTag between = tag) :
    s.headerWrite l p w between = { s with
      asm := { s.asm.chargeLost x.tag 1 with
        assembly := some (newAssembly l p w tag)
        pendingLost := min 65535 (s.asm.pendingLost + 1)
        tags := (s.asm.tags.set x.phys .disturbed).set p .assembling } } := by
  unfold State.headerWrite
  rw [h, ht]
  dsimp only
  rw [Assembler.tearFrame_eq]
  rfl

end

/-- Settles O21: the tag by the instant, the assembly by what was in progress, and a charge by the class of its tag. -/
theorem headerWriteStartsAssembly : Obligations.HeaderWriteStartsAssembly := by
  unfold Obligations.HeaderWriteStartsAssembly
  refine ⟨fun s l p m w later between tag h hbetween hnow => ?_, fun a tag n => ?_⟩
  · intro u fresh
    have htag : u.frameTag between = tag := by
      by_cases hcase : between = false ∨ ∀ n, s.gate.truncated ≠ some (n, s.clock)
      · exact (State.frameTag_present u between hcase).trans (hnow hcase).symm
      · obtain ⟨hb, hn⟩ := not_or.1 hcase
        obtain ⟨n, hn⟩ := not_forall_not.1 hn
        have hb' : between = true := by simpa using hb
        rw [hb', State.frameTag_between u n hn]
        exact (hbetween n hb' hn).symm
    have hfresh : newAssembly l p w tag = fresh := newAssembly_eq
    refine ⟨fun hx => ?_, fun x hx => ?_⟩
    · rw [exec_sampleWrite_of_snoops h, State.assembleWrite_header, State.headerWrite_idle (s := u) hx htag, hfresh]
      rfl
    · rw [exec_sampleWrite_of_snoops h, State.assembleWrite_header, State.headerWrite_tears (s := u) hx htag, hfresh]
      rfl
  · intro listen
    exact ⟨fun hl => Assembler.chargeLost_listen (Gates.listens_iff.2 hl), fun hl => Assembler.chargeLost_silent (mt Gates.listens_iff.1 hl)⟩

/-! ## Data, partial and stray writes (R21 to R23) -/

section
variable {s : State} {l : Fin 32} {p : Fin 48} {i : Fin 128} {lanes : Lanes} {w : Word} {later between : Bool} {x : Assembly}

theorem fullWord_iff : fullWord lanes = true ↔ lanes = 0xF := by simp [fullWord]

theorem State.assembleWrite_data (hx : s.asm.assembly = some x) {j : Fin 126} (hi : i.val = j.val + 1) :
    s.assembleWrite x.slot p i 0xF w later between = { s with
      asm := { s.asm with assembly := some { x with buf := x.buf.set j w, written := x.written.set j true } } } := by
  have h0 : ¬ i = 0 := fun h => absurd (hi.symm.trans (congrArg Fin.val h)) (by simp)
  have h127 : ¬ i.val = 127 := by omega
  have hj : i.val - 1 = j.val := by omega
  have hdata : x.dataWrite i w = { x with buf := x.buf.set j w, written := x.written.set j true } := by
    unfold Assembly.dataWrite
    rw [hj]
    simp [vmod]
  have hfull : s.fullWrite x i w later = { s with asm := s.asm.put (some { x with
      buf := x.buf.set j w, written := x.written.set j true }) } := by
    rw [State.fullWrite, if_neg h127, hdata]
  unfold State.assembleWrite
  rw [if_pos (fullWord_iff.2 rfl), if_neg h0, hx]
  exact (if_pos rfl).trans hfull

theorem State.stray_running {r : CycleRun} (h : s.gate.state = .inCycle r) : s.stray p = { s with
    asm := { s.asm with
      tags := s.asm.tags.set p .disturbed
      accounts := s.asm.accounts.map fun x =>
        if x.cycle = r.summary.cycle then { x with strays := min 65535 (x.strays + 1) } else x } } := by
  unfold State.stray
  dsimp only
  rw [h]
  rfl

theorem State.stray_idle (h : ∀ r, s.gate.state ≠ .inCycle r) :
    s.stray p = { s with asm := { s.asm with tags := s.asm.tags.set p .disturbed } } := by
  unfold State.stray
  dsimp only
  split
  · next r hr => exact absurd hr (h r)
  · rfl

/-- The torn mark of a partial write (R22); a full-word write leaves it. -/
def Assembler.tornBy (a : Assembler) (lanes : Lanes) : Assembler :=
  { a with assembly := if lanes = 0xF then a.assembly else a.assembly.map fun x => { x with torn := true } }

theorem State.assembleWrite_partial (hl : lanes ≠ 0xF) (hx : s.asm.assembly = some x) (hs : x.slot = l) :
    s.assembleWrite l p i lanes w later between =
      { s with asm := { s.asm with assembly := some { x with torn := true } } } := by
  unfold State.assembleWrite Assembler.markTorn
  rw [if_neg (mt fullWord_iff.1 hl), hx]
  exact if_pos hs

/-- A write that is not to the slot being assembled, and no full-word header, is stray (R23). -/
theorem State.assembleWrite_stray (hl : lanes ≠ 0xF ∨ i ≠ 0) (hx : ∀ x, s.asm.assembly = some x → x.slot ≠ l) :
    s.assembleWrite l p i lanes w later between = State.stray { s with asm := s.asm.tornBy lanes } p := by
  by_cases hf : lanes = 0xF
  · have h0 : ¬ i = 0 := hl.resolve_left (not_not_intro hf)
    have htorn : s.asm.tornBy lanes = s.asm := by
      unfold Assembler.tornBy
      rw [if_pos hf]
    rw [htorn]
    unfold State.assembleWrite
    rw [if_pos (fullWord_iff.2 hf), if_neg h0]
    cases ha : s.asm.assembly with
    | none => rfl
    | some x => exact if_neg (hx x ha)
  · have htorn : s.asm.tornBy lanes = s.asm.markTorn := by
      unfold Assembler.tornBy
      rw [if_neg hf]
      rfl
    rw [htorn]
    unfold State.assembleWrite
    rw [if_neg (mt fullWord_iff.1 hf)]
    cases ha : s.asm.assembly with
    | none => rfl
    | some x => exact if_neg (hx x ha)

end

/-- Settles O22: data to the slot being assembled, and partial and stray writes by slot and lanes. -/
theorem dataPartialAndStrayWrites : Obligations.DataPartialAndStrayWrites := by
  unfold Obligations.DataPartialAndStrayWrites
  refine ⟨fun s x p i j m w later between h hx hi => ?_, fun s l p i m lanes w later between h hkind => ?_⟩
  · rw [exec_sampleWrite_of_snoops h, State.assembleWrite_data (s := s.written m 0xF w) hx hi]
    rfl
  · intro torn counted disturbed gives
    have of_eq {u : State} (hu : (s.written m lanes w).assembleWrite l p i lanes w later between = u) : gives u := by
      subst hu
      exact exec_sampleWrite_of_snoops h
    refine ⟨fun x hx hs hl => of_eq (State.assembleWrite_partial (s := s.written m lanes w) hl hx hs),
      fun hno => ⟨fun r hr => of_eq ?_, fun hr => of_eq ?_⟩, fun s l p i m lanes w moment f h hf hne =>
        exec_sampleWrite_turned_away h hf hne⟩
    · exact (State.assembleWrite_stray (s := s.written m lanes w) hkind hno).trans (State.stray_running hr)
    · exact (State.assembleWrite_stray (s := s.written m lanes w) hkind hno).trans (State.stray_idle hr)

end Sys2Proof.Machine
end

section
/-! PROOFS. The trailer of a frame, and the sequence check (R24 to R26, R33, R122, R124, R130). -/

namespace Sys2Proof.Machine

/-! ## The trailer (R24, R130) -/

section
variable {s : State} {x : Assembly} {w : Word} {later between : Bool} {p : Fin 48}

theorem setWidth_eq_iff {w : Word} {h : Half} : w.setWidth 16 = h ↔ fieldOf w 0 16 = h.toNat := by
  rw [← BitVec.toNat_inj, BitVec.toNat_setWidth, fieldOf, Nat.pow_zero, Nat.div_one]

theorem setWidth_high_eq_iff {w : Word} {h : Half} : (w >>> 16).setWidth 16 = ~~~h ↔ fieldOf w 16 16 = 65535 - h.toNat := by
  rw [← BitVec.toNat_inj, BitVec.toNat_setWidth, BitVec.toNat_ushiftRight, BitVec.toNat_not, Nat.shiftRight_eq_div_pow]
  rfl

/-- A whole frame (R24). -/
def Assembly.Whole (x : Assembly) (w : Word) : Prop :=
  fieldOf w 0 16 = x.seq.toNat ∧ fieldOf w 16 16 = 65535 - x.seq.toNat ∧ (∀ j : Fin 126, x.written[j] = true) ∧ x.torn = false

theorem Assembly.completes_iff : x.completes w = true ↔ x.Whole w := by
  have hall : x.written.all id = true ↔ ∀ j : Fin 126, x.written[j] = true := by
    rw [Vector.all_eq_true]
    exact ⟨fun h j => h j.val j.isLt, fun h i hi => h ⟨i, hi⟩⟩
  unfold Assembly.completes Assembly.Whole
  rw [Bool.and_eq_true, Bool.and_eq_true, Bool.and_eq_true, beq_iff_eq, beq_iff_eq, setWidth_eq_iff, setWidth_high_eq_iff, hall,
    Bool.not_eq_true', and_assoc, and_assoc]

theorem State.assembleWrite_trailer (hx : s.asm.assembly = some x) :
    s.assembleWrite x.slot p 127 0xF w later between = s.trailer x w later := by
  unfold State.assembleWrite
  rw [if_pos (fullWord_iff.2 rfl), if_neg (by decide), hx]
  exact if_pos rfl

/-- The frame of `x` is COMPLETE in its slot, and the latest complete one (R24, R124). -/
def State.frameComplete (s : State) (x : Assembly) : State :=
  { s with
    asm := { s.asm with assembly := none, tags := s.asm.tags.set x.phys (.complete x.seq) }
    cap := { s.cap with latest := some x.seq } }

theorem State.trailer_whole (h : x.Whole w) : s.trailer x w later = ((s.frameComplete x).postFrame x later).sequenceCheck x :=
  if_pos (Assembly.completes_iff.2 h)

theorem State.trailer_torn (h : ¬ x.Whole w) : s.trailer x w later = { s with asm := s.asm.tearFrame x } :=
  if_neg (mt Assembly.completes_iff.1 h)

theorem State.postFrame_no_capture (h : ∀ c : Fin 4, s.cap.table[c].state ≠ .opened) : s.postFrame x later = s := by
  unfold State.postFrame
  rw [CaptureUnit.find_eq_none h, State.freezePost_no_capture h]
  simp

theorem State.postFrame_later (h : ∃ c : Fin 4, s.cap.table[c].state = .opened) :
    s.postFrame x true = { s with cap := { s.cap with post := some ⟨x.slot, x.phys, x.seq⟩ } } := by
  obtain ⟨c, hc⟩ := h
  have hfind : (s.cap.find .opened).isSome = true := by
    rw [Option.isSome_iff_ne_none]
    exact fun hno => CaptureUnit.find_none hno c hc
  exact if_pos hfind

theorem State.postFrame_now : s.postFrame x false = s.freezePost x.slot x.seq := rfl

end

/-- Settles O23: the four conditions of R24, and the post-frame by the OPEN capture and the operand. -/
theorem trailerClosesAssembly : Obligations.TrailerClosesAssembly := by
  unfold Obligations.TrailerClosesAssembly
  intro s x p m w later between h hx u whole asm complete gives
  have hexec : exec (.sampleWrite ⟨later, between⟩) s = .next (s.settle (u.trailer x w later)) := by
    rw [exec_sampleWrite_of_snoops h, State.assembleWrite_trailer (s := s.written m 0xF w) hx]
  have of_eq {v : State} (hv : u.trailer x w later = v) : gives v := by
    subst hv
    exact hexec
  refine ⟨fun hw hno => of_eq ?_, fun hw hopen => ⟨fun hl => of_eq ?_, fun hl => of_eq ?_⟩, fun hw => of_eq ?_⟩
  · rw [State.trailer_whole hw, State.postFrame_no_capture (s := u.frameComplete x) hno]
    rfl
  · rw [State.trailer_whole hw, hl, State.postFrame_later (s := u.frameComplete x) hopen]
    rfl
  · rw [State.trailer_whole hw, hl, State.postFrame_now]
    rfl
  · rw [State.trailer_torn hw, Assembler.tearFrame_eq]
    rfl

/-! ## The sequence check (R25, R26) -/

/-- The frames of a list of queue entries. -/
def queuedFrames (l : List AQEntry) : List QFrame :=
  l.filterMap fun e => match e with
    | .frame f => some f
    | .marker _ => none

theorem AnalysisQueue.frames_eq (q : AnalysisQueue) : q.frames = (queuedFrames q.entries).length := by
  unfold AnalysisQueue.frames queuedFrames
  induction q.entries with
  | nil => rfl
  | cons e l ih => cases e <;> simp [ih]

section
variable {s : State} {x : Assembly} {m : Nat}

theorem missingCount_of_distance {last : Option Half} {seq : Half} {l : Half} (hl : last = some l) : missingCount last seq =
    if 1 ≤ (seq.toNat + 65536 - l.toNat) % 65536 ∧ (seq.toNat + 65536 - l.toNat) % 65536 ≤ 32768
      then some ((seq.toNat + 65536 - l.toNat) % 65536 - 1) else none := by
  subst hl
  unfold missingCount
  dsimp only
  simp only [half_sub_toNat, Bool.and_eq_true, decide_eq_true_eq]

/-- The frame joins the queue with a missing count, and the pending lost count returns to 0 (R26). -/
def State.joined (s : State) (x : Assembly) (m : Nat) (a : Assembler) : State :=
  { s with
    asm := { a with lastAccepted := some x.seq, pendingLost := 0 }
    aq := { s.aq with entries := s.aq.entries ++ [.frame (x.queued m)] } }

theorem State.sequenceCheck_stale (h : missingCount s.asm.lastAccepted x.seq = none) :
    s.sequenceCheck x = { s with asm := s.asm.chargeLost x.tag 1 } := by
  unfold State.sequenceCheck
  rw [h]

theorem State.sequenceCheck_overrun (h : missingCount s.asm.lastAccepted x.seq = some m) (hq : ¬ s.aq.frames < 3) :
    s.sequenceCheck x = { s with asm := (s.asm.chargeLost x.tag 1).addPending } := by
  unfold State.sequenceCheck
  rw [h]
  exact if_neg hq

theorem State.sequenceCheck_in_order (h : missingCount s.asm.lastAccepted x.seq = some 0) (hq : s.aq.frames < 3) :
    s.sequenceCheck x = s.joined x 0 s.asm := by
  unfold State.sequenceCheck
  rw [h]
  exact if_pos hq

theorem State.sequenceCheck_gap (h : missingCount s.asm.lastAccepted x.seq = some m) (hm : 0 < m) (hq : s.aq.frames < 3) :
    s.sequenceCheck x = (s.joined x m (s.asm.chargeLost x.tag (m - s.asm.pendingLost))).raise 11 := by
  unfold State.sequenceCheck
  rw [h]
  refine (if_pos hq).trans ?_
  rw [if_pos hm, if_pos hm]
  rfl

end

/-- Settles O24: the class of the sequence by its distance, and the queue by its three places. -/
theorem sequenceCheckClassifiesFrames : Obligations.SequenceCheckClassifiesFrames := by
  unfold Obligations.SequenceCheckClassifiesFrames
  intro s x queued joins overrun
  have hframes : s.aq.frames = queued := AnalysisQueue.frames_eq s.aq
  have hover : { s with asm := (s.asm.chargeLost x.tag 1).addPending } = overrun := by
    unfold Assembler.addPending
    rw [(s.asm.chargeLost_keeps x.tag 1).1]
    rfl
  refine ⟨fun hl hq => ?_, fun hl hq => ?_, fun last hl => ?_⟩
  · exact State.sequenceCheck_in_order (by rw [hl]; rfl) (hframes.trans_lt hq)
  · rw [State.sequenceCheck_overrun (m := 0) (by rw [hl]; rfl) (by omega), hover]
  · intro d
    have hcount := missingCount_of_distance (seq := x.seq) hl
    refine ⟨fun hd hq => ?_, fun h2 hd hq => ?_, fun h1 hd hq => ?_, fun hd => ?_⟩
    · exact State.sequenceCheck_in_order (hcount.trans ((if_pos (by omega)).trans (congrArg some (by omega)))) (hframes.trans_lt hq)
    · exact State.sequenceCheck_gap (hcount.trans (if_pos ⟨by omega, hd⟩)) (by omega) (hframes.trans_lt hq)
    · rw [State.sequenceCheck_overrun (hcount.trans (if_pos ⟨h1, hd⟩)) (by omega), hover]
    · exact State.sequenceCheck_stale (hcount.trans (if_neg (by omega)))

end Sys2Proof.Machine
end

section
/-! PROOFS. Edge events, and the steps of the gate program (R36, R44 to R50). -/

namespace Sys2Proof.Machine

section
variable {s : State} {r : CycleRun} {st : GateStep} {t : Nat}

/-! ## A cycle starts (R44) -/

theorem nextCycle_eq (n : Word) : nextCycle n = if n = 0xFFFFFFFF then 1 else n + 1 := rfl

/-- The Sequencer, the accounts and the mark of R101 once a cycle has started. -/
theorem State.startCycle_eq (s : State) (t : Nat) :
    let n : Word := if s.gate.cycle = 0xFFFFFFFF then 1 else s.gate.cycle + 1
    s.startCycle t = { s with
      gate :=
        { state := .inCycle ⟨0, t, t, ⟨n, false, false, none, none⟩⟩
          gates := ⟨false, false, false, false⟩
          cycle := n
          active := if s.gate.staged = none then s.gate.active else s.gate.staged
          staged := none
          truncated := none
          due := s.gate.due }
      asm := { s.asm with accounts := s.asm.accounts ++ [⟨n, ⟨0, 0, 0, 0⟩, 0, 0, ⟨0, 0, 0, 0⟩, 0, 0⟩] }
      zone := { s.zone with started := s.zone.started || n == s.zone.firstCycle } } := by
  intro n
  unfold State.startCycle
  rw [nextCycle_eq]
  cases s.gate.staged <;> rfl

/-! ## The step that waits (R45, R46, R48) -/

theorem Sequencer.current_of_step {g : Sequencer} (hr : g.state = .inCycle r) (hst : (g.active.getD [])[r.step]? = some st) :
    g.current = some (r, st) := by
  unfold Sequencer.current
  rw [hr]
  dsimp only
  rw [hst]
  rfl

theorem Sequencer.current_of_not_running {g : Sequencer} (h : ∀ r, g.state ≠ .inCycle r) : g.current = none := by
  unfold Sequencer.current
  split
  · next r hr => exact absurd hr (h r)
  · rfl

theorem State.waiting_of_step (hr : s.gate.state = .inCycle r) (hst : (s.gate.active.getD [])[r.step]? = some st) (k : WaitKind) :
    s.waiting k = if st.wait = k then some (r, st) else none := by
  unfold State.waiting
  rw [Sequencer.current_of_step hr hst]
  by_cases hk : st.wait = k <;> simp [hk]

theorem State.stepDone_next (hend : st.isEnd = false) (hlen : r.step + 1 < (s.gate.active.getD []).length) :
    s.stepDone r st t = { s with gate := { s.gate with
      state := .inCycle { r with
        summary := { r.summary with listenOpened := r.summary.listenOpened || st.gates.listen }, step := r.step + 1, stepStart := t }
      gates := st.gates } } := by
  have hno : ¬ (st.isEnd || decide ((s.gate.active.getD []).length ≤ r.step + 1)) = true := by
    rw [hend, Bool.false_or, decide_eq_true_eq]
    omega
  exact if_neg hno

theorem State.stepDone_ends (h : st.isEnd = true ∨ (s.gate.active.getD []).length ≤ r.step + 1) :
    s.stepDone r st t = State.endCycle { s with gate := { s.gate with
      state := .inCycle { r with summary := { r.summary with listenOpened := r.summary.listenOpened || st.gates.listen } } } }
      .endStep t := by
  have hyes : (st.isEnd || decide ((s.gate.active.getD []).length ≤ r.step + 1)) = true := by
    rw [Bool.or_eq_true, decide_eq_true_eq]
    exact h
  exact if_pos hyes

/-! ## An edge event (R36, R44, R46, R50) -/

theorem State.cycEdge_stopped (h : s.gate.state = .stopped) : s.edge 0 = s := by
  change s.cycEdge s.clock = s
  unfold State.cycEdge
  rw [h]

theorem State.cycEdge_idle (h : s.gate.state = .idle) : s.edge 0 = s.startCycle s.clock := by
  change s.cycEdge s.clock = _
  unfold State.cycEdge
  rw [h]

theorem State.cycEdge_running (h : s.gate.state = .inCycle r) : s.edge 0 = s.truncateCycle r s.clock := by
  change s.cycEdge s.clock = _
  unfold State.cycEdge
  rw [h]

section
variable {i : Fin 5} (hi : i ≠ 0)
include hi

theorem State.lineEdge_of_step (hr : s.gate.state = .inCycle r) (hst : (s.gate.active.getD [])[r.step]? = some st) :
    s.edge i = if st.wait = .edge ∧ st.line = i.val then s.stepDone r st s.clock else s := by
  refine (if_neg hi).trans ?_
  unfold State.lineEdge
  rw [Sequencer.current_of_step hr hst]
  exact if_congr (by simp) rfl rfl

theorem State.lineEdge_of_not_running (h : ∀ r, s.gate.state ≠ .inCycle r) : s.edge i = s := by
  refine (if_neg hi).trans ?_
  unfold State.lineEdge
  rw [Sequencer.current_of_not_running h]

end

/-! ## The rows of a wait's end (R45, R46) -/

theorem exec_delayEnd_of_waiting (h : s.waiting .delay = some (r, st)) : exec .delayEnd s =
    .next (s.settle (if s.canReach (r.stepStart + 10 * 2 ^ st.k) then
      (s.reach (r.stepStart + 10 * 2 ^ st.k)).stepDone r st (r.stepStart + 10 * 2 ^ st.k) else s)) := by
  refine congrArg s.settled ?_
  rw [h]
  rfl

theorem exec_edgeTimeout_of_waiting (h : s.waiting .edge = some (r, st)) : exec .edgeTimeout s =
    .next (s.settle (if s.canReach (r.stepStart + 10 * 2 ^ st.k) then
      (s.reach (r.stepStart + 10 * 2 ^ st.k)).endCycle .timeout (r.stepStart + 10 * 2 ^ st.k) else s)) := by
  refine congrArg s.settled ?_
  rw [h]
  rfl

theorem exec_delayEnd_of_not_waiting (h : s.waiting .delay = none) : exec .delayEnd s = .next (s.settle s) := by
  refine congrArg s.settled ?_
  rw [h]

theorem exec_edgeTimeout_of_not_waiting (h : s.waiting .edge = none) : exec .edgeTimeout s = .next (s.settle s) := by
  refine congrArg s.settled ?_
  rw [h]

end

/-- Settles O26: line 0 by the state of the Sequencer, the others by the step that waits. -/
theorem edgeEventsDriveTheCycle : Obligations.EdgeEventsDriveTheCycle := by
  unfold Obligations.EdgeEventsDriveTheCycle
  intro s starts
  have hstarts (u : State) : u.startCycle u.clock = starts u := State.startCycle_eq u u.clock
  refine ⟨State.cycEdge_stopped, fun h => ?_, fun r h => ?_, fun i r st hi hr hst => ?_, fun i hi => State.lineEdge_of_not_running hi⟩
  · rw [State.cycEdge_idle h, hstarts]
  · intro u
    have hclock : (s.endCycle .truncated s.clock).clock = s.clock := State.endCycle_touches s _ _ .clock (by decide)
    have hu : (s.endCycle .truncated s.clock).startCycle s.clock = u := by
      have h := hstarts (s.endCycle .truncated s.clock)
      rw [hclock] at h
      exact h
    rw [State.cycEdge_running h]
    unfold State.truncateCycle
    rw [hu]
  · rw [State.lineEdge_of_step hi hr hst]
    exact ⟨fun hw hl => if_pos ⟨hw, hl⟩, fun hno => if_neg hno⟩

/-- Settles O27: the wait of the step by its kind and its time, and what follows by the step's place in the program. -/
theorem stepWaitsEnd : Obligations.StepWaitsEnd := by
  unfold Obligations.StepWaitsEnd
  refine ⟨fun s r st hr hst => ?_, fun s r st t => ?_⟩
  · intro t u comes
    have hwait := State.waiting_of_step hr hst
    have hcomes : s.canReach t = true ↔ comes := s.canReach_iff t
    refine ⟨fun hk hc => ?_, fun hk hc => ?_, fun hc => ⟨?_, ?_⟩⟩
    · rw [exec_delayEnd_of_waiting ((hwait .delay).trans (if_pos hk))]
      exact congrArg (fun v => Host.Outcome.next (s.settle v)) (if_pos (hcomes.2 hc))
    · rw [exec_edgeTimeout_of_waiting ((hwait .edge).trans (if_pos hk))]
      exact congrArg (fun v => Host.Outcome.next (s.settle v)) (if_pos (hcomes.2 hc))
    · by_cases hk : st.wait = .delay
      · rw [exec_delayEnd_of_waiting ((hwait .delay).trans (if_pos hk))]
        exact congrArg (fun v => Host.Outcome.next (s.settle v)) (if_neg (mt hcomes.1 hc))
      · exact exec_delayEnd_of_not_waiting ((hwait .delay).trans (if_neg hk))
    · by_cases hk : st.wait = .edge
      · rw [exec_edgeTimeout_of_waiting ((hwait .edge).trans (if_pos hk))]
        exact congrArg (fun v => Host.Outcome.next (s.settle v)) (if_neg (mt hcomes.1 hc))
      · exact exec_edgeTimeout_of_not_waiting ((hwait .edge).trans (if_neg hk))
  · intro opened r1
    have hopened : (r.summary.listenOpened || st.gates.listen) = opened := by
      simp [opened, Gates.listen, Bool.or_assoc]
    refine ⟨fun hend hlen => ?_, fun hend => ?_⟩
    · rw [State.stepDone_next hend hlen, hopened]
    · rw [State.stepDone_ends hend, hopened]

end Sys2Proof.Machine
end

section
/-! PROOFS. The press lines: the filters, and the edge events taken in order (R35, R36, R52). -/

namespace Sys2Proof.Machine

section
variable {s : State} {i : Fin 5} {rest lines : List (Fin 5)}

/-! ## Edge events that are due (R36, R50) -/

theorem State.takeEdges_cons : s.takeEdges (i :: rest) = (s.takeEdge i).takeEdges rest := rfl

theorem State.takeEdge_due (h : i ∈ s.gate.due) : s.takeEdge i =
    (State.edge { s with gate := { s.gate with due := s.gate.due.filter (· ≠ i) } } i).noteChanges s := by
  have hfilter : (s.gate.due.filter (· != i)) = s.gate.due.filter (· ≠ i) := by
    refine congrArg (List.filter · _) (funext fun j => ?_)
    rw [Bool.eq_iff_iff]
    simp
  unfold State.takeEdge
  rw [if_pos (List.contains_iff_mem.2 h), hfilter]

theorem State.handCycleEnd_gate (s : State) (m : CycleSummary) : (s.handCycleEnd m).gate = s.gate :=
  State.handCycleEnd_touches s m .gate (by decide)

/-- An edge event leaves those of the other lines due. -/
theorem State.endCycle_due_edges (s : State) (c : Cause) (t : Nat) : (s.endCycle c t).gate.due = s.gate.due := by
  unfold State.endCycle
  split
  · rw [State.handCycleEnd_gate]
  · rfl

theorem State.stepDone_due_edges (s : State) (r : CycleRun) (st : GateStep) (t : Nat) : (s.stepDone r st t).gate.due = s.gate.due := by
  unfold State.stepDone
  dsimp only
  split
  · exact State.endCycle_due_edges _ _ _
  · rfl

theorem State.edge_due_edges (s : State) (i : Fin 5) : (s.edge i).gate.due = s.gate.due := by
  unfold State.edge State.cycEdge State.lineEdge
  split
  · split
    · rfl
    · rfl
    · exact State.endCycle_due_edges _ _ _
  · split
    · split
      · exact State.stepDone_due_edges _ _ _ _
      · rfl
    · rfl

theorem State.mem_takeEdge_due {j : Fin 5} : j ∈ (s.takeEdge i).gate.due ↔ j ∈ s.gate.due ∧ j ≠ i := by
  by_cases hi : i ∈ s.gate.due
  · have hgate : ∀ t : State, (t.noteChanges s).gate.due = t.gate.due := fun t =>
      congrArg Sequencer.due (State.noteChanges_touches t s .gate (by decide))
    rw [State.takeEdge_due hi, hgate, State.edge_due_edges]
    simp
  · rw [State.takeEdge_absent s i hi]
    exact ⟨fun hj => ⟨hj, fun he => hi (he ▸ hj)⟩, And.left⟩

theorem State.mem_takeEdges_due {j : Fin 5} : j ∈ (s.takeEdges lines).gate.due ↔ j ∈ s.gate.due ∧ j ∉ lines := by
  induction lines generalizing s with
  | nil => simp [State.takeEdges]
  | cons i rest ih =>
    rw [State.takeEdges_cons, ih, State.mem_takeEdge_due, List.mem_cons]
    tauto

/-- The edge events of all five lines taken leave none due. -/
theorem State.takeEdges_all_due (s : State) : (s.takeEdges [0, 1, 2, 3, 4]).gate.due = [] := by
  have hall : ∀ j : Fin 5, j ∈ [0, 1, 2, 3, 4] := by decide
  exact List.eq_nil_iff_forall_not_mem.2 fun j hj => (State.mem_takeEdges_due.1 hj).2 (hall j)

end

/-! ## The filter of a line (R35, R36) -/

section
variable (l : LineCond) (pin : Bool)

/-- The reading of a pin under the line's polarity (R35). -/
def LineCond.reading : Bool := if l.settings.polarity = .inverted then !pin else pin

/-- The level changes with this reading (R35). -/
def LineCond.changes : Bool := l.reading pin != l.level && decide (l.settings.filter ≤ l.agree + 1)

theorem LineCond.readPin_eq : readPin l.settings.polarity pin = l.reading pin := by
  unfold readPin LineCond.reading
  cases l.settings.polarity <;> rfl

variable {l pin}

theorem LineCond.sample_same (h : l.reading pin = l.level) : l.sample pin = ({ l with agree := 0 }, false) := by
  simp [LineCond.sample, LineCond.readPin_eq, filterStep, h]

theorem LineCond.changes_iff : l.changes pin = true ↔ l.reading pin ≠ l.level ∧ l.settings.filter ≤ l.agree + 1 := by
  simp [LineCond.changes]

theorem LineCond.sample_changes (h : l.changes pin = true) :
    l.sample pin = ({ l with level := l.reading pin, agree := 0 }, l.settings.mode.takes (l.reading pin)) := by
  obtain ⟨hne, hf⟩ := LineCond.changes_iff.1 h
  simp [LineCond.sample, LineCond.readPin_eq, filterStep, hne, hf]

theorem LineCond.sample_counts (hne : l.reading pin ≠ l.level) (h : l.changes pin = false) :
    l.sample pin = ({ l with agree := l.agree + 1 }, false) := by
  have hf : ¬ l.settings.filter ≤ l.agree + 1 := fun hf => by
    rw [LineCond.changes_iff.2 ⟨hne, hf⟩] at h
    exact Bool.noConfusion h
  simp [LineCond.sample, LineCond.readPin_eq, filterStep, hne, hf]

theorem LineCond.sample_edge : (l.sample pin).2 = (l.changes pin && l.settings.mode.takes (l.reading pin)) := by
  cases h : l.changes pin with
  | true => rw [LineCond.sample_changes h, Bool.true_and]
  | false =>
    by_cases hne : l.reading pin = l.level
    · rw [LineCond.sample_same hne, Bool.false_and]
    · rw [LineCond.sample_counts hne h, Bool.false_and]

/-- What R35 asks of a conditioner after a sample. -/
structure LineCond.Filtered (l l' : LineCond) (pin : Bool) : Prop where
  settings : l'.settings = l.settings
  same : l.reading pin = l.level → l'.level = l.level ∧ l'.agree = 0
  changed : l.changes pin = true → l'.level = l.reading pin ∧ l'.agree = 0
  counted : l.reading pin ≠ l.level → l.changes pin = false → l'.level = l.level ∧ l'.agree = l.agree + 1

theorem LineCond.Filtered.eq_sample {l' : LineCond} (h : l.Filtered l' pin) : l' = (l.sample pin).1 := by
  obtain ⟨settings, level, agree⟩ := l'
  obtain ⟨hset, hsame, hchanged, hcounted⟩ := h
  simp only at hset hsame hchanged hcounted
  subst hset
  by_cases hne : l.reading pin = l.level
  · obtain ⟨rfl, rfl⟩ := hsame hne
    rw [LineCond.sample_same hne]
  · cases hc : l.changes pin with
    | true =>
      obtain ⟨rfl, rfl⟩ := hchanged hc
      rw [LineCond.sample_changes hc]
    | false =>
      obtain ⟨rfl, rfl⟩ := hcounted hne hc
      rw [LineCond.sample_counts hne hc]

end

/-! ## The next sample (R35, R52) -/

section
variable {s : State} {pins : Vector Bool 5}

theorem State.nextSample_starting (h : s.path.state = .starting) :
    s.nextSample pins = { s.takeEdges [0, 1, 2, 3, 4] with clock := s.clock + 1 } := by
  have htouch := s.takeEdges_touches [0, 1, 2, 3, 4]
  have hpath : (s.takeEdges [0, 1, 2, 3, 4]).path.state = .starting := (congrArg PathUnit.state (htouch .path (by decide))).trans h
  have hclock : (s.takeEdges [0, 1, 2, 3, 4]).clock = s.clock := htouch .clock (by decide)
  have hfin : List.finRange 5 = [0, 1, 2, 3, 4] := by decide
  unfold State.nextSample
  dsimp only
  rw [hfin, hpath, hclock]

theorem State.nextSample_sampling (h : s.path.state ≠ .starting) : s.nextSample pins =
    State.samplePress { s.takeEdges [0, 1, 2, 3, 4] with clock := s.clock + 1 } pins := by
  have htouch := s.takeEdges_touches [0, 1, 2, 3, 4]
  have hpath : (s.takeEdges [0, 1, 2, 3, 4]).path.state ≠ .starting := by rw [htouch .path (by decide)]; exact h
  have hclock : (s.takeEdges [0, 1, 2, 3, 4]).clock = s.clock := htouch .clock (by decide)
  have hfin : List.finRange 5 = [0, 1, 2, 3, 4] := by decide
  unfold State.nextSample
  dsimp only
  rw [hfin, hclock]
  split
  · next hst => exact absurd hst hpath
  · rfl

/-- The lines with an edge event at a sample (R36). -/
def edgeLines (old : Vector LineCond 5) (pins : Vector Bool 5) : List (Fin 5) :=
  [0, 1, 2, 3, 4].filter fun i => (old[i]).changes pins[i] && (old[i]).settings.mode.takes ((old[i]).reading pins[i])

/-- The conditioners sampled are the ones R35 asks for. -/
theorem State.samplePress_eq {old ls : Vector LineCond 5} (hold : s.lines = old)
    (h : ∀ i : Fin 5, (old[i]).Filtered ls[i] pins[i]) : s.samplePress pins = { s with
      lines := ls
      gate := { s.gate with due := if s.gate.state = .stopped then [] else edgeLines old pins } } := by
  have hls : (Vector.ofFn fun i : Fin 5 => ((old[i]).sample pins[i]).1) = ls :=
    Vector.ext fun i hi => by
      rw [Vector.getElem_ofFn]
      exact (h ⟨i, hi⟩).eq_sample.symm
  have hdue : ((List.finRange 5).filter fun i => ((old[i]).sample pins[i]).2) = edgeLines old pins := by
    simp only [LineCond.sample_edge]
    rfl
  unfold State.samplePress sampleLines
  rw [hold, hls, hdue]

end

/-- Settles O25: the order of the edge events, and the five filters. -/
theorem lineSampleFiltersAndHandsEdges : Obligations.LineSampleFiltersAndHandsEdges := by
  unfold Obligations.LineSampleFiltersAndHandsEdges
  refine ⟨fun s pins lines => ⟨rfl, rfl⟩, fun s => ⟨rfl, fun i rest => ⟨fun h => ?_, fun h => ?_⟩⟩, fun s pins => ?_⟩
  · rw [State.takeEdges_cons, State.takeEdge_absent s i h]
  · rw [State.takeEdges_cons, State.takeEdge_due h]
  · intro u
    have htouch := s.takeEdges_touches [0, 1, 2, 3, 4]
    have hlines : u.lines = s.lines := htouch .lines (by decide)
    refine ⟨s.takeEdges_all_due, hlines, htouch .path (by decide), htouch .clock (by decide),
      State.takeEdges_none s _, State.nextSample_starting, fun ls hst => ?_⟩
    intro reading changes edge hls
    have hfiltered (i : Fin 5) : (s.lines[i]).Filtered ls[i] pins[i] := by
      obtain ⟨hset, hsame, hchanged, hcounted⟩ := hls i
      exact ⟨hset, hsame, hchanged, hcounted⟩
    rw [State.nextSample_sampling hst, State.samplePress_eq (s := { u with clock := s.clock + 1 }) hlines hfiltered]
    rfl

end Sys2Proof.Machine
end

section
/-! PROOFS. The TACHO input: samples, measurements, stalls and the band check (R38 to R41). -/

namespace Sys2Proof.Machine

section
variable {s : State} {pin reading : Bool} {p : Nat} {r : CycleRun}

/-! ## A sample (R39, R40) -/

theorem exec_tachoSample_of_sampled (hst : s.path.state ≠ .starting) (hno : s.tacho.stallHeld = none) :
    exec (.tachoSample pin) s = .next (s.settle (s.sampleTacho pin)) := by
  refine congrArg s.settled ?_
  rw [hno]
  cases hp : s.path.state with
  | starting => exact absurd hp hst
  | reloading => rfl
  | running => rfl

/-- The reading of the TACHO pin under its polarity (R35, R38). -/
def TachoCell.readingOf (t : TachoCell) (pin : Bool) : Bool := if t.settings.polarity = .inverted then !pin else pin

theorem TachoCell.readPin_eq (t : TachoCell) (pin : Bool) : readPin t.settings.polarity pin = t.readingOf pin := by
  unfold readPin TachoCell.readingOf
  cases t.settings.polarity <;> rfl

/-- The count after a sample (R39). -/
def TachoCell.counted (t : TachoCell) : Nat := min 65535 (t.count + 10)

theorem State.sampleTacho_eq : s.sampleTacho pin =
    if s.tacho.counted = 65535 ∧ s.tacho.stalled = false then
      { s with tacho := { s.tacho with count := s.tacho.counted, stallHeld := some (s.tacho.readingOf pin) } }
    else State.tachoFilter { s with tacho := { s.tacho with count := s.tacho.counted } } (s.tacho.readingOf pin) := by
  unfold State.sampleTacho
  rw [TachoCell.readPin_eq]
  exact if_congr (by rw [Bool.and_eq_true, decide_eq_true_eq, Bool.not_eq_true']; rfl) rfl rfl

/-! ## The band check (R41) -/

theorem State.bandCheck_silent (h : ¬ s.gate.gates.listen = true) : s.bandCheck p = s := if_neg h

/-- A period outside the band. -/
def TachoCell.Off (t : TachoCell) (p : Nat) : Prop := p = 0 ∨ p < t.pmin ∨ t.pmax < p

/-- The run with a period counted in (R41). -/
def CycleRun.withPeriod (r : CycleRun) (p : Nat) (flag : Bool) : CycleRun :=
  { r with summary := { r.summary with
    minPeriod := some (min p (r.summary.minPeriod.getD p))
    maxPeriod := some (max p (r.summary.maxPeriod.getD p))
    vibOff := flag } }

/-- The Sequencer's run replaced. -/
def State.withRun (s : State) (r : CycleRun) : State := { s with gate := { s.gate with state := .inCycle r } }

theorem State.bandCheck_of_run (hl : s.gate.gates.listen = true) (hr : s.gate.state = .inCycle r) {off : Bool}
    (ho : (p == 0 || decide (p < s.tacho.pmin) || decide (s.tacho.pmax < p)) = off) : s.bandCheck p =
      if off && !r.summary.vibOff then (s.withRun (r.withPeriod p (r.summary.vibOff || off))).raise 12
      else s.withRun (r.withPeriod p (r.summary.vibOff || off)) := by
  subst ho
  unfold State.bandCheck
  rw [if_pos hl, hr]
  rfl

theorem TachoCell.off_iff {t : TachoCell} :
    (p == 0 || decide (p < t.pmin) || decide (t.pmax < p)) = true ↔ t.Off p := by
  simp [TachoCell.Off, or_assoc]

/-! ## The filter and the measuring edge (R38, R39) -/

theorem State.tachoFilter_same (h : reading = s.tacho.level) : s.tachoFilter reading = { s with tacho := { s.tacho with agree := 0 } } := by
  unfold State.tachoFilter filterStep
  rw [if_pos h]
  rfl

theorem State.tachoFilter_counts (h : reading ≠ s.tacho.level) (hf : s.tacho.agree + 1 < s.tacho.settings.filter) :
    s.tachoFilter reading = { s with tacho := { s.tacho with agree := s.tacho.agree + 1 } } := by
  unfold State.tachoFilter filterStep
  rw [if_neg h, if_neg (Nat.not_le.2 hf)]
  rfl

theorem State.tachoFilter_changes (h : reading ≠ s.tacho.level) (hf : s.tacho.settings.filter ≤ s.tacho.agree + 1) :
    s.tachoFilter reading = if s.tacho.settings.edge.takes reading then
        State.measuringEdge { s with tacho := { s.tacho with level := reading, agree := 0 } }
      else { s with tacho := { s.tacho with level := reading, agree := 0 } } := by
  unfold State.tachoFilter filterStep
  rw [if_neg h, if_pos hf]
  simp

theorem MeasEdge.takes_iff {m : MeasEdge} :
    m.takes reading = true ↔ reading = true ∧ m = .rising ∨ reading = false ∧ m = .falling := by
  cases m <;> cases reading <;> simp [MeasEdge.takes]

theorem State.measuringEdge_afresh (h : s.tacho.reference = false ∨ s.tacho.stalled = true) : s.measuringEdge =
    { s with tacho := { s.tacho with reference := true, stalled := false, count := 0 } } := by
  have hno : ¬ (s.tacho.reference && !s.tacho.stalled) = true := by
    rcases h with h | h <;> simp [h]
  exact if_neg hno

theorem State.measuringEdge_measures (hr : s.tacho.reference = true) (hs : s.tacho.stalled = false) : s.measuringEdge =
    State.bandCheck { s with tacho := { s.tacho with reference := true, stalled := false, count := 0, last := s.tacho.count } }
      s.tacho.count := by
  have hyes : (s.tacho.reference && !s.tacho.stalled) = true := by simp [hr, hs]
  exact if_pos hyes

theorem exec_tachoStall_of_held (h : s.tacho.stallHeld = some reading) :
    exec .tachoStall s = .next (s.settle (s.stall reading)) := by
  refine congrArg s.settled ?_
  rw [h]

end

/-- Settles O29: the sample by its count, the filter by the reading, and the band check by the gates and the period. -/
theorem tachoMeasuresAndStalls : Obligations.TachoMeasuresAndStalls := by
  unfold Obligations.TachoMeasuresAndStalls
  refine ⟨fun s pin hst hno => ?_, fun s reading => ⟨fun h => exec_tachoStall_of_held h, State.tachoFilter_same,
    State.tachoFilter_counts, fun hne hf => ?_⟩, fun s p => ⟨fun ⟨ha, hb, hc⟩ => ?_, fun r hl hr => ?_⟩⟩
  · intro reading count u
    have hexec := exec_tachoSample_of_sampled (pin := pin) hst hno
    refine ⟨fun hc hs => ?_, fun hc => ?_⟩
    · rw [hexec, State.sampleTacho_eq]
      exact congrArg (fun v => Host.Outcome.next (s.settle v)) (if_pos ⟨hc, hs⟩)
    · have hneg : ¬ (s.tacho.counted = 65535 ∧ s.tacho.stalled = false) := fun ⟨h1, h2⟩ => by
        rcases hc with hc | hc
        · exact absurd h1 (Nat.ne_of_lt hc)
        · exact Bool.noConfusion (h2.symm.trans hc)
      rw [hexec, State.sampleTacho_eq]
      exact congrArg (fun v => Host.Outcome.next (s.settle v)) (if_neg hneg)
  · intro t fresh measuring
    have hchange := State.tachoFilter_changes hne hf
    refine ⟨fun hm => ?_, fun hm hfresh => ?_, fun hm href hstalled => ?_⟩
    · exact hchange.trans (if_neg (mt MeasEdge.takes_iff.1 hm))
    · refine hchange.trans ((if_pos (MeasEdge.takes_iff.2 hm)).trans ?_)
      exact State.measuringEdge_afresh (s := { s with tacho := t }) hfresh
    · refine hchange.trans ((if_pos (MeasEdge.takes_iff.2 hm)).trans ?_)
      exact State.measuringEdge_measures (s := { s with tacho := t }) href hstalled
  · exact State.bandCheck_silent (by simp [Gates.listen, ha, hb, hc])
  · intro off lo hi u
    have hlisten : s.gate.gates.listen = true := by simpa [Gates.listen, or_assoc] using hl
    have hu (flag : Bool) : s.withRun (r.withPeriod p flag) = u flag := by
      have hlo : min p (r.summary.minPeriod.getD p) = lo := by
        unfold lo
        cases r.summary.minPeriod <;> simp
      have hhi : max p (r.summary.maxPeriod.getD p) = hi := by
        unfold hi
        cases r.summary.maxPeriod <;> simp
      unfold State.withRun CycleRun.withPeriod
      rw [hlo, hhi]
    have hon (h : off) := State.bandCheck_of_run (off := true) hlisten hr (TachoCell.off_iff.2 h)
    refine ⟨fun h => ?_, fun h hv => ?_, fun h hv => ?_⟩
    · have hfalse : (p == 0 || decide (p < s.tacho.pmin) || decide (s.tacho.pmax < p)) = false :=
        Bool.eq_false_iff.2 (mt TachoCell.off_iff.1 h)
      rw [State.bandCheck_of_run hlisten hr hfalse, Bool.or_false, hu]
      rfl
    · rw [hon h, hv, Bool.or_true, hu]
      rfl
    · rw [hon h, hv, Bool.or_true, hu]
      rfl

end Sys2Proof.Machine
end

section
/-! PROOFS. The Notice Unit: raises, the current cause, the batch counters and the stop latch (R143 to R148). -/

namespace Sys2Proof.Machine

section
variable {n : NoticeUnit} {s : State} {f g m now : Nat} {k : BatchKind}

/-! ## Raising (R143, R147) -/

theorem NoticeUnit.raise_pending (h : n.pending.getLsbD f = true) : n.raise f now = n := if_pos h

theorem NoticeUnit.raise_plain (h : n.pending.getLsbD f = false) (hplain : n.sources.getLsbD f = false ∨ n.latch = true) :
    n.raise f now = { n with pending := n.pending ||| factorBit f } := by
  unfold NoticeUnit.raise
  rw [if_neg (by rw [h]; exact Bool.false_ne_true)]
  rcases hplain with hs | hl
  · exact if_neg (by rw [hs]; exact Bool.false_ne_true)
  · exact (if_congr Iff.rfl (if_pos hl) rfl).trans (ite_self _)

theorem NoticeUnit.raise_latches (h : n.pending.getLsbD f = false) (hs : n.sources.getLsbD f = true) (hl : n.latch = false) :
    n.raise f now = { n with
      pending := n.pending ||| factorBit f ||| factorBit fStopAsserted
      latch := true
      pulse := if n.mode = .pulse then some now else none } := by
  unfold NoticeUnit.raise NoticeUnit.setLatch
  rw [if_neg (by rw [h]; exact Bool.false_ne_true), if_pos hs, if_neg (by rw [hl]; exact Bool.false_ne_true)]
  cases hm : n.mode <;> simp

/-! ## The current cause (R145) -/

/-- The current cause among the factors below `m`. -/
def NoticeUnit.causeBelow (n : NoticeUnit) (m : Nat) : Option Nat := (List.range m).foldl n.better none

theorem NoticeUnit.causeBelow_succ (n : NoticeUnit) (m : Nat) : n.causeBelow (m + 1) = n.better (n.causeBelow m) m := by
  simp [NoticeUnit.causeBelow, List.range_succ]

theorem NoticeUnit.better_of_candidate (h : n.candidate f = true) (best : Option Nat) :
    n.better best f = some (match best with
      | none => f
      | some g => if vget n.levels g 0 < vget n.levels f 0 then f else g) := by
  unfold NoticeUnit.better
  rw [if_pos h]
  cases best with
  | none => rfl
  | some g => exact (apply_ite some _ _ _).symm

theorem NoticeUnit.better_of_not_candidate (h : ¬ n.candidate f = true) (best : Option Nat) : n.better best f = best := if_neg h

theorem NoticeUnit.causeBelow_none (h : ∀ f < m, ¬ n.candidate f = true) : n.causeBelow m = none := by
  induction m with
  | zero => rfl
  | succ m ih =>
    rw [NoticeUnit.causeBelow_succ, NoticeUnit.better_of_not_candidate (h m m.lt_succ_self)]
    exact ih fun f hf => h f (Nat.lt_succ_of_lt hf)

theorem NoticeUnit.candidate_of_causeBelow (h : n.causeBelow m = some g) : g < m ∧ n.candidate g = true := by
  induction m with
  | zero => cases h
  | succ m ih =>
    rw [NoticeUnit.causeBelow_succ] at h
    have keep (hb : n.causeBelow m = some g) : g < m + 1 ∧ n.candidate g = true := (ih hb).imp_left Nat.lt_succ_of_lt
    by_cases hm : n.candidate m = true
    · rw [NoticeUnit.better_of_candidate hm] at h
      split at h
      · cases h
        exact ⟨Nat.lt_succ_self _, hm⟩
      · next b hb =>
        split at h <;> cases h
        · exact ⟨Nat.lt_succ_self _, hm⟩
        · exact keep hb
    · rw [NoticeUnit.better_of_not_candidate hm] at h
      exact keep h

/-- The factor that the others do not exceed, the lowest among equals, is the cause. -/
theorem NoticeUnit.causeBelow_best (hf : f < m) (hc : n.candidate f = true)
    (hmax : ∀ g < m, n.candidate g = true → vget n.levels g 0 ≤ vget n.levels f 0)
    (hlow : ∀ g < m, n.candidate g = true → vget n.levels g 0 = vget n.levels f 0 → f ≤ g) : n.causeBelow m = some f := by
  induction m with
  | zero => exact absurd hf (Nat.not_lt_zero f)
  | succ m ih =>
    rw [NoticeUnit.causeBelow_succ]
    rcases Nat.lt_succ_iff_lt_or_eq.1 hf with hlt | rfl
    · have hbest : n.causeBelow m = some f := ih hlt (fun g hg => hmax g (Nat.lt_succ_of_lt hg))
        (fun g hg => hlow g (Nat.lt_succ_of_lt hg))
      by_cases hm : n.candidate m = true
      · rw [NoticeUnit.better_of_candidate hm, hbest]
        exact congrArg some (if_neg (Nat.not_lt.2 (hmax m m.lt_succ_self hm)))
      · rw [NoticeUnit.better_of_not_candidate hm, hbest]
    · rw [NoticeUnit.better_of_candidate hc]
      cases hb : n.causeBelow f with
      | none => rfl
      | some g =>
        obtain ⟨hgf, hg⟩ := NoticeUnit.candidate_of_causeBelow hb
        have hle := hmax g (Nat.lt_succ_of_lt hgf) hg
        have hne : vget n.levels g 0 ≠ vget n.levels f 0 := fun he =>
          absurd (hlow g (Nat.lt_succ_of_lt hgf) hg he) (Nat.not_le.2 hgf)
        exact congrArg some (if_pos (Nat.lt_of_le_of_ne hle hne))

theorem NoticeUnit.candidate_iff (f : Fin 16) :
    n.candidate f = true ↔ n.pending.getLsbD f = true ∧ n.enables.getLsbD f = true ∧ 0 < n.levels[f] := by
  unfold NoticeUnit.candidate
  rw [vget_fin, Bool.and_eq_true, Bool.and_eq_true, decide_eq_true_eq, and_assoc]

theorem NoticeUnit.cause_none (h : ∀ f : Fin 16, ¬ n.candidate f = true) : n.cause = none :=
  NoticeUnit.causeBelow_none fun f hf => h ⟨f, hf⟩

theorem NoticeUnit.cause_best (f : Fin 16) (hc : n.candidate f = true)
    (hmax : ∀ g : Fin 16, n.candidate g = true → n.levels[g] ≤ n.levels[f])
    (hlow : ∀ g : Fin 16, n.candidate g = true → n.levels[g] = n.levels[f] → f ≤ g) : n.cause = some f.val := by
  refine NoticeUnit.causeBelow_best f.isLt hc (fun g hg h => ?_) (fun g hg h he => ?_)
  · rw [vget_fin n.levels f, vget_fin n.levels ⟨g, hg⟩]
    exact hmax ⟨g, hg⟩ h
  · rw [vget_fin n.levels f, vget_fin n.levels ⟨g, hg⟩] at he
    exact hlow ⟨g, hg⟩ h he

theorem NoticeUnit.noticeActive_none (h : n.cause = none) : n.noticeActive = false := by
  unfold NoticeUnit.noticeActive
  rw [h]

theorem NoticeUnit.noticeActive_iff {f : Fin 16} (h : n.cause = some f.val) : n.noticeActive = true ↔ n.mask < n.levels[f] := by
  unfold NoticeUnit.noticeActive
  rw [h, ← vget_fin n.levels f 0]
  exact decide_eq_true_iff

/-! ## Batch counters (R144) -/

theorem State.fireBatch_zero (h : (s.notice.batch k).counter = 0) : s.fireBatch k =
    State.raise { s with notice := s.notice.setBatch k ⟨(s.notice.batch k).count, (s.notice.batch k).count⟩ } (batchFactor k) :=
  if_pos h

theorem State.fireBatch_pos (h : ¬ (s.notice.batch k).counter = 0) : s.fireBatch k = s := if_neg h

theorem State.serveBatch_eq : s.serveBatch k = { s.fireBatch k with
    notice := (s.fireBatch k).notice.setBatch k ⟨((s.fireBatch k).notice.batch k).count, ((s.fireBatch k).notice.batch k).counter - 1⟩ } :=
  rfl

theorem NoticeUnit.batch_setBatch (n : NoticeUnit) (k : BatchKind) (b : Batch) : (n.setBatch k b).batch k = b := by
  cases k <;> rfl

/-! ## The stop pulse (R148) -/

theorem exec_stopPulseExpiry_of_pulse {start : Nat} (h : s.notice.pulse = some start) : exec .stopPulseExpiry s =
    s.settled (if s.canReach (start + tickSpan s.notice.k) then
      { s.reach (start + tickSpan s.notice.k) with notice := s.notice.releaseStop } else s) := by
  refine congrArg s.settled ?_
  rw [h]

end

/-- Settles O48: the raises by flag, source and latch, the cause by induction on the factors, and the counters at and above 0. -/
theorem noticeFactorsAndStopLatch : Obligations.NoticeFactorsAndStopLatch := by
  unfold Obligations.NoticeFactorsAndStopLatch
  refine ⟨fun n f now _ => ⟨NoticeUnit.raise_pending, NoticeUnit.raise_plain, NoticeUnit.raise_latches⟩, fun n => ?_,
    fun s k h => ?_, fun s k count m h => ?_, fun s k h => ?_, fun s => ⟨rfl, rfl⟩, fun s start h => ?_⟩
  · intro can
    have hcan (f : Fin 16) : n.candidate f = true ↔ can f := NoticeUnit.candidate_iff f
    refine ⟨fun hno => ?_, fun f hf hmax hlow => ?_⟩
    · have hcause := NoticeUnit.cause_none fun f => mt (hcan f).1 (hno f)
      exact ⟨hcause, NoticeUnit.noticeActive_none hcause⟩
    · have hcause := NoticeUnit.cause_best f ((hcan f).2 hf) (fun g hg => hmax g ((hcan g).1 hg))
        (fun g hg => hlow g ((hcan g).1 hg))
      exact ⟨hcause, NoticeUnit.noticeActive_iff hcause⟩
  · refine congrArg s.settled ((State.fireBatch_zero h).trans ?_)
    cases k <;> rfl
  · have hfire : s.fireBatch k = s := State.fireBatch_pos (by rw [h]; exact Nat.succ_ne_zero m)
    rw [State.serveBatch_eq, hfire, h]
    rfl
  · intro count f u
    have hfire : s.fireBatch k = u := (State.fireBatch_zero h).trans (by cases k <;> rfl)
    have hbatch : u.notice.batch k = ⟨count, count⟩ := (NoticeUnit.raise_batch _ _ _ k).trans (NoticeUnit.batch_setBatch _ _ _)
    rw [State.serveBatch_eq, hfire, hbatch]
  · intro t comes
    have hexec := exec_stopPulseExpiry_of_pulse h
    have hcomes : s.canReach (start + tickSpan s.notice.k) = true ↔ comes := State.canReach_iff s _
    exact ⟨fun hc => hexec.trans (congrArg s.settled (if_pos (hcomes.2 hc))),
      fun hc => hexec.trans (congrArg s.settled (if_neg (mt hcomes.1 hc)))⟩

end Sys2Proof.Machine
end

section
/-! PROOFS. The image read with its one retry, and the levels of the NVM link (R159, R161). -/

namespace Sys2Proof.Machine

section
variable {s : State}

/-! ## The image read (R161) -/

/-- The Image Loader's phase replaced. -/
def State.atPhase (s : State) (p : LoaderPhase) : State := { s with loader := { s.loader with phase := p } }

theorem exec_resetRelease_of_held (h : s.loader.phase = .held) : exec .resetRelease s = .next (s.settle (s.beginAttempt false)) := by
  refine congrArg s.settled ?_
  rw [h]

theorem exec_imageRead_of_reading {second : Bool} (h : s.loader.phase = .reading second) (status : Byte) (bytes : List Byte) :
    exec (.imageRead status bytes) s =
      .next (s.settle (s.atPhase (afterAttempt second (judgeRead status bytes) s.clock))) := by
  refine congrArg s.settled ?_
  rw [h]
  rfl

theorem exec_imageRetry_of_retryWait {since : Nat} (h : s.loader.phase = .retryWait since) :
    exec .imageRetry s = .next (s.settle ((s.reach (since + retrySpan)).beginAttempt true)) := by
  refine congrArg s.settled ?_
  rw [h]

/-! ## The levels of one instruction (R159) -/

/-- In a list of blocks of one length, element `k` of block `j` stands at `len * j + k`. -/
theorem getElem?_flatMap_of_length {α β : Type} {f : α → List β} {len : Nat} (hf : ∀ x, (f x).length = len) {k : Nat}
    (hk : k < len) {x : α} : ∀ {l : List α} {j : Nat}, l[j]? = some x → (l.flatMap f)[len * j + k]? = (f x)[k]?
  | [], _, h => by cases h
  | y :: l, 0, h => by
    cases h
    rw [List.flatMap_cons, Nat.mul_zero, Nat.zero_add, List.getElem?_append_left (by rw [hf]; exact hk)]
  | y :: l, j + 1, h => by
    have hsub : len * (j + 1) + k - (f y).length = len * j + k := by
      rw [hf, Nat.mul_succ]
      omega
    rw [List.flatMap_cons, List.getElem?_append_right (by rw [hf, Nat.mul_succ]; omega), hsub]
    exact getElem?_flatMap_of_length hf hk h

theorem length_flatMap_of_length {α β : Type} {f : α → List β} {len : Nat} (hf : ∀ x, (f x).length = len) (l : List α) :
    (l.flatMap f).length = len * l.length := by
  induction l with
  | nil => rfl
  | cons x l ih => rw [List.flatMap_cons, List.length_append, hf, ih, List.length_cons, Nat.mul_succ, Nat.add_comm]

theorem length_serialBits (b : Byte) : (serialBits b).length = 8 := by simp [serialBits]

theorem serialBits_getElem? (b : Byte) {k : Nat} (hk : k < 8) : (serialBits b)[k]? = some (b.getLsbD (7 - k)) := by
  have hmsb : b.getMsbD k = b.getLsbD (7 - k) := by
    rw [BitVec.getMsbD, decide_eq_true hk, Bool.true_and]
  simp [serialBits, hk, hmsb]

theorem length_instrBits (instr : List Byte) : (instrBits instr).length = 8 * (instr.length + bytesTaken instr) := by
  rw [instrBits, List.length_append, List.length_map, length_flatMap_of_length length_serialBits, List.length_replicate,
    Nat.mul_add]

/-- Bit `k` of byte `j`, most significant first. -/
theorem instrBits_getElem? {instr : List Byte} {j k : Nat} {x : Byte} (hx : instr[j]? = some x) (hk : k < 8) :
    (instrBits instr)[8 * j + k]? = some (some (x.getLsbD (7 - k))) := by
  have hbit : (instr.flatMap serialBits)[8 * j + k]? = some (x.getLsbD (7 - k)) :=
    (getElem?_flatMap_of_length length_serialBits hk hx).trans (serialBits_getElem? x hk)
  have hlt : 8 * j + k < ((instr.flatMap serialBits).map some).length := by
    rw [List.length_map]
    exact (List.getElem?_eq_some_iff.1 hbit).1
  rw [instrBits, List.getElem?_append_left hlt, List.getElem?_map, hbit]
  rfl

theorem length_bitLevels (b : Option Bool) : (bitLevels b).length = 2 := rfl

/-- The levels of an instruction up to the return of NVM_CS_N. -/
def selectedLevels (instr : List Byte) : List LinkLevels := (instrBits instr).flatMap bitLevels ++ [⟨false, false, none⟩]

theorem instrLevels_eq (instr : List Byte) : instrLevels instr = selectedLevels instr ++ [LinkLevels.idle] := by
  simp [instrLevels, selectedLevels]

theorem length_selectedLevels (instr : List Byte) :
    (selectedLevels instr).length = 16 * (instr.length + bytesTaken instr) + 1 := by
  rw [selectedLevels, List.length_append, length_flatMap_of_length length_bitLevels, length_instrBits, ← Nat.mul_assoc]
  rfl

theorem csN_of_mem_selectedLevels {instr : List Byte} {x : LinkLevels} (h : x ∈ selectedLevels instr) : x.csN = false := by
  rcases List.mem_append.1 h with h | h
  · obtain ⟨b, -, hx⟩ := List.mem_flatMap.1 h
    rcases List.mem_pair.1 hx with rfl | rfl <;> rfl
  · rw [List.mem_singleton.1 h]

/-- The two levels of bit `k` of byte `j`: the second follows the rising edge. -/
theorem instrLevels_getElem? {instr : List Byte} {j k e : Nat} {x : Byte} (hx : instr[j]? = some x) (hk : k < 8) (he : e < 2) :
    (instrLevels instr)[16 * j + 2 * k + e]? = (bitLevels (some (x.getLsbD (7 - k))))[e]? := by
  have hlevel := getElem?_flatMap_of_length length_bitLevels he (instrBits_getElem? hx hk)
  have hindex : 2 * (8 * j + k) + e = 16 * j + 2 * k + e := by omega
  rw [hindex] at hlevel
  have hlt : 16 * j + 2 * k + e < ((instrBits instr).flatMap bitLevels).length := by
    have hsome : (bitLevels (some (x.getLsbD (7 - k))))[e]? = some (bitLevels (some (x.getLsbD (7 - k))))[e] :=
      List.getElem?_eq_getElem he
    exact (List.getElem?_eq_some_iff.1 (hlevel.trans hsome)).1
  rw [instrLevels, List.getElem?_append_left hlt, hlevel]

theorem bytesTaken_cons (b : Byte) (bytes : List Byte) :
    bytesTaken (b :: bytes) = if b = 0x05 then 1 else if b = 0x03 then 1024 else 0 := by
  by_cases h5 : b = 0x05
  · subst h5
    rfl
  · by_cases h3 : b = 0x03
    · subst h3
      rfl
    · rw [if_neg h5, if_neg h3, bytesTaken]
      · exact fun _ h => h5 (List.cons.inj h).1
      · exact fun _ h => h3 (List.cons.inj h).1

/-! ## The levels of the link (R159) -/

theorem State.linkBusy_iff : s.linkBusy = true ↔ (∃ second, s.loader.phase = .reading second) ∨
    (∃ i image p since, s.cmd.exec = some ⟨i, .saving image p since⟩) ∨ ∃ i image, s.cmd.exec = some ⟨i, .verifying image⟩ := by
  unfold State.linkBusy
  rw [Bool.or_eq_true]
  refine or_congr ?_ ?_
  · split <;> simp_all
  · split <;> simp_all

theorem State.linkLevels_mem (hb : s.linkBusy = true) (hs : s.loader.sent ≠ []) :
    ∃ instr ∈ s.loader.sent, s.linkLevels ∈ instrLevels instr := by
  obtain ⟨first, rest, hcons⟩ := List.exists_cons_of_ne_nil hs
  have hpos : 0 < (s.loader.sent.flatMap instrLevels).length := by
    rw [hcons, List.flatMap_cons, instrLevels_eq]
    simp
  have hlt := Nat.mod_lt (Config.linkMoment s.clock s.free) hpos
  have hlevels : s.linkLevels = (s.loader.sent.flatMap instrLevels)[
      Config.linkMoment s.clock s.free % (s.loader.sent.flatMap instrLevels).length] := by
    unfold State.linkLevels
    rw [if_pos hb]
    exact congrArg (fun o : Option LinkLevels => o.getD .idle) (List.getElem?_eq_getElem hlt)
  exact List.mem_flatMap.1 (hlevels ▸ List.getElem_mem hlt)

end

/-- Settles O49: the loader by its phase, and the levels by the place of each bit among those of an instruction. -/
theorem imageReadRetriesOnce : Obligations.ImageReadRetriesOnce := by
  unfold Obligations.ImageReadRetriesOnce
  refine ⟨fun s => ?_, fun s => ?_, fun b bytes => ?_⟩
  · intro phase attempt
    have hread {second : Bool} (hp : s.loader.phase = .reading second) (status : Byte) (bytes : List Byte)
        {result : Option (ImageConfig × Bool)} (hj : judgeRead status bytes = result) :
        exec (.imageRead status bytes) s = .next (s.settle (phase (afterAttempt second result s.clock))) :=
      hj ▸ exec_imageRead_of_reading hp status bytes
    refine ⟨exec_resetRelease_of_held, fun second status bytes cfg clamped hp hj => ?_, fun status bytes hp hj => ?_,
      fun status bytes hp hj => ?_, fun since hp => exec_imageRetry_of_retryWait hp⟩
    · exact hread hp status bytes hj
    · exact hread hp status bytes hj
    · exact hread hp status bytes hj
  · intro working
    have hbusy : s.linkBusy = true ↔ working := State.linkBusy_iff
    refine ⟨fun hno => ?_, fun hw hs => State.linkLevels_mem (hbusy.2 hw) hs⟩
    have hidle := s.linkLevels_idle (Bool.eq_false_iff.2 (mt hbusy.1 hno))
    exact ⟨congrArg LinkLevels.csN hidle, congrArg LinkLevels.sck hidle⟩
  · intro instr taken levels
    have hlevels : levels = selectedLevels instr ++ [LinkLevels.idle] := instrLevels_eq instr
    have hlength : (selectedLevels instr).length = 16 * (instr.length + taken) + 1 :=
      (length_selectedLevels instr).trans (by rw [bytesTaken_cons b bytes])
    refine ⟨?_, fun j k x hx hk => ?_, fun i hi => ?_, ?_⟩
    · rw [hlevels, List.length_append, hlength]
      rfl
    · exact ⟨instrLevels_getElem? hx hk (e := 0) Nat.zero_lt_two, instrLevels_getElem? hx hk (e := 1) Nat.one_lt_two⟩
    · have hlt : i < (selectedLevels instr).length := hlength.symm ▸ hi
      have hcs := csN_of_mem_selectedLevels (List.getElem_mem hlt)
      refine ⟨(selectedLevels instr)[i].sck, (selectedLevels instr)[i].dout, ?_⟩
      rw [hlevels, List.getElem?_append_left hlt, List.getElem?_eq_getElem hlt, ← hcs]
    · rw [hlevels, List.getLast?_concat]
      rfl

end Sys2Proof.Machine
end
